-- ==== Sys2Proof/Word.lean ====
section
/-! DEFINITION. The machine words of the part and the plainest whole-number arithmetic of its rules. -/

namespace Sys2Proof

/-- One byte of the link, of the load sample line or of a record body. -/
abbrev Byte := BitVec 8

/-- A 16-bit value: a table check, an echo pattern, a wind number, a tension in 10 N units. -/
abbrev Half := BitVec 16

/-- A 32-bit value that wraps: an encoder count (R21), the time stamp (R175). -/
abbrev Word := BitVec 32

/-- The magnitude |x| of a signed whole number. -/
def mag (x : Int) : Int := if x < 0 then -x else x

/-- A value clamped to the range from `lo` to `hi` (00_scope.md, Arithmetic). -/
def clamp (lo hi x : Int) : Int := if x < lo then lo else if hi < x then hi else x

/-- Division rounded upward, for a positive divisor (R119). -/
def ceilDiv (x d : Int) : Int := -((-x) / d)

/-- A counter that stays at `top` once it reaches it (00_scope.md, Arithmetic). -/
def satSucc (top n : Nat) : Nat := if n < top then n + 1 else top

end Sys2Proof
end

