-- ==== Sys2Proof/Syntax.lean ====
section
/-! DEFINITION. The names of the part's pieces (00_scope.md, Names and numbering) and its commands: one constructor
of `Instr` for each row of spec/opcode_table.json. -/

namespace Sys2Proof

/-- Side 1 or side 2; drum s carries side s. -/
inductive Side where
  | one | two
deriving DecidableEq, Repr

/-- The other side. -/
def Side.other : Side → Side
  | .one => .two
  | .two => .one

/-- A value for each side or drum. -/
structure PerSide (α : Type) where
  one : α
  two : α
deriving DecidableEq, Repr

def PerSide.get {α : Type} (p : PerSide α) : Side → α
  | .one => p.one
  | .two => p.two

def PerSide.set {α : Type} (p : PerSide α) (d : Side) (x : α) : PerSide α :=
  match d with
  | .one => { p with one := x }
  | .two => { p with two := x }

/-- One of a drum's encoders A and B, or of a side's ropes a and b. -/
inductive Twin where
  | a | b
deriving DecidableEq, Repr

/-- A value for each encoder of a drum, or for each rope of a side. -/
structure PerTwin (α : Type) where
  a : α
  b : α
deriving DecidableEq, Repr

def PerTwin.get {α : Type} (p : PerTwin α) : Twin → α
  | .a => p.a
  | .b => p.b

def PerTwin.set {α : Type} (p : PerTwin α) (e : Twin) (x : α) : PerTwin α :=
  match e with
  | .a => { p with a := x }
  | .b => { p with b := x }

/-- Trip stages 1 to 3; stage 3 is the most severe. -/
inductive Stage where
  | s1 | s2 | s3
deriving DecidableEq, Repr

/-- A value for each stage. -/
structure PerStage (α : Type) where
  s1 : α
  s2 : α
  s3 : α
deriving DecidableEq, Repr

def PerStage.get {α : Type} (p : PerStage α) : Stage → α
  | .s1 => p.s1
  | .s2 => p.s2
  | .s3 => p.s3

def PerStage.set {α : Type} (p : PerStage α) (k : Stage) (x : α) : PerStage α :=
  match k with
  | .s1 => { p with s1 := x }
  | .s2 => { p with s2 := x }
  | .s3 => { p with s3 := x }

/-- The output channels X and Y of a stage. -/
inductive Chan where
  | x | y
deriving DecidableEq, Repr

/-- A value for each channel of a stage. -/
structure PerChan (α : Type) where
  x : α
  y : α
deriving DecidableEq, Repr

def PerChan.get {α : Type} (p : PerChan α) : Chan → α
  | .x => p.x
  | .y => p.y

def PerChan.set {α : Type} (p : PerChan α) (c : Chan) (v : α) : PerChan α :=
  match c with
  | .x => { p with x := v }
  | .y => { p with y := v }

/-- A table record as it is carried on the link, without its index: its kind byte and its body (R11, R13). -/
structure RawRecord where
  kind : Byte
  body : List Byte
deriving DecidableEq, Repr

/-- The levels of the wired inputs (00_scope.md, Connections): clutch engaged, drum-2-held, reset permissive, the
sixteen marker lines, the four line monitors and the six readbacks. `true` is active, or energised. -/
structure Pins where
  clutch : Bool
  held : Bool
  permissive : Bool
  lines : Vector Bool 16
  monitors : PerSide (PerTwin Bool)
  readbacks : PerStage (PerChan Bool)
deriving DecidableEq, Repr

/-- Why a host frame is discarded (R163). -/
inductive FrameDiscard where
  /-- a length byte outside 2 to 60 -/
  | badLength (len : Byte)
  /-- a failed CRC check -/
  | badCheck
  /-- 8 replies already wait -/
  | replyListFull
  /-- arrival during the quiet period -/
  | quietPeriod
deriving DecidableEq, Repr

/-- Why a load sample frame is discarded (R41, R42). -/
inductive LoadDiscard where
  | badCheck
  | repeated
deriving DecidableEq, Repr

/-- A LOAD SAMPLE frame that passed its check (R42): its sequence number and, for each channel, the tension in 10 N
units, absent when its status flag marks it invalid. -/
structure LoadFrame where
  seq : Fin 16
  value : PerSide (PerTwin (Option Half))
deriving DecidableEq, Repr

/-- A change of the level of a wired input that is no marker edge, no monitor failure and no readback change. The
first three are those of the table's row; the last two leave a level and nothing else (R22, R35; log entry 8). -/
inductive InputChange where
  | clutch (level : Bool)
  | held (level : Bool)
  | permissive (level : Bool)
  | lineReleased (line : Fin 16)
  | monitorActive (drum : Side) (enc : Twin)
deriving DecidableEq, Repr

/-- What the table store reads back at the end of a write (R17). -/
inductive ReadBack where
  | asWritten
  | found (records : List RawRecord)
deriving DecidableEq, Repr

/-- The commands of the part, one for each row of spec/opcode_table.json. A request carries its tag and its body
bytes (R164). -/
inductive Instr where
  | poll (tag : Byte) (body : List Byte)
  | wind (tag : Byte) (body : List Byte)
  | redirect (tag : Byte) (body : List Byte)
  | abort (tag : Byte) (body : List Byte)
  | tripReset (tag : Byte) (body : List Byte)
  | proof (tag : Byte) (body : List Byte)
  | echoReturn (tag : Byte) (body : List Byte)
  | tableOpen (tag : Byte) (body : List Byte)
  | tableRecord (tag : Byte) (body : List Byte)
  | tableClose (tag : Byte) (body : List Byte)
  | readTable (tag : Byte) (body : List Byte)
  | readFaults (tag : Byte) (body : List Byte)
  | clearFaults (tag : Byte) (body : List Byte)
  | readHistory (tag : Byte) (body : List Byte)
  | restart (tag : Byte) (body : List Byte)
  | unknownRequest (code tag : Byte) (body : List Byte)
  | linkFrameDiscarded (why : FrameDiscard)
  | linkByteGap (next : Byte)
  | transmitFrameEnd
  | quietPeriodExpiry
  | linkSilenceExpiry
  | loadSample (frame : LoadFrame)
  | loadFrameDiscarded (why : LoadDiscard)
  | loadByteGap (next : Byte)
  | frameTimerExpiry
  | holdTimerExpiry (side : Side) (rope : Twin)
  | encoderStep (drum : Side) (enc : Twin) (forward : Bool)
  | quadratureError (drum : Side) (enc : Twin)
  | lineMonitorInactive (drum : Side) (enc : Twin)
  | drumSample
  | markerEdge (line : Fin 16)
  | inputLevelChange (change : InputChange)
  | clutchSettledChange
  | drum2HeldSettledChange
  | resetPermissiveSettledChange
  | readbackChange (stage : Stage) (chan : Chan) (level : Bool)
  | mismatchTimerExpiry (stage : Stage) (chan : Chan)
  | tableStoreWriteEnd (readBack : ReadBack)
  | parkWriteEnd (agrees : Bool)
  | startTimerExpiry
  | dwellTimerExpiry
  | echoTimerExpiry
  | testTimerExpiry
  | powerOn (pins : Pins)
deriving DecidableEq, Repr

end Sys2Proof
end

