-- ==== Sys2Proof/Config.lean ====
section
/-! DEFINITION. The fixed figures the spec gives the part, and the free values where it states none. -/

namespace Sys2Proof.Config

/-! Free values: constants without a body, so that nothing can be proved of which value they are. -/

/-- FREE VALUE. The 16 bits that a 2-byte field of a reply or report carries when its value does not fit the
field (R171 gives the widths and saturates only a side's v; log entry 26). -/
opaque wide16 : Int → Half

/-- FREE VALUE. The 32 bits that a 4-byte field carries when its value does not fit the field (R171, log entry 26). -/
opaque wide32 : Int → Word

/-- FREE VALUE. What a product that R49 forms in a signed 64-bit intermediate gives when it does not fit one
(log entry 27). -/
opaque wide64 : Int → Int

/-- FREE VALUE. Whether, of two markers of a side with one depth, the first named is taken as the next expected
marker (R75 states the least or greatest depth only; log entry 28). -/
opaque twinFirst : Nat → Nat → Bool

/-- FREE VALUE. The bytes of a READ-FAULTS reply that stand for something absent and whose value R170 does not state:
bytes 1 to 25 of an empty capture, the wind number of a capture with no wind, the instance of an absent first cause,
each by its offset in the body (log entry 42). -/
opaque absentByte : Nat → Byte

/-- FREE VALUE. The detail of a PROOF-DONE report on a pass, which no rule gives (R152, R176; log entry 48). -/
opaque passDetail : Half

/-! Fixed figures. -/

/-- The standstill threshold, in mm/s (00_scope.md, Quantities and units; R33). -/
def standstill : Int := 50

/-- The bound of K with no table active, in mm (R61). -/
def maxK : Int := 5000

/-- The ceiling of the permitted speed, in mm/s (R99). -/
def maxSpeed : Int := 20000

/-- The recovery cap, in mm/s (R98). -/
def recoveryCap : Int := 300

/-- The upper end of the stretch, in mm (R50). -/
def maxStretch : Int := 20000

/-- The bound of the total correction of a wind record, in mm (R127, R179). -/
def maxCorrection : Int := 1000000

/-- The largest 16-bit count (R127, R179). -/
def max16 : Nat := 65535

/-- The largest duration of a wind, in ms (R179). -/
def maxDuration : Nat := 4294967295

/-- The capacity of the reply list (R167). -/
def maxReplies : Nat := 8

/-- The capacity of the report queue (R173). -/
def maxReports : Nat := 16

/-- The capacity of the history ring (R128). -/
def maxHistory : Nat := 32

/-- The most records a table holds (R1). -/
def maxRecords : Nat := 152

/-- The link silence time, in ms (R144). -/
def silenceMs : Nat := 500

/-- The restart quiet period, in ms (R161). -/
def quietMs : Nat := 100

/-- The frame timer after a valid frame or a reset, in ms (R43, R59). -/
def frameMs : Nat := 25

/-- The frame timer after its own expiry, in ms (R43). -/
def reframeMs : Nat := 10

/-- The hold time of a load channel, in ms (R44). -/
def holdMs : Nat := 500

/-- The settling time of a wired input, in ms (R37, R139). -/
def settleMs : Nat := 20

/-- The mismatch time of an output channel, in ms (R132). -/
def mismatchMs : Nat := 20

/-- The start time of an accepted wind, in ms (R111). -/
def startMs : Nat := 30000

/-- The dwell time, in ms (R116). -/
def dwellMs : Nat := 2000

/-- The echo time, in ms (R157). -/
def echoMs : Nat := 1000

/-- The test time of one half of a channel test, in ms (R156). -/
def testMs : Nat := 20

end Sys2Proof.Config
end

