-- ==== Sys2Proof/Machine/State.lean ====
section
/-! DEFINITION. Everything the spec gives the part to hold, block by block (00_scope.md, Block overview), as plain
data, and the state right after power-on reset. -/

namespace Sys2Proof.Machine

/-! ## Names used by several blocks -/

/-- A timer: stopped, or the milliseconds left. -/
abbrev Timer := Option Nat

/-- A direction of travel; depth grows downward. -/
inductive Dir where
  | descending | ascending
deriving DecidableEq, Repr

/-- The winding modes (R9, R105). -/
inductive Mode where
  | man | material | rock | inspect
deriving DecidableEq, Repr

/-- The conveyance kinds (R4). -/
inductive Conveyance where
  | cage | skip | counterweight
deriving DecidableEq, Repr

/-- Which side or sides a cause names (R177). -/
inductive Sides where
  | one | two | both
deriving DecidableEq, Repr

/-- The end of the shaft a side lies beyond. -/
inductive ShaftEnd where
  | top | bottom
deriving DecidableEq, Repr

/-- The two kinds of reset (8.6). -/
inductive ResetKind where
  | powerOn | restart
deriving DecidableEq, Repr

/-- A cause together with its instance, as R133 lists them and R177 names their instances. -/
inductive Cause where
  | reset (kind : ResetKind)
  | proof
  | overspeed (stage : Stage) (sides : Sides)
  | limit (side : Side) (beyond : ShaftEnd)
  | stationOvertravel (side : Side)
  | wrongDirection (side : Side)
  | unintendedMotion (drum : Side)
  | drum2Creep
  | clutchInMotion
  | encoderDivergence (drum : Side)
  | drumLost (drum : Side)
  | positionLost (side : Side)
  | slackRope (side : Side)
  | ropeImbalance (side : Side)
  | loadLost (sides : Sides)
  | linkSilent
  | tripPath (stage : Stage) (chan : Chan)
  | recoveryMotion (side : Side)
  | encoderDisagreement (drum : Side)
  | balance (side : Side)
  | loadChannel (side : Side) (rope : Twin)
  | correctionLimit (side : Side)
  | referenceSearch (side : Side)
deriving DecidableEq, Repr

/-- The states of a drum (R23). -/
inductive DrumState where
  | dual | diverged | singleA | singleB | lost
deriving DecidableEq, Repr

/-- The lock states of a side (section 4.3). -/
inductive Lock where
  | unreferenced | searching | aligning | locked | suspect | lost
deriving DecidableEq, Repr

/-- The states of an open wind (R108); IDLE is that no wind is open. -/
inductive Phase where
  | accepted | running | creep | stopping
deriving DecidableEq, Repr

/-- The outcomes of a wind (R127). -/
inductive WindOutcome where
  | landed | short | aborted | tripped | lapsed
deriving DecidableEq, Repr

/-! ## The link port (09, 10) -/

/-- The result of a reply: DONE, or a refusal of R166. -/
inductive Result where
  | done | unknown | length | range | busy | tripped | noTable | notProven | notReferenced | degraded
  | noStation | mode | alreadyThere | clutch | overload | moving | noWind | tooLate | stopping | causePresent
  | higherStage | noPermissive | notExpected | sequence | invalid | latched | empty | recovery | load
deriving DecidableEq, Repr

/-- A reply: the request's code and tag, the result and the reply's body (R166). -/
structure Reply where
  code : Byte
  tag : Byte
  result : Result
  body : List Byte
deriving DecidableEq, Repr

/-- The kind of a TABLE report (R176). -/
inductive TableReport where
  | abandoned | stored | storeFailed
deriving DecidableEq, Repr

/-- Readiness as it is reported: without the step of a proof (R150). -/
inductive ReadyCode where
  | noTable | unproven | proving | proven | proofFailed
deriving DecidableEq, Repr

/-- What a report tells, but for its time stamp (R176). -/
inductive ReportBody where
  | wind (number : Half) (phase : Option Phase) (outcome : Option WindOutcome) (destination : Nat)
  | tripLatch (stage : Stage) (cause : Cause) (after : PerStage Bool)
  | tripReset (stage : Stage) (after : PerStage Bool)
  | alarm (cause : Cause) (set : Bool)
  | lock (side : Side) (old new : Lock) (K u : Int) (rejects searches : Nat) (marker : Option Nat)
  | proofStep (step : Nat)
  | proofPass
  | proofFail (step code detail : Nat)
  | echoProbe (pattern : Half)
  | table (kind : TableReport) (records declared : Nat) (check : Half)
  | restarted (kind : ResetKind) (ready : ReadyCode) (tableActive : Bool)
  | drum (drum : Side) (old new : DrumState) (aFailed bFailed : Bool) (theta : Int)
deriving DecidableEq, Repr

/-- A report with the time stamp of the event that created it (R175). -/
structure Report where
  body : ReportBody
  stamp : Word
deriving DecidableEq, Repr

/-- A frame the part sends. -/
inductive Frame where
  | reply (r : Reply)
  | report (r : Report)
deriving DecidableEq, Repr

/-- A receiver: hunting, taking a length byte, or assembling with the bytes still to come and the bytes held, the
latest first (R162; the load line's receiver of R41 has no length byte). -/
inductive RxPhase where
  | hunting
  | takingLength
  | assembling (left : Nat) (held : List Byte)
deriving DecidableEq, Repr

/-- The link status (R144). -/
inductive LinkStatus where
  | live | silent
deriving DecidableEq, Repr

/-- An open table load, as the link port keeps it (R10, R11). -/
structure TableLoad where
  declared : Nat
  check : Half
  next : Nat
deriving DecidableEq, Repr

/-- The link port. -/
structure LinkPort where
  rx : RxPhase
  load : Option TableLoad
  silence : Timer
  status : LinkStatus
  quiet : Timer
  resetKind : ResetKind
  restartDue : Bool
  replies : List Reply
  reports : List Report
  lost : Bool
  tx : Option Frame
deriving DecidableEq, Repr

/-! ## The shaft table (01) -/

/-- The effective parameters of a mode (R105). -/
structure ModeParams where
  vMax : Int
  aRet : Int
  vCreep : Int
  dCreep : Int
deriving DecidableEq, Repr

/-- The effective parameters of the four modes. -/
structure Modes where
  man : ModeParams
  material : ModeParams
  rock : ModeParams
  inspect : ModeParams
deriving DecidableEq, Repr

/-- The effective WINDER record (R2). A sense is `true` for +1. -/
structure Winder where
  cpr : PerSide Int
  sense : PerSide (PerTwin Bool)
  sheave : PerSide Int
  degradedCap : Int
  landingTol : Int
  overtravel : Int
  creepAllowance : Int
  echoOmitted : Bool
deriving DecidableEq, Repr

/-- The effective SUPERVISION record (R3). -/
structure Supervision where
  agree : Int
  diverge : Int
  capture : Int
  search : Int
  authority : Int
  searchDistance : Int
  margin : PerStage Int
  floor : PerStage Int
deriving DecidableEq, Repr

/-- The effective SIDE record of one side (R4). -/
structure SideData where
  kind : Conveyance
  hangOff : Int
  top : Int
  bottom : Int
  ropeWeight : Int
  stiffness : Int
  weight : Int
  payloadLimit : Int
  slack : Int
  alarm : Int
  clear : Int
  trip : Int
deriving DecidableEq, Repr

/-- An effective wrap segment: its count length n and its payout per revolution c (R5). -/
structure Segment where
  n : Int
  c : Int
deriving DecidableEq, Repr

/-- An effective STATION record; the label is carried for the host in the record alone (R6). -/
structure Station where
  id : Nat
  stop : PerSide (Option Int)
deriving DecidableEq, Repr

/-- An effective MARKER record (R7). -/
structure Marker where
  id : Nat
  line : Nat
  side : Side
  desc : Int
  asc : Int
deriving DecidableEq, Repr

/-- An effective ZONE record (R8). -/
structure Zone where
  side : Side
  upper : Int
  lower : Int
  cap : Int
deriving DecidableEq, Repr

/-- The effective values of a table (R1): what every other block works from. -/
structure Effective where
  winder : Winder
  sup : Supervision
  side : PerSide SideData
  wraps : PerSide (List Segment)
  stations : List Station
  markers : List Marker
  zones : List Zone
  modes : Modes
deriving DecidableEq, Repr

/-- The active table: records as loaded, table check, clamp count of each record, effective values (R1, R14). -/
structure ActiveTable where
  records : List RawRecord
  check : Half
  clamps : List Nat
  eff : Effective
deriving DecidableEq, Repr

/-- A table copy in or on its way into the nonvolatile store (R17). -/
structure StoredTable where
  records : List RawRecord
  check : Half
deriving DecidableEq, Repr

/-- The contents of a park record (R18); its check is the store's own (log entry 11). -/
structure Park where
  theta : PerSide Int
  K : PerSide Int
  clutch : Bool
deriving DecidableEq, Repr

/-- The shaft table block with the nonvolatile store. An invalid area of the store is `none`. -/
structure ShaftTable where
  active : Option ActiveTable
  staged : List RawRecord
  stored : Option StoredTable
  storeWrite : Option StoredTable
  park : Option Park
  parkWrite : Option Park
  parkPending : Option Park
deriving DecidableEq, Repr

/-! ## The drum measurement unit (02) -/

/-- An encoder: its wrapping count and its health (R21, R22). -/
structure Encoder where
  count : Word
  failed : Bool
deriving DecidableEq, Repr

/-- One drum. -/
structure Drum where
  enc : PerTwin Encoder
  state : DrumState
  sampledState : DrumState
  disagree : Bool
  agreeing : Nat
  theta : Int
  payoutUm : Int
  payoutMm : Int
  history : List Int
  v : Int
  rest : Int
  restDue : Bool
deriving DecidableEq, Repr

/-- The drum measurement unit. -/
structure DrumUnit where
  drum : PerSide Drum
  hold : Option Int
  holdDue : Bool
  sampled : Bool
deriving DecidableEq, Repr

/-- The settled states of the wired inputs and their settling timers (R37, R139). -/
structure Inputs where
  clutch : Bool
  held : Bool
  permissive : Bool
  clutchTimer : Timer
  heldTimer : Timer
  permissiveTimer : Timer
deriving DecidableEq, Repr

/-! ## The rope load unit (03) -/

/-- The health of a load channel (R44). -/
inductive ChannelHealth where
  | good | held | bad
deriving DecidableEq, Repr

/-- A load channel: health, filter slots (oldest first), hold timer and alarm flag (R44, R45, R46). -/
structure LoadChannel where
  health : ChannelHealth
  slots : List Nat
  hold : Timer
  alarm : Bool
deriving DecidableEq, Repr

/-- What the rope load unit keeps for one side. -/
structure RopeSide where
  chan : PerTwin LoadChannel
  alarms : Nat
  clears : Nat
  trips : Nat
  slacks : Nat
  balance : Bool
  bothBad : Bool
  tension : Int
  stretch : Int
  payload : Int
deriving DecidableEq, Repr

/-- The rope load unit. -/
structure RopeUnit where
  rx : RxPhase
  lastSeq : Option (Fin 16)
  frame : Timer
  side : PerSide RopeSide
  loadLost : Bool
deriving DecidableEq, Repr

/-! ## The depth tracker (04) -/

/-- The tracker's record of one side (R61). -/
structure Track where
  K : Int
  lock : Lock
  sampledLock : Lock
  rejects : Nat
  travelled : Int
  searches : Nat
  lastDir : Option Dir
  next : Option Nat
  limitFlag : Bool
  searchFlag : Bool
  D0 : Int
  D : Int
  u : Int
  lastPayout : Int
deriving DecidableEq, Repr

/-! ## The envelope computer (05) -/

/-- Where a side stands against its limits (R103). -/
inductive LimitState where
  | inside | beyondTop | beyondBottom
deriving DecidableEq, Repr

/-- An active degrade state: its start speed and the milliseconds since its start (R96, R97). -/
structure Degrade where
  v0 : Int
  elapsed : Nat
deriving DecidableEq, Repr

/-- The envelope computer (R86). -/
structure Envelope where
  dir : PerSide Dir
  limitTerm : PerSide (Option Int)
  zoneTerms : PerSide (List Int)
  targetTerm : Option Int
  dT : Option Int
  vp : Int
  thr : PerStage Int
  degrade : Option Degrade
  overCount : PerStage Nat
  limit : PerSide LimitState
deriving DecidableEq, Repr

/-! ## The wind controller (06) -/

/-- Why a wind is stopping (R116). -/
inductive StopCause where
  | abort | trip
deriving DecidableEq, Repr

/-- The counters a wind record keeps for one side (R127, R179). -/
structure SideCounts where
  accepted : Nat
  rejected : Nat
  missed : Nat
  correction : Int
  disagreements : Nat
deriving DecidableEq, Repr

/-- The open wind with its open wind record (R108, R111, R127). -/
structure OpenWind where
  phase : Phase
  number : Half
  mode : Mode
  lead : Side
  destination : Nat
  target : Int
  dir : Dir
  startPayout : Int
  furthest : Int
  start : Timer
  dwell : Timer
  stop : Option StopCause
  inRecovery : Bool
  origin : Option Nat
  duration : Nat
  peakSpeed : Int
  peakUsage : Nat
  counts : PerSide SideCounts
  firstTrip : Option Cause
deriving DecidableEq, Repr

/-- A completed wind record (R127). -/
structure WindRecord where
  number : Half
  mode : Mode
  lead : Side
  destination : Nat
  origin : Option Nat
  outcome : WindOutcome
  duration : Nat
  peakSpeed : Int
  peakUsage : Nat
  counts : PerSide SideCounts
  firstTrip : Option Cause
deriving DecidableEq, Repr

/-- An offending side of a recovery: its outward sense and its recovery point (R125). -/
structure Offence where
  outward : Dir
  point : Int
deriving DecidableEq, Repr

/-- The wind controller. -/
structure WindUnit where
  current : Option OpenWind
  number : Half
  recovery : Option (PerSide (Option Offence))
  outward : PerSide (Option Dir)
  lastLanded : PerSide (Option Nat)
  history : List WindRecord
  unintended : PerSide Bool
  creepFlag : Bool
deriving DecidableEq, Repr

/-! ## The trip unit (07) -/

/-- A stage latch: CLEAR, or LATCHED with the stage's first cause (R131, R134). -/
inductive Latch where
  | clear
  | latched (first : Cause)
deriving DecidableEq, Repr

/-- An output channel: its command, `true` for energised, and its mismatch timer (R131, R132). -/
structure OutChannel where
  commanded : Bool
  mismatch : Timer
deriving DecidableEq, Repr

/-- What the ranked capture holds of one side (R138). -/
structure CaptureSide where
  D : Int
  v : Int
  lock : Lock
deriving DecidableEq, Repr

/-- The ranked capture record (R138). Rank 0 is ADVISORY, 1 to 3 are STAGE 1 to STAGE 3. -/
structure Capture where
  cause : Cause
  rank : Nat
  stamp : Word
  wind : Option Half
  side : PerSide CaptureSide
  vp : Int
deriving DecidableEq, Repr

/-- The trip unit. -/
structure TripUnit where
  latch : PerStage Latch
  chan : PerStage (PerChan OutChannel)
  causes : List Nat
  active : List Cause
  capture : Option Capture
deriving DecidableEq, Repr

/-! ## The proof unit (08) -/

/-- The current step of a proof (R152). Step 1 is judged at the acceptance itself. -/
inductive ProofStep where
  | encoders
  | markers
  | loads
  /-- the channel under test, the half (`true` energise) and the test timer (R156) -/
  | tripPaths (stage : Stage) (chan : Chan) (energise : Bool) (timer : Timer)
  /-- the pattern, the time stamp of its probe, whether the probe is outstanding, and the echo timer (R157) -/
  | echo (pattern : Half) (stamp : Word) (outstanding : Bool) (timer : Timer)
deriving DecidableEq, Repr

/-- Readiness, with the step of a proof while PROVING (R150). -/
inductive Readiness where
  | noTable
  | unproven
  | proving (step : ProofStep)
  | proven
  | proofFailed
deriving DecidableEq, Repr

/-- The proof unit; the last failure is its error code and its detail (R150). -/
structure ProofUnit where
  readiness : Readiness
  lastFailure : Option (Nat × Nat)
deriving DecidableEq, Repr

/-! ## The state -/

/-- The time stamp (R175), and the model's own phase of the 2 ms drum sample (log entry 3). -/
structure Clock where
  stamp : Word
  oddMs : Bool
deriving DecidableEq, Repr

/-- The whole state of the part and the queue of waiting commands, first in first out. -/
structure State where
  pending : List Instr
  pins : Pins
  clock : Clock
  link : LinkPort
  table : ShaftTable
  drums : DrumUnit
  inputs : Inputs
  rope : RopeUnit
  depth : PerSide Track
  env : Envelope
  wind : WindUnit
  trip : TripUnit
  proof : ProofUnit
deriving DecidableEq, Repr

/-- Faults. The part has no event that stops it, so no meaning raises one (log entry 40). -/
inductive Fault where
  /-- Raised by no meaning; safe, since nothing follows from it. -/
  | halted
deriving DecidableEq, Repr

/-- Refusals of the model itself. -/
inductive Refusal where
  /-- Raised only by an arm of `exec` whose command has no meaning yet; safe, since nothing is claimed of it. -/
  | notModelled (mnemonic : String)
deriving DecidableEq, Repr

/-! ## Each block right after a reset -/

/-- The link port after a reset of either kind (R144, R161, R172). -/
def LinkPort.afterReset (kind : ResetKind) : LinkPort where
  rx := .hunting
  load := none
  silence := some Config.silenceMs
  status := .live
  quiet := some Config.quietMs
  resetKind := kind
  restartDue := false
  replies := []
  reports := []
  lost := false
  tx := none

/-- A drum after a power-on at angle `theta` (R39). -/
def Drum.atPowerOn (theta : Int) : Drum where
  enc := ⟨⟨BitVec.ofInt 32 theta, false⟩, ⟨BitVec.ofInt 32 theta, false⟩⟩
  state := .dual
  sampledState := .dual
  disagree := false
  agreeing := 0
  theta := theta
  payoutUm := 0
  payoutMm := 0
  history := []
  v := 0
  rest := 0
  restDue := true

/-- The settled inputs at a reset: the levels of that moment (R37, R139). -/
def Inputs.ofPins (p : Pins) : Inputs where
  clutch := p.clutch
  held := p.held
  permissive := p.permissive
  clutchTimer := none
  heldTimer := none
  permissiveTimer := none

/-- A load channel after a reset, with the alarm flag it keeps (R59, R60). -/
def LoadChannel.afterReset (alarm : Bool) : LoadChannel where
  health := .bad
  slots := []
  hold := some Config.holdMs
  alarm := alarm

/-- The rope load unit's side at power-on (R59). -/
def RopeSide.atPowerOn : RopeSide where
  chan := ⟨LoadChannel.afterReset false, LoadChannel.afterReset false⟩
  alarms := 0
  clears := 0
  trips := 0
  slacks := 0
  balance := false
  bothBad := true
  tension := 0
  stretch := 0
  payload := 0

/-- The rope load unit at power-on (R59). -/
def RopeUnit.atPowerOn : RopeUnit where
  rx := .hunting
  lastSeq := none
  frame := some Config.frameMs
  side := ⟨RopeSide.atPowerOn, RopeSide.atPowerOn⟩
  loadLost := false

/-- A side's track at power-on with the offset `K` (R84). -/
def Track.atPowerOn (K : Int) : Track where
  K := K
  lock := .unreferenced
  sampledLock := .unreferenced
  rejects := 0
  travelled := 0
  searches := 0
  lastDir := none
  next := none
  limitFlag := false
  searchFlag := false
  D0 := 0
  D := 0
  u := 0
  lastPayout := 0

/-- The envelope after a reset of either kind, with the floors of the table it starts from (R107). -/
def Envelope.afterReset (floors : PerStage Int) : Envelope where
  dir := ⟨.descending, .descending⟩
  limitTerm := ⟨none, none⟩
  zoneTerms := ⟨[], []⟩
  targetTerm := none
  dT := none
  vp := 0
  thr := floors
  degrade := none
  overCount := ⟨0, 0, 0⟩
  limit := ⟨.inside, .inside⟩

/-- The wind controller at power-on (R130). -/
def WindUnit.atPowerOn : WindUnit where
  current := none
  number := 0
  recovery := none
  outward := ⟨none, none⟩
  lastLanded := ⟨none, none⟩
  history := []
  unintended := ⟨false, false⟩
  creepFlag := false

/-- An output channel that a reset leaves de-energised, before its comparison (R148, R149). -/
def OutChannel.off : OutChannel where
  commanded := false
  mismatch := none

/-- All six output channels de-energised. -/
def channelsOff : PerStage (PerChan OutChannel) :=
  ⟨⟨.off, .off⟩, ⟨.off, .off⟩, ⟨.off, .off⟩⟩

/-- The trip unit at power-on, before the comparison of its channels (R148). RESET is code 1. -/
def TripUnit.atPowerOn : TripUnit where
  latch := ⟨.latched (.reset .powerOn), .latched (.reset .powerOn), .latched (.reset .powerOn)⟩
  chan := channelsOff
  causes := [1]
  active := []
  capture := none

/-- The default overspeed floors (R3). -/
def defaultFloors : PerStage Int := ⟨150, 300, 500⟩

/-- The levels of the wired inputs at the first power-on: clutch engaged, drum 2 held, permissive inactive, no marker
line active, every line monitor active, every readback de-energised (DESIGN CHOICE, log entry 5). -/
def Pins.quiet : Pins where
  clutch := true
  held := true
  permissive := false
  lines := Vector.replicate 16 false
  monitors := ⟨⟨true, true⟩, ⟨true, true⟩⟩
  readbacks := ⟨⟨false, false⟩, ⟨false, false⟩, ⟨false, false⟩⟩

/-- The part right after power-on with an empty nonvolatile store (log entry 6) and the levels of `Pins.quiet`. -/
def State.reset : State where
  pending := []
  pins := Pins.quiet
  clock := ⟨0, false⟩
  link := LinkPort.afterReset .powerOn
  table :=
    { active := none, staged := [], stored := none, storeWrite := none
      park := none, parkWrite := none, parkPending := none }
  drums := { drum := ⟨Drum.atPowerOn 0, Drum.atPowerOn 0⟩, hold := none, holdDue := false, sampled := false }
  inputs := Inputs.ofPins Pins.quiet
  rope := RopeUnit.atPowerOn
  depth := ⟨Track.atPowerOn 0, Track.atPowerOn 0⟩
  env := Envelope.afterReset defaultFloors
  wind := WindUnit.atPowerOn
  trip := TripUnit.atPowerOn
  proof := { readiness := .noTable, lastFailure := none }

end Sys2Proof.Machine
end

