-- ==== Sys2Proof/Machine/Operands.lean ====
section
/-! DEFINITION. Operand forms: the bytes of values on the link (R171), the codes of the enumerations (section 9.9), and
the codes, instances, stages and kinds of the causes (R133, R177). -/

namespace Sys2Proof.Machine

/-! ## Values as bytes, most significant byte first (R171) -/

/-- A code or a count of one byte. -/
def byteOf (n : Nat) : Byte := BitVec.ofNat 8 n

/-- A 1-byte flag: 1 or 0. -/
def flagByte (b : Bool) : Byte := if b then 1 else 0

/-- A 16-bit value as two bytes. -/
def be16 (x : Half) : List Byte := [x.extractLsb' 8 8, x.extractLsb' 0 8]

/-- A 32-bit value as four bytes. -/
def be32 (x : Word) : List Byte :=
  [x.extractLsb' 24 8, x.extractLsb' 16 8, x.extractLsb' 8 8, x.extractLsb' 0 8]

/-- A number in a 2-byte unsigned field; one that does not fit is a free value (log entry 26). -/
def unsigned16 (x : Int) : List Byte :=
  be16 (if 0 ≤ x ∧ x < 65536 then BitVec.ofInt 16 x else Config.wide16 x)

/-- A number in a 2-byte signed field. -/
def signed16 (x : Int) : List Byte :=
  be16 (if -32768 ≤ x ∧ x < 32768 then BitVec.ofInt 16 x else Config.wide16 x)

/-- A number in a 4-byte unsigned field. -/
def unsigned32 (x : Int) : List Byte :=
  be32 (if 0 ≤ x ∧ x < 4294967296 then BitVec.ofInt 32 x else Config.wide32 x)

/-- A number in a 4-byte signed field. -/
def signed32 (x : Int) : List Byte :=
  be32 (if -2147483648 ≤ x ∧ x < 2147483648 then BitVec.ofInt 32 x else Config.wide32 x)

/-- A side's v: 2 bytes, signed, with a speed beyond ±32,767 mm/s carried as ±32,767 (R171). -/
def speed16 (v : Int) : List Byte := signed16 (clamp (-32767) 32767 v)

/-- Byte `i` of a body. -/
def byteAt (body : List Byte) (i : Nat) : Nat := (body.getD i 0).toNat

/-- The 2-byte value at offset `i`. -/
def halfAt (body : List Byte) (i : Nat) : Half := BitVec.ofNat 16 (byteAt body i * 256 + byteAt body (i + 1))

/-- The 2-byte unsigned number at offset `i`. -/
def u16At (body : List Byte) (i : Nat) : Int := ((byteAt body i * 256 + byteAt body (i + 1) : Nat) : Int)

/-- The 4-byte unsigned number at offset `i`. -/
def u32At (body : List Byte) (i : Nat) : Int :=
  ((((byteAt body i * 256 + byteAt body (i + 1)) * 256 + byteAt body (i + 2)) * 256 + byteAt body (i + 3) : Nat) : Int)

/-- The 4-byte number in two's complement at offset `i`. -/
def s32At (body : List Byte) (i : Nat) : Int :=
  let x := u32At body i
  if x < 2147483648 then x else x - 4294967296

/-- Bit `n` of byte `i`. -/
def bitAt (body : List Byte) (i n : Nat) : Bool := (body.getD i 0).getLsbD n

/-! ## Enumeration codes (section 9.9) -/

def sideCode : Side → Nat
  | .one => 1
  | .two => 2

/-- The side an enumerated byte names, if it names one. -/
def sideOfCode : Nat → Option Side
  | 1 => some .one
  | 2 => some .two
  | _ => none

def stageCode : Stage → Nat
  | .s1 => 1
  | .s2 => 2
  | .s3 => 3

/-- The stage a TRIP-RESET names, if it names one (R139). -/
def stageOfCode : Nat → Option Stage
  | 1 => some .s1
  | 2 => some .s2
  | 3 => some .s3
  | _ => none

def Mode.code : Mode → Nat
  | .man => 1
  | .material => 2
  | .rock => 3
  | .inspect => 4

/-- The mode an enumerated byte names, if it names one. -/
def modeOfCode : Nat → Option Mode
  | 1 => some .man
  | 2 => some .material
  | 3 => some .rock
  | 4 => some .inspect
  | _ => none

/-- The conveyance kind an enumerated byte names, if it names one. -/
def conveyanceOfCode : Nat → Option Conveyance
  | 1 => some .cage
  | 2 => some .skip
  | 3 => some .counterweight
  | _ => none

/-- Readiness without the step of a proof. -/
def Readiness.ready : Readiness → ReadyCode
  | .noTable => .noTable
  | .unproven => .unproven
  | .proving _ => .proving
  | .proven => .proven
  | .proofFailed => .proofFailed

def ReadyCode.code : ReadyCode → Nat
  | .noTable => 0
  | .unproven => 1
  | .proving => 2
  | .proven => 3
  | .proofFailed => 4

/-- The wind state's code; IDLE is 0. -/
def phaseCode : Option Phase → Nat
  | none => 0
  | some .accepted => 1
  | some .running => 2
  | some .creep => 3
  | some .stopping => 4

def WindOutcome.code : WindOutcome → Nat
  | .landed => 1
  | .short => 2
  | .aborted => 3
  | .tripped => 4
  | .lapsed => 5

def DrumState.code : DrumState → Nat
  | .dual => 0
  | .diverged => 1
  | .singleA => 2
  | .singleB => 3
  | .lost => 4

def Lock.code : Lock → Nat
  | .unreferenced => 0
  | .searching => 1
  | .aligning => 2
  | .locked => 3
  | .suspect => 4
  | .lost => 5

def ResetKind.code : ResetKind → Nat
  | .powerOn => 1
  | .restart => 2

def TableReport.code : TableReport → Nat
  | .abandoned => 1
  | .stored => 2
  | .storeFailed => 3

/-- The result byte of a reply (R166). -/
def Result.code : Result → Nat
  | .done => 0
  | .unknown => 1
  | .length => 2
  | .range => 3
  | .busy => 4
  | .tripped => 5
  | .noTable => 6
  | .notProven => 7
  | .notReferenced => 8
  | .degraded => 9
  | .noStation => 10
  | .mode => 11
  | .alreadyThere => 12
  | .clutch => 13
  | .overload => 14
  | .moving => 15
  | .noWind => 16
  | .tooLate => 17
  | .stopping => 18
  | .causePresent => 19
  | .higherStage => 20
  | .noPermissive => 21
  | .notExpected => 22
  | .sequence => 23
  | .invalid => 24
  | .latched => 25
  | .empty => 26
  | .recovery => 27
  | .load => 28

/-! ## Causes (R133, R177) -/

/-- The kinds of causes (R133). -/
inductive CauseKind where
  | administrative | event | condition | advisory
deriving DecidableEq, Repr

/-- The cause code (R133). -/
def Cause.code : Cause → Nat
  | .reset _ => 1
  | .proof => 2
  | .overspeed _ _ => 3
  | .limit _ _ => 4
  | .stationOvertravel _ => 5
  | .wrongDirection _ => 6
  | .unintendedMotion _ => 7
  | .drum2Creep => 8
  | .clutchInMotion => 9
  | .encoderDivergence _ => 10
  | .drumLost _ => 11
  | .positionLost _ => 12
  | .slackRope _ => 13
  | .ropeImbalance _ => 14
  | .loadLost _ => 15
  | .linkSilent => 16
  | .tripPath _ _ => 17
  | .recoveryMotion _ => 18
  | .encoderDisagreement _ => 32
  | .balance _ => 33
  | .loadChannel _ _ => 34
  | .correctionLimit _ => 35
  | .referenceSearch _ => 36

/-- The codes of all causes, in ascending order (R133). -/
def causeCodes : List Nat := [1, 2, 3, 4, 5, 6, 7, 8, 9, 10, 11, 12, 13, 14, 15, 16, 17, 18, 32, 33, 34, 35, 36]

/-- The stage a cause is raised at; an advisory has none (R133). -/
def Cause.stage : Cause → Option Stage
  | .reset _ => some .s3
  | .proof => some .s3
  | .overspeed k _ => some k
  | .limit _ _ => some .s3
  | .stationOvertravel _ => some .s2
  | .wrongDirection _ => some .s1
  | .unintendedMotion _ => some .s2
  | .drum2Creep => some .s3
  | .clutchInMotion => some .s3
  | .encoderDivergence _ => some .s1
  | .drumLost _ => some .s3
  | .positionLost _ => some .s1
  | .slackRope _ => some .s3
  | .ropeImbalance _ => some .s2
  | .loadLost _ => some .s1
  | .linkSilent => some .s1
  | .tripPath _ _ => some .s3
  | .recoveryMotion _ => some .s3
  | .encoderDisagreement _ => none
  | .balance _ => none
  | .loadChannel _ _ => none
  | .correctionLimit _ => none
  | .referenceSearch _ => none

/-- The kind of a cause (R133). -/
def Cause.kind : Cause → CauseKind
  | .reset _ => .administrative
  | .proof => .administrative
  | .limit _ _ => .condition
  | .drumLost _ => .condition
  | .tripPath _ _ => .condition
  | .encoderDisagreement _ => .advisory
  | .balance _ => .advisory
  | .loadChannel _ _ => .advisory
  | .correctionLimit _ => .advisory
  | .referenceSearch _ => .advisory
  | _ => .event

/-- The rank of a cause in the capture: 0 for ADVISORY, the stage's number otherwise (R138). -/
def Cause.rank (c : Cause) : Nat :=
  match c.stage with
  | none => 0
  | some k => stageCode k

def Sides.code : Sides → Nat
  | .one => 1
  | .two => 2
  | .both => 3

def ShaftEnd.code : ShaftEnd → Nat
  | .top => 1
  | .bottom => 2

def chanCode : Chan → Nat
  | .x => 1
  | .y => 2

/-- The number of a load channel: 1 for 1a, 2 for 1b, 3 for 2a, 4 for 2b (R177). -/
def channelCode (side : Side) (rope : Twin) : Nat :=
  match side, rope with
  | .one, .a => 1
  | .one, .b => 2
  | .two, .a => 3
  | .two, .b => 4

/-- The stage and channel instance: high four bits the stage, low four bits the channel (R177). -/
def pathCode (k : Stage) (c : Chan) : Nat := stageCode k * 16 + chanCode c

/-- The instance byte of a cause (R177). -/
def Cause.inst : Cause → Nat
  | .reset k => k.code
  | .proof => 0
  | .overspeed k sides => stageCode k * 16 + sides.code
  | .limit d e => sideCode d * 16 + e.code
  | .stationOvertravel d => sideCode d
  | .wrongDirection d => sideCode d
  | .unintendedMotion d => sideCode d
  | .drum2Creep => 0
  | .clutchInMotion => 0
  | .encoderDivergence d => sideCode d
  | .drumLost d => sideCode d
  | .positionLost d => sideCode d
  | .slackRope d => sideCode d
  | .ropeImbalance d => sideCode d
  | .loadLost sides => sides.code
  | .linkSilent => 0
  | .tripPath k c => pathCode k c
  | .recoveryMotion d => sideCode d
  | .encoderDisagreement d => sideCode d
  | .balance d => sideCode d
  | .loadChannel d r => channelCode d r
  | .correctionLimit d => sideCode d
  | .referenceSearch d => sideCode d

/-- The sides at fault as a cause names them; none when neither is (R57, R101). -/
def sidesOf : Bool → Bool → Option Sides
  | false, false => none
  | true, false => some .one
  | false, true => some .two
  | true, true => some .both

/-! ## Directions -/

/-- +1 when descending, −1 when ascending (R93, R112). -/
def Dir.sign : Dir → Int
  | .descending => 1
  | .ascending => -1

def Dir.opposite : Dir → Dir
  | .descending => .ascending
  | .ascending => .descending

/-- The direction of a nonzero speed (R88). -/
def dirOfSpeed (v : Int) : Dir := if 0 < v then .descending else .ascending

/-- The direction from a depth to a target: descending when the target lies below, ascending when it lies above
(R111); none when they are equal (log entry 29). -/
def dirToTarget (target depth : Int) : Option Dir :=
  if depth < target then some .descending else if target < depth then some .ascending else none

/-- The intended direction of side `d` in a wind led by `lead` in direction `dir`: the other side's is the opposite
(R88). -/
def sideDir (lead : Side) (dir : Dir) (d : Side) : Dir := if d = lead then dir else dir.opposite

end Sys2Proof.Machine
end

