-- ==== Sys2Proof/Machine/Records.lean ====
section
/-! DEFINITION. The eight record kinds: body layouts (R171, section 9.9), ranges and defaults (R2 to R9, R105),
effective values and clamp counts (R1, R14). -/

namespace Sys2Proof.Machine

/-! ## Kinds and body lengths -/

/-- The record kinds (section 9.9). -/
inductive RecordKind where
  | winder | supervision | side | wrap | station | marker | zone | mode
deriving DecidableEq, Repr

/-- The kind a kind byte names, if it is one of the eight. -/
def recordKindOf (kind : Byte) : Option RecordKind :=
  match kind.toNat with
  | 1 => some .winder
  | 2 => some .supervision
  | 3 => some .side
  | 4 => some .wrap
  | 5 => some .station
  | 6 => some .marker
  | 7 => some .zone
  | 8 => some .mode
  | _ => none

/-- The body length of a kind, in bytes (R171). -/
def bodyLength : RecordKind → Nat
  | .winder => 30
  | .supervision => 28
  | .side => 37
  | .wrap => 10
  | .station => 19
  | .marker => 11
  | .zone => 11
  | .mode => 9

/-- The capacity of a kind (R1). -/
def capacity : RecordKind → Nat
  | .winder => 1
  | .supervision => 1
  | .side => 2
  | .wrap => 32
  | .station => 40
  | .marker => 48
  | .zone => 24
  | .mode => 4

/-- Whether a record is of a kind. -/
def RawRecordIs (k : RecordKind) (r : RawRecord) : Bool := recordKindOf r.kind = some k

/-! ## Numeric fields -/

/-- A numeric field: its loaded value and its effective value (R1). -/
structure Num where
  loaded : Int
  eff : Int
deriving DecidableEq, Repr

/-- A field clamped into its range. -/
def num (lo hi x : Int) : Num := ⟨x, clamp lo hi x⟩

/-- A field counts once toward the clamp count when it was clamped (R14). -/
def Num.clamps (n : Num) : Nat := if n.loaded = n.eff then 0 else 1

/-- An optional field: present, or absent and then its default, which is not counted (R1, R14). -/
def optNum (present : Bool) (lo hi default x : Int) : Num := if present then num lo hi x else ⟨default, default⟩

/-- The number of clamped fields among several. -/
def clampSum (fields : List Num) : Nat := (fields.map Num.clamps).sum

/-! ## Depth ranges -/

/-- A depth field (00_scope.md, Quantities and units). -/
def depthNum (x : Int) : Num := num (-100000) 4200000 x

/-! ## WINDER (R2) -/

def winderCpr (b : List Byte) : PerSide Num := ⟨num 1024 65536 (u32At b 0), num 1024 65536 (u32At b 4)⟩
def winderSheave (b : List Byte) : PerSide Num :=
  ⟨num (-100000) (-1000) (s32At b 12), num (-100000) (-1000) (s32At b 16)⟩
def winderDegraded (b : List Byte) : Num := optNum (bitAt b 20 0) 300 20000 4000 (u16At b 21)
def winderLanding (b : List Byte) : Num := optNum (bitAt b 20 1) 10 1000 75 (u16At b 23)
def winderOvertravel (b : List Byte) : Num := optNum (bitAt b 20 2) 100 5000 500 (u16At b 25)
def winderCreep (b : List Byte) : Num := optNum (bitAt b 20 3) 50 1000 150 (u16At b 27)

/-- A count sense byte: 0x01 is +1 (R171). -/
def senseAt (b : List Byte) (i : Nat) : Bool := byteAt b i = 1

/-- The effective WINDER record of a body. -/
def effWinder (b : List Byte) : Winder where
  cpr := ⟨(winderCpr b).one.eff, (winderCpr b).two.eff⟩
  sense := ⟨⟨senseAt b 8, senseAt b 9⟩, ⟨senseAt b 10, senseAt b 11⟩⟩
  sheave := ⟨(winderSheave b).one.eff, (winderSheave b).two.eff⟩
  degradedCap := (winderDegraded b).eff
  landingTol := (winderLanding b).eff
  overtravel := (winderOvertravel b).eff
  creepAllowance := (winderCreep b).eff
  echoOmitted := bitAt b 29 0

def winderClamps (b : List Byte) : Nat :=
  clampSum [(winderCpr b).one, (winderCpr b).two, (winderSheave b).one, (winderSheave b).two, winderDegraded b,
    winderLanding b, winderOvertravel b, winderCreep b]

/-- The WINDER values with no table active: counts of sense +1 (R21) and the defaults of the optional fields. -/
def defaultWinder : Winder where
  cpr := ⟨1024, 1024⟩
  sense := ⟨⟨true, true⟩, ⟨true, true⟩⟩
  sheave := ⟨-1000, -1000⟩
  degradedCap := 4000
  landingTol := 75
  overtravel := 500
  creepAllowance := 150
  echoOmitted := false

/-! ## SUPERVISION (R3) -/

/-- The fields of a SUPERVISION body, in field order. -/
def supFields (b : List Byte) : List Num :=
  [num 1 1024 (u16At b 0), num 2 8192 (u16At b 2), num 25 2000 (u16At b 4), num 2000 100000 (u32At b 6),
   num 0 5000 (u16At b 10), num 5000 500000 (u32At b 12), num 10 500 (u16At b 16), num 10 500 (u16At b 18),
   num 10 500 (u16At b 20), num 50 2000 (u16At b 22), num 50 2000 (u16At b 24), num 50 2000 (u16At b 26)]

/-- The effective SUPERVISION record of a body. -/
def effSup (b : List Byte) : Supervision where
  agree := (num 1 1024 (u16At b 0)).eff
  diverge := (num 2 8192 (u16At b 2)).eff
  capture := (num 25 2000 (u16At b 4)).eff
  search := (num 2000 100000 (u32At b 6)).eff
  authority := (num 0 5000 (u16At b 10)).eff
  searchDistance := (num 5000 500000 (u32At b 12)).eff
  margin := ⟨(num 10 500 (u16At b 16)).eff, (num 10 500 (u16At b 18)).eff, (num 10 500 (u16At b 20)).eff⟩
  floor := ⟨(num 50 2000 (u16At b 22)).eff, (num 50 2000 (u16At b 24)).eff, (num 50 2000 (u16At b 26)).eff⟩

/-- The defaults of every SUPERVISION field (R3). -/
def defaultSup : Supervision where
  agree := 8
  diverge := 64
  capture := 250
  search := 20000
  authority := 1500
  searchDistance := 60000
  margin := ⟨40, 80, 120⟩
  floor := defaultFloors

/-! ## SIDE (R4) -/

/-- The numeric fields of a SIDE body, in field order. -/
def sideFields (b : List Byte) : List Num :=
  [depthNum (s32At b 2), depthNum (s32At b 6), depthNum (s32At b 10), num 10 2000 (u16At b 14),
   num 10000 2000000 (u32At b 16), num 1000 2000000 (u32At b 20), num 0 1000000 (u32At b 24),
   optNum (bitAt b 28 0) 100 950 600 (u16At b 29), optNum (bitAt b 28 1) 10 500 100 (u16At b 31),
   optNum (bitAt b 28 2) 10 500 80 (u16At b 33), optNum (bitAt b 28 3) 10 500 200 (u16At b 35)]

/-- The effective SIDE record of a body. -/
def effSide (b : List Byte) : SideData where
  kind := (conveyanceOfCode (byteAt b 1)).getD .cage
  hangOff := (depthNum (s32At b 2)).eff
  top := (depthNum (s32At b 6)).eff
  bottom := (depthNum (s32At b 10)).eff
  ropeWeight := (num 10 2000 (u16At b 14)).eff
  stiffness := (num 10000 2000000 (u32At b 16)).eff
  weight := (num 1000 2000000 (u32At b 20)).eff
  payloadLimit := (num 0 1000000 (u32At b 24)).eff
  slack := (optNum (bitAt b 28 0) 100 950 600 (u16At b 29)).eff
  alarm := (optNum (bitAt b 28 1) 10 500 100 (u16At b 31)).eff
  clear := (optNum (bitAt b 28 2) 10 500 80 (u16At b 33)).eff
  trip := (optNum (bitAt b 28 3) 10 500 200 (u16At b 35)).eff

/-- A SIDE record's values where a table holds none; no active table lacks one (R13, check 5). -/
def defaultSide : SideData where
  kind := .cage
  hangOff := 0
  top := 0
  bottom := 0
  ropeWeight := 10
  stiffness := 10000
  weight := 1000
  payloadLimit := 0
  slack := 600
  alarm := 100
  clear := 80
  trip := 200

/-! ## WRAP, STATION, MARKER, ZONE (R5 to R8) -/

/-- The count length of a WRAP body, whose lower bound is the effective CPR of its drum (R5). -/
def wrapLength (cpr : PerSide Int) (b : List Byte) : Num :=
  num (cpr.get ((sideOfCode (byteAt b 0)).getD .one)) 16777216 (u32At b 2)

def wrapPayout (b : List Byte) : Num := num 1000000 40000000 (u32At b 6)

def effSegment (cpr : PerSide Int) (b : List Byte) : Segment := ⟨(wrapLength cpr b).eff, (wrapPayout b).eff⟩

/-- A STATION body's stop depth of side 1 or 2, if present (presence bits 1 and 2). -/
def stopNum (b : List Byte) : Side → Option Num
  | .one => if bitAt b 1 1 then some (depthNum (s32At b 11)) else none
  | .two => if bitAt b 1 2 then some (depthNum (s32At b 15)) else none

def effStation (b : List Byte) : Station where
  id := byteAt b 0
  stop := ⟨(stopNum b .one).map Num.eff, (stopNum b .two).map Num.eff⟩

def effMarker (b : List Byte) : Marker where
  id := byteAt b 0
  line := byteAt b 1
  side := (sideOfCode (byteAt b 2)).getD .one
  desc := (depthNum (s32At b 3)).eff
  asc := (depthNum (s32At b 7)).eff

def effZone (b : List Byte) : Zone where
  side := (sideOfCode (byteAt b 0)).getD .one
  upper := (depthNum (s32At b 1)).eff
  lower := (depthNum (s32At b 5)).eff
  cap := (num 100 20000 (u16At b 9)).eff

/-! ## MODE (R9, R105) -/

def modeVMax (b : List Byte) : Num := num 100 20000 (u16At b 1)
def modeARet (b : List Byte) : Num := num 100 3000 (u16At b 3)

/-- v_creep: clamped to its range, then to the effective v_max of the same record; it counts once (R9). -/
def modeVCreep (b : List Byte) : Num :=
  let x := u16At b 5
  let y := clamp 50 2000 x
  ⟨x, if (modeVMax b).eff < y then (modeVMax b).eff else y⟩

def modeDCreep (b : List Byte) : Num := num 0 20000 (u16At b 7)

def effMode (b : List Byte) : ModeParams :=
  ⟨(modeVMax b).eff, (modeARet b).eff, (modeVCreep b).eff, (modeDCreep b).eff⟩

/-- The default parameters of a mode (R105). -/
def defaultMode : Mode → ModeParams
  | .man => ⟨12000, 750, 500, 3000⟩
  | .material => ⟨15000, 900, 500, 3000⟩
  | .rock => ⟨18000, 1000, 600, 4000⟩
  | .inspect => ⟨1500, 500, 300, 1000⟩

def Modes.get (m : Modes) : Mode → ModeParams
  | .man => m.man
  | .material => m.material
  | .rock => m.rock
  | .inspect => m.inspect

def defaultModes : Modes := ⟨defaultMode .man, defaultMode .material, defaultMode .rock, defaultMode .inspect⟩

/-! ## A whole table -/

/-- The bodies of one kind, in load order. -/
def bodiesOf (k : RecordKind) (records : List RawRecord) : List (List Byte) :=
  (records.filter (RawRecordIs k)).map RawRecord.body

/-- The first body of a kind with a given enumerated first byte. -/
def bodyWith (k : RecordKind) (first : Nat) (records : List RawRecord) : Option (List Byte) :=
  (bodiesOf k records).find? fun b => byteAt b 0 = first

/-- The effective WINDER record of a table. -/
def tableWinder (records : List RawRecord) : Winder :=
  match bodiesOf .winder records with
  | b :: _ => effWinder b
  | [] => defaultWinder

/-- The effective SUPERVISION record of a table; absent, every field takes its default (R3). -/
def tableSup (records : List RawRecord) : Supervision :=
  match bodiesOf .supervision records with
  | b :: _ => effSup b
  | [] => defaultSup

def tableSide (records : List RawRecord) (d : Side) : SideData :=
  match bodyWith .side (sideCode d) records with
  | some b => effSide b
  | none => defaultSide

/-- The segments of a drum in index order, whatever their order in the load (R5). -/
def tableSegments (records : List RawRecord) (d : Side) : List Segment :=
  let mine := (bodiesOf .wrap records).filter fun b => byteAt b 0 = sideCode d
  [1, 2, 3, 4, 5, 6, 7, 8, 9, 10, 11, 12, 13, 14, 15, 16].filterMap fun i =>
    (mine.find? fun b => byteAt b 1 = i).map (effSegment (tableWinder records).cpr)

def tableMode (records : List RawRecord) (m : Mode) : ModeParams :=
  match bodyWith .mode m.code records with
  | some b => effMode b
  | none => defaultMode m

/-- The effective values of a table (R1). -/
def effective (records : List RawRecord) : Effective where
  winder := tableWinder records
  sup := tableSup records
  side := ⟨tableSide records .one, tableSide records .two⟩
  wraps := ⟨tableSegments records .one, tableSegments records .two⟩
  stations := (bodiesOf .station records).map effStation
  markers := (bodiesOf .marker records).map effMarker
  zones := (bodiesOf .zone records).map effZone
  modes := ⟨tableMode records .man, tableMode records .material, tableMode records .rock, tableMode records .inspect⟩

/-- The number of a record's own fields that were clamped, given the table's effective CPR of each drum (R14). -/
def recordClamps (cpr : PerSide Int) (r : RawRecord) : Nat :=
  match recordKindOf r.kind with
  | some .winder => winderClamps r.body
  | some .supervision => clampSum (supFields r.body)
  | some .side => clampSum (sideFields r.body)
  | some .wrap => clampSum [wrapLength cpr r.body, wrapPayout r.body]
  | some .station => clampSum ((stopNum r.body .one).toList ++ (stopNum r.body .two).toList)
  | some .marker => clampSum [depthNum (s32At r.body 3), depthNum (s32At r.body 7)]
  | some .zone => clampSum [depthNum (s32At r.body 1), depthNum (s32At r.body 5), num 100 20000 (u16At r.body 9)]
  | some .mode => clampSum [modeVMax r.body, modeARet r.body, modeVCreep r.body, modeDCreep r.body]
  | none => 0

/-- The clamp count of each record of a table (R14). -/
def tableClamps (records : List RawRecord) : List Nat := records.map (recordClamps (tableWinder records).cpr)

/-- The active table that a list of records with its table check makes (R1, R14, R19). -/
def ActiveTable.of (records : List RawRecord) (check : Half) : ActiveTable where
  records := records
  check := check
  clamps := tableClamps records
  eff := effective records

end Sys2Proof.Machine
end

