-- ==== Sys2Proof/Machine/Flags.lean ====
section
/-! DEFINITION. The flags and judgements that the blocks read of one another: whether a drum is stationary, a side is
in play, a stage is latched, a wind is open, and the effective values in use. -/

namespace Sys2Proof.Machine

/-! ## Effective values in use (R1) -/

/-- Whether a table is active. -/
def State.hasTable (s : State) : Bool := s.table.active.isSome

/-- The effective WINDER values, or those that stand with no table active. -/
def State.winder (s : State) : Winder :=
  match s.table.active with
  | some t => t.eff.winder
  | none => defaultWinder

/-- The effective SUPERVISION values, or their defaults (R3). -/
def State.sup (s : State) : Supervision :=
  match s.table.active with
  | some t => t.eff.sup
  | none => defaultSup

/-- The effective SIDE values of a side. -/
def State.sideData (s : State) (d : Side) : SideData :=
  match s.table.active with
  | some t => t.eff.side.get d
  | none => defaultSide

/-- The effective wrap segments of a drum in index order. -/
def State.segments (s : State) (d : Side) : List Segment :=
  match s.table.active with
  | some t => t.eff.wraps.get d
  | none => []

/-- The effective parameters of a mode (R105). -/
def State.mode (s : State) (m : Mode) : ModeParams :=
  match s.table.active with
  | some t => t.eff.modes.get m
  | none => defaultMode m

/-- The markers of the active table. -/
def State.markers (s : State) : List Marker :=
  match s.table.active with
  | some t => t.eff.markers
  | none => []

/-- The markers of one side. -/
def State.markersOf (s : State) (d : Side) : List Marker := s.markers.filter fun m => m.side = d

/-- The zones of one side. -/
def State.zonesOf (s : State) (d : Side) : List Zone :=
  match s.table.active with
  | some t => t.eff.zones.filter fun z => z.side = d
  | none => []

/-- A side's stop depth at a station, if the table has both (R6, R110). -/
def State.stopDepth (s : State) (station : Nat) (d : Side) : Option Int :=
  match s.table.active with
  | some t => (t.eff.stations.find? fun st => st.id = station).bind fun st => st.stop.get d
  | none => none

/-- The bound of K: the correction authority of the active table, or 5,000 mm with none (R61). -/
def State.authority (s : State) : Int :=
  match s.table.active with
  | some t => t.eff.sup.authority
  | none => Config.maxK

/-- A correction offset clamped to ± the authority (R61). -/
def State.clampK (s : State) (k : Int) : Int := clamp (-s.authority) s.authority k

/-! ## Motion and sides in play -/

/-- The speed of a drum at the latest drum sample (R31). -/
def State.speed (s : State) (d : Side) : Int := (s.drums.drum.get d).v

/-- Whether a drum is stationary (R33). -/
def State.stationary (s : State) (d : Side) : Bool := decide (mag (s.speed d) < Config.standstill)

/-- Whether both drums are stationary. -/
def State.bothStationary (s : State) : Bool := s.stationary .one && s.stationary .two

/-- Whether a side is in play: side 1 always, side 2 while the clutch is engaged (R87). -/
def State.inPlay (s : State) : Side → Bool
  | .one => true
  | .two => s.inputs.clutch

/-- Whether every drum in play is stationary (R110, R116). -/
def State.playStationary (s : State) : Bool := s.stationary .one && (!s.inPlay .two || s.stationary .two)

/-- The largest |v| among the drums in play (R96). -/
def State.playSpeed (s : State) : Int :=
  let v1 := mag (s.speed .one)
  let v2 := mag (s.speed .two)
  if s.inPlay .two ∧ v1 < v2 then v2 else v1

/-! ## Timers -/

/-- Whether a timer has reached its end: it runs and no millisecond of it is left. An expiry that a restart of its timer
has overtaken does not happen (R43, R44, R144, R156, R158, log entry 2). -/
def ended (t : Timer) : Bool := decide (t = some 0)

/-! ## Stages, winds, proof -/

def Latch.isLatched : Latch → Bool
  | .clear => false
  | .latched _ => true

/-- The first cause of a stage, absent while it is CLEAR (R146). -/
def Latch.first : Latch → Option Cause
  | .clear => none
  | .latched c => some c

/-- Whether a stage is latched. -/
def State.latched (s : State) (k : Stage) : Bool := (s.trip.latch.get k).isLatched

/-- The latches as a TRIP report and a POLL reply carry them. -/
def State.latches (s : State) : PerStage Bool := ⟨s.latched .s1, s.latched .s2, s.latched .s3⟩

/-- Whether any stage is latched. -/
def State.anyLatched (s : State) : Bool := s.latched .s1 || s.latched .s2 || s.latched .s3

/-- The phase of the open wind; `none` in IDLE (R108). -/
def State.phase (s : State) : Option Phase := s.wind.current.map OpenWind.phase

/-- Whether a wind is open. -/
def State.windOpen (s : State) : Bool := s.wind.current.isSome

/-- Whether the proof is in step 5, where the proof unit commands the channels (R131, R156). -/
def State.inTripTest (s : State) : Bool :=
  match s.proof.readiness with
  | .proving (.tripPaths _ _ _ _) => true
  | _ => false

/-- Whether readiness is PROVING. -/
def State.isProving (s : State) : Bool :=
  match s.proof.readiness with
  | .proving _ => true
  | _ => false

/-- Whether a lock state is referenced: LOCKED or SUSPECT (R95, R110). -/
def Lock.referenced : Lock → Bool
  | .locked => true
  | .suspect => true
  | _ => false

/-- Whether a load channel is usable: GOOD or HELD (R44). -/
def ChannelHealth.usable : ChannelHealth → Bool
  | .good => true
  | .held => true
  | .bad => false

/-- Whether a cause is a condition (R133). -/
def Cause.isCondition (c : Cause) : Bool := c.kind = .condition

/-- Whether a cause is a LIMIT, the only condition that a recovery reset passes over (R139). -/
def Cause.isLimit : Cause → Bool
  | .limit _ _ => true
  | _ => false

/-- Whether a cause is a LIMIT of a side. -/
def Cause.isLimitOf (d : Side) : Cause → Bool
  | .limit e _ => e = d
  | _ => false

/-- The uncertainty of a lock state (R63). -/
def State.uncertainty (s : State) : Lock → Int
  | .locked => 0
  | .suspect => s.sup.capture
  | _ => s.sup.search

end Sys2Proof.Machine
end

