-- ==== Sys2Proof/Machine/Ops.lean ====
section
/-! DEFINITION. The operations that several commands share: replies and reports and the transmitter (09, 10), raising a
cause (R134) with what it brings about in the wind controller (R121), advisories (R137), the closure and the stopping of
a wind (R117, R119), the park write (R18) and the marks of the rest payouts (R36, R38). -/

namespace Sys2Proof.Machine

/-! ## Setting one block of the state -/

def State.setPending (s : State) (x : List Instr) : State := { s with pending := x }
def State.setPins (s : State) (x : Pins) : State := { s with pins := x }
def State.setClock (s : State) (x : Clock) : State := { s with clock := x }
def State.setLink (s : State) (x : LinkPort) : State := { s with link := x }
def State.setTable (s : State) (x : ShaftTable) : State := { s with table := x }
def State.setDrums (s : State) (x : DrumUnit) : State := { s with drums := x }
def State.setInputs (s : State) (x : Inputs) : State := { s with inputs := x }
def State.setRope (s : State) (x : RopeUnit) : State := { s with rope := x }
def State.setDepth (s : State) (x : PerSide Track) : State := { s with depth := x }
def State.setEnv (s : State) (x : Envelope) : State := { s with env := x }
def State.setWind (s : State) (x : WindUnit) : State := { s with wind := x }
def State.setTrip (s : State) (x : TripUnit) : State := { s with trip := x }
def State.setProof (s : State) (x : ProofUnit) : State := { s with proof := x }

/-- One drum's record replaced. -/
def State.setDrum (s : State) (d : Side) (x : Drum) : State :=
  s.setDrums { s.drums with drum := s.drums.drum.set d x }

/-- One side's rope record replaced. -/
def State.setRopeSide (s : State) (d : Side) (x : RopeSide) : State :=
  s.setRope { s.rope with side := s.rope.side.set d x }

/-- One side's track replaced. -/
def State.setTrack (s : State) (d : Side) (x : Track) : State := s.setDepth (s.depth.set d x)

/-! ## Reports, replies and the transmitter -/

/-- A report is created: it joins the tail of the queue with the present time stamp, or is dropped at a full queue and
sets the reports-lost flag (R173, R174, R175). -/
def State.report (s : State) (body : ReportBody) : State :=
  if s.link.reports.length < Config.maxReports then
    s.setLink { s.link with reports := s.link.reports ++ [⟨body, s.clock.stamp⟩] }
  else s.setLink { s.link with lost := true }

/-- A reply joins the tail of the reply list (R167). -/
def State.answer (s : State) (r : Reply) : State :=
  s.setLink { s.link with replies := s.link.replies ++ [r] }

/-- The transmitter, when idle and outside the quiet period, takes the oldest reply, else the report at the head of the
queue (R161, R168). It chooses when a whole command has taken effect (log entry 12). -/
def State.transmit (s : State) : State :=
  match s.link.tx, s.link.quiet, s.link.replies, s.link.reports with
  | none, none, r :: rest, _ => s.setLink { s.link with tx := some (.reply r), replies := rest }
  | none, none, [], r :: rest => s.setLink { s.link with tx := some (.report r), reports := rest }
  | _, _, _, _ => s

/-! ## The output channels (R131, R132) -/

/-- One output channel's record replaced. -/
def State.setChannel (s : State) (k : Stage) (c : Chan) (x : OutChannel) : State :=
  s.setTrip { s.trip with chan := s.trip.chan.set k ((s.trip.chan.get k).set c x) }

def State.channel (s : State) (k : Stage) (c : Chan) : OutChannel := (s.trip.chan.get k).get c

def State.readback (s : State) (k : Stage) (c : Chan) : Bool := (s.pins.readbacks.get k).get c

/-- An entry leaves the active set (R136). -/
def State.dropActive (s : State) (p : Cause → Bool) : State :=
  s.setTrip { s.trip with active := s.trip.active.filter fun c => !p c }

/-- A channel's command is compared with its readback (R132): on agreement its timer stops and its TRIP PATH ends; on
disagreement a stopped timer is started. During step 5 of the proof no comparison is made. -/
def State.compareChannel (s : State) (k : Stage) (c : Chan) : State :=
  if s.inTripTest then s
  else if (s.channel k c).commanded = s.readback k c then
    (s.setChannel k c { s.channel k c with mismatch := none }).dropActive fun x => x = .tripPath k c
  else if (s.channel k c).mismatch.isNone then
    s.setChannel k c { s.channel k c with mismatch := some Config.mismatchMs }
  else s

/-- A channel is commanded; a change of the command is followed by the comparison (R131, R132). -/
def State.command (s : State) (k : Stage) (c : Chan) (energised : Bool) : State :=
  if (s.channel k c).commanded = energised then s
  else (s.setChannel k c { s.channel k c with commanded := energised }).compareChannel k c

/-- Both channels of a stage follow its latch, unless the proof unit commands them (R131). -/
def State.followLatch (s : State) (k : Stage) : State :=
  if s.inTripTest then s
  else (s.command k .x (!s.latched k)).command k .y (!s.latched k)

/-- A stage's latch replaced, and its channels following it. -/
def State.setLatch (s : State) (k : Stage) (l : Latch) : State :=
  (s.setTrip { s.trip with latch := s.trip.latch.set k l }).followLatch k

/-! ## The cause set, the active set and the ranked capture (R134, R136, R138) -/

/-- A code joins a set of codes held in ascending order. -/
def insertCode (n : Nat) : List Nat → List Nat
  | [] => [n]
  | m :: rest => if n < m then n :: m :: rest else if n = m then m :: rest else m :: insertCode n rest

/-- The cause set gains a code (R134 part 1). -/
def State.addCause (s : State) (c : Cause) : State :=
  s.setTrip { s.trip with causes := insertCode c.code s.trip.causes }

/-- Whether the active set holds the entry a condition or advisory would be: LIMIT is held per side (R136). -/
def sameEntry (c x : Cause) : Bool :=
  match c with
  | .limit d _ => x.isLimitOf d
  | _ => decide (c = x)

/-- The active set gains an entry, if it does not hold it (R136). -/
def State.addActive (s : State) (c : Cause) : State :=
  if s.trip.active.any (sameEntry c) then s else s.setTrip { s.trip with active := s.trip.active ++ [c] }

/-- What the capture holds of a side: depth, speed and lock state of the latest drum sample (R138, log entry 18). -/
def State.captureSide (s : State) (d : Side) : CaptureSide :=
  ⟨(s.depth.get d).D, s.speed d, (s.depth.get d).sampledLock⟩

/-- The capture record a cause would make at this moment (R138). Within a drum sample each value is the last one formed:
a raise made after the depths are formed and before the envelope holds D, v and lock state of that sample and vp of the
sample before (DESIGN CHOICE, log entry 18). -/
def State.captureOf (s : State) (c : Cause) : Capture where
  cause := c
  rank := c.rank
  stamp := s.clock.stamp
  wind := s.wind.current.map OpenWind.number
  side := ⟨s.captureSide .one, s.captureSide .two⟩
  vp := s.env.vp

/-- A cause is offered to the ranked capture: it is written into an empty slot or over a lower rank (R138). -/
def State.offerCapture (s : State) (c : Cause) : State :=
  match s.trip.capture with
  | none => s.setTrip { s.trip with capture := some (s.captureOf c) }
  | some held => if held.rank < c.rank then s.setTrip { s.trip with capture := some (s.captureOf c) } else s

/-! ## Advisories (R137) -/

/-- The setting of an advisory. -/
def State.setAdvisory (s : State) (c : Cause) : State :=
  (((s.addCause c).addActive c).offerCapture c).report (.alarm c true)

/-- The clearing of an advisory. -/
def State.clearAdvisory (s : State) (c : Cause) : State :=
  (s.dropActive fun x => x = c).report (.alarm c false)

/-! ## A raise as the trip unit takes it, up to the hand-over (R134 parts 1 to 5) -/

/-- Whether a cause latches a stage: the stage is the cause's own or a lower one. -/
def Cause.reaches (c : Cause) (k : Stage) : Bool :=
  match c.stage with
  | none => false
  | some top => decide (stageCode k ≤ stageCode top)

/-- The stages a raise newly latches, the highest first (R134). -/
def State.newlyLatched (s : State) (c : Cause) : List Stage :=
  [Stage.s3, Stage.s2, Stage.s1].filter fun k => c.reaches k && !s.latched k

/-- The TRIP report of one newly latched stage, with the latches after the raise. -/
def State.reportLatch (c : Cause) (s : State) (k : Stage) : State := s.report (.tripLatch k c s.latches)

/-- A raise without its hand-over: cause set, active set, latches with their channels, TRIP reports, capture. -/
def State.raiseRecord (s : State) (c : Cause) : State :=
  let fresh := s.newlyLatched c
  let s1 := s.addCause c
  let s2 := if c.isCondition then s1.addActive c else s1
  let s3 := fresh.foldl (fun x k => x.setLatch k (.latched c)) s2
  let s4 := fresh.foldl (State.reportLatch c) s3
  if c.kind = .administrative then s4 else s4.offerCapture c

/-! ## Marks of the rest payouts and the drum 2 hold payout (R36, R38) -/

/-- The rest payout of each drum is marked to be taken at the next drum sample (R36). -/
def State.markRest (s : State) : State :=
  s.setDrums { s.drums with
    drum := ⟨{ s.drums.drum.one with restDue := true }, { s.drums.drum.two with restDue := true }⟩ }

/-- While the clutch is disengaged the drum 2 hold payout is marked to be taken (R38). -/
def State.markHold (s : State) : State :=
  if s.inputs.clutch then s else s.setDrums { s.drums with holdDue := true }

/-! ## The park write (R18) -/

/-- The park contents as they stand. -/
def State.parkContents (s : State) : Park where
  theta := ⟨s.drums.drum.one.theta, s.drums.drum.two.theta⟩
  K := ⟨s.depth.one.K, s.depth.two.K⟩
  clutch := s.inputs.clutch

/-- A park write is requested: it begins, or its contents become the pending ones (R18). -/
def State.requestPark (s : State) : State :=
  match s.table.parkWrite with
  | none => s.setTable { s.table with parkWrite := some s.parkContents, park := none }
  | some _ => s.setTable { s.table with parkPending := some s.parkContents }

/-! ## The open wind -/

/-- The open wind replaced. -/
def State.setCurrent (s : State) (w : OpenWind) : State := s.setWind { s.wind with current := some w }

/-- A hand-over to the counters of the open wind record; with no wind open it counts nothing (R82, R127). -/
def State.countSide (s : State) (d : Side) (f : SideCounts → SideCounts) : State :=
  match s.wind.current with
  | none => s
  | some w => s.setCurrent { w with counts := w.counts.set d (f (w.counts.get d)) }

/-- The completed record of a wind (R117, R127). -/
def OpenWind.complete (w : OpenWind) (outcome : WindOutcome) : WindRecord where
  number := w.number
  mode := w.mode
  lead := w.lead
  destination := w.destination
  origin := w.origin
  outcome := outcome
  duration := w.duration
  peakSpeed := w.peakSpeed
  peakUsage := w.peakUsage
  counts := w.counts
  firstTrip := w.firstTrip

/-- The last landed stations after a closure (R115): unchanged from ACCEPTED; else the lead side's becomes the
destination of a LANDED wind or absent, and the other side's absent if it is in play. -/
def State.landedAfter (s : State) (w : OpenWind) (outcome : WindOutcome) : PerSide (Option Nat) :=
  if w.phase = .accepted then s.wind.lastLanded
  else
    let p := s.wind.lastLanded.set w.lead (if outcome = .landed then some w.destination else none)
    if s.inPlay w.lead.other then p.set w.lead.other none else p

/-- Whether a side lies inside its limits by at least 500 mm on its offending end (R126). -/
def State.insideBy500 (s : State) (d : Side) (o : Offence) : Bool :=
  match o.outward with
  | .descending => decide (500 ≤ (s.sideData d).bottom - (s.depth.get d).D)
  | .ascending => decide (500 ≤ (s.depth.get d).D - (s.sideData d).top)

/-- Whether every offending side lies inside by 500 mm (R126). -/
def State.offendersInside (s : State) (r : PerSide (Option Offence)) : Bool :=
  (r.one.all fun o => s.insideBy500 .one o) && (r.two.all fun o => s.insideBy500 .two o)

/-- At an end of recovery each LIMIT that still stands is raised anew (R143), in the order in which the entries joined the
active set (DESIGN CHOICE, log entry 44). No wind is open then, so the latch is
handed to an idle wind controller, where it has no effect (R121). -/
def State.reraiseLimits (s : State) : State := (s.trip.active.filter Cause.isLimit).foldl State.raiseRecord s

/-- Recovery ends (R126, R143); with recovery inactive nothing happens. -/
def State.endRecovery (s : State) : State :=
  match s.wind.recovery with
  | none => s
  | some _ => (s.setWind { s.wind with recovery := none }).reraiseLimits

/-- The judgement of the end of recovery at the closure of a recovery wind (R126). -/
def State.judgeRecoveryEnd (s : State) : State :=
  match s.wind.recovery with
  | none => s
  | some r => if s.offendersInside r then s.endRecovery else s

/-- The closure of the open wind with an outcome (R117). With no wind open nothing happens. -/
def State.closeWind (s : State) (outcome : WindOutcome) : State :=
  match s.wind.current with
  | none => s
  | some w =>
    let s1 := s.setWind { s.wind with
      current := none
      history := (w.complete outcome :: s.wind.history).take Config.maxHistory
      unintended := ⟨false, false⟩
      lastLanded := s.landedAfter w outcome }
    let s2 := s1.report (.wind w.number none (some outcome) w.destination)
    let s3 := s2.requestPark.markRest
    let s4 := s3.setEnv { s3.env with degrade := none, overCount := ⟨0, 0, 0⟩ }
    let s5 := s4.setRope { s4.rope with loadLost := false }
    if w.inRecovery then s5.judgeRecoveryEnd else s5

/-- The stopping direction: the sign of the lead side's v when its drum is not stationary, else the present intended
direction (R119). -/
def State.stopDir (s : State) (w : OpenWind) : Dir :=
  if s.stationary w.lead then w.dir else dirOfSpeed (s.speed w.lead)

/-- The stopping distance from a speed at a retardation, rounded upward (R119). -/
def stopDistance (v aRet : Int) : Int := ceilDiv (v * v) (2 * aRet)

/-- The stop target (R119): the lead side's depth plus the stopping distance in the stopping direction, with D and v as
last formed: a stop by a raise in voting takes those of the sample before (DESIGN CHOICE, log entry 15). -/
def State.stopTarget (s : State) (w : OpenWind) : Int :=
  (s.depth.get w.lead).D + (s.stopDir w).sign * stopDistance (s.speed w.lead) (s.mode w.mode).aRet

/-- The open wind enters STOPPING from RUNNING or CREEP (R119). The rope load unit, handed the change, no longer judges
a load lost (R57). -/
def State.enterStopping (s : State) (w : OpenWind) (why : StopCause) : State :=
  let s1 := s.setCurrent { w with
    phase := .stopping, stop := some why, target := s.stopTarget w, dir := s.stopDir w }
  let s2 := s1.report (.wind w.number (some .stopping) none w.destination)
  s2.setRope { s2.rope with loadLost := false }

/-- A latch is handed to the wind controller with its cause (R121). -/
def State.handLatch (s : State) (c : Cause) : State :=
  match s.wind.current with
  | none => s
  | some w =>
    let w1 : OpenWind := { w with firstTrip := if w.firstTrip.isNone then some c else w.firstTrip }
    match w.phase with
    | .accepted => (s.setCurrent w1).closeWind .tripped
    | .running => s.enterStopping w1 .trip
    | .creep => s.enterStopping w1 .trip
    | .stopping => s.setCurrent { w1 with stop := some .trip }

/-- A latching cause is raised and taken whole (R134). -/
def State.raiseCause (s : State) (c : Cause) : State :=
  if (s.newlyLatched c).isEmpty then s.raiseRecord c else (s.raiseRecord c).handLatch c

/-- A LIMIT ends for a side (R103, R136). -/
def State.endLimit (s : State) (d : Side) : State := s.dropActive (Cause.isLimitOf d)

/-! ## Hand-overs to the envelope and the rope load unit -/

/-- The degrade state becomes active while a wind is open; an active one runs on (R96). -/
def State.startDegrade (s : State) (v0 : Int) : State :=
  if s.windOpen ∧ s.env.degrade.isNone then s.setEnv { s.env with degrade := some ⟨v0, 0⟩ } else s

/-- The sides in play whose both-BAD status is true (R56, R57). -/
def State.loadFault (s : State) : Option Sides :=
  sidesOf (s.rope.side.one.bothBad && s.inPlay .one) (s.rope.side.two.bothBad && s.inPlay .two)

/-- Whether the open wind is a MAN wind in RUNNING or CREEP (R57). -/
def State.manUnderWay (s : State) : Bool :=
  match s.wind.current with
  | none => false
  | some w => decide (w.mode = .man ∧ (w.phase = .running ∨ w.phase = .creep))

/-- The load-lost judgement is formed anew; at its change to true LOAD LOST is raised (R57). -/
def State.judgeLoadLost (s : State) : State :=
  match s.loadFault with
  | none => s.setRope { s.rope with loadLost := false }
  | some sides =>
    if !s.manUnderWay then s.setRope { s.rope with loadLost := false }
    else if s.rope.loadLost then s
    else (s.setRope { s.rope with loadLost := true }).raiseCause (.loadLost sides)

end Sys2Proof.Machine
end

