-- ==== Sys2Proof/Machine/Drums.lean ====
section
/-! DEFINITION. The drum measurement unit (02): counting, failures and drum states, the conversion of angle to payout,
voting and speed at a drum sample. -/

namespace Sys2Proof.Machine

/-! ## Counting (R21) -/

/-- The count sense of an encoder: that of the active table, +1 with none. -/
def State.senseOf (s : State) (d : Side) (e : Twin) : Bool := (s.winder.sense.get d).get e

/-- A healthy encoder counts a step by its sense, wrapping; a failed one does not (R21). -/
def stepEncoder (enc : Encoder) (sense forward : Bool) : Encoder :=
  if enc.failed then enc
  else { enc with count := if sense = forward then enc.count + 1 else enc.count - 1 }

/-! ## From angle to payout (R29, R30) -/

/-- The payout of an angle `r` counted from the start of the first segment given, added to `acc`: whole segments, then
the part of the segment that holds it; the last segment covers every angle beyond its end. -/
def payoutAlong (cpr : Int) : List Segment → Int → Int → Int
  | [], _, acc => acc
  | [g], r, acc => acc + r * g.c / cpr
  | g :: h :: rest, r, acc =>
    if r < g.n then acc + r * g.c / cpr else payoutAlong cpr (h :: rest) (r - g.n) (acc + g.n * g.c / cpr)

/-- The payout in micrometres of an angle through the segments of a drum (R29). -/
def payoutUm (cpr : Int) (segments : List Segment) (theta : Int) : Int :=
  match segments with
  | [] => 0
  | g :: rest => if theta < 0 then theta * g.c / cpr else payoutAlong cpr (g :: rest) theta 0

/-- Micrometres to millimetres, rounding half up (R30). -/
def toMm (um : Int) : Int := (um + 500) / 1000

/-- The payout of an angle of a drum through the active table; 0 with none (R29). -/
def State.payoutOf (s : State) (d : Side) (theta : Int) : Int :=
  if s.hasTable then payoutUm (s.winder.cpr.get d) (s.segments d) theta else 0

/-! ## Drum states (R23, R26, R28) -/

/-- The mean of the two counts, rounded toward minus infinity (R23). -/
def meanCount (p : PerTwin Encoder) : Int := (p.a.count.toInt + p.b.count.toInt) / 2

/-- The angle that a drum's state forms from its counts; LOST holds the angle (R23). -/
def Drum.formTheta (x : Drum) : Int :=
  match x.state with
  | .dual => meanCount x.enc
  | .diverged => meanCount x.enc
  | .singleA => x.enc.a.count.toInt
  | .singleB => x.enc.b.count.toInt
  | .lost => x.theta

/-- The difference A − B, taken with the wrap of the counts (R21, R24). -/
def Drum.delta (x : Drum) : Int := (x.enc.a.count - x.enc.b.count).toInt

/-- The drum state after failures, from the encoders' health (R26). -/
def stateOfHealth (p : PerTwin Encoder) (old : DrumState) : DrumState :=
  match p.a.failed, p.b.failed with
  | true, true => .lost
  | true, false => .singleB
  | false, true => .singleA
  | false, false => old

/-- Whether a change of state keeps the source of the angle: only between DUAL and DIVERGED (R23). -/
def sameSource (old new : DrumState) : Bool :=
  decide (old = new) || decide (old = .dual ∧ new = .diverged) || decide (old = .diverged ∧ new = .dual)

/-- The cause a drum state raises on entry (R25, R26). -/
def entryCause (d : Side) : DrumState → Option Cause
  | .diverged => some (.encoderDivergence d)
  | .lost => some (.drumLost d)
  | _ => none

/-- A drum changes its state: re-base, cause, advisory, DRUM report and degrade state (R23 to R28, R32, R96). Nothing
happens when the state stays. A change in the vote of a drum sample starts the degrade state from the speeds of the sample
before (DESIGN CHOICE, log entry 15). -/
def State.changeDrum (s : State) (d : Side) (new : DrumState) : State :=
  let x := s.drums.drum.get d
  if x.state = new then s
  else
    let s1 := s.setDrum d { x with
      state := new
      disagree := false
      agreeing := 0
      history := if sameSource x.state new then x.history else [] }
    let s2 := match entryCause d new with
      | some c => s1.raiseCause c
      | none => s1
    let s3 := if x.disagree then s2.clearAdvisory (.encoderDisagreement d) else s2
    let s4 := s3.report (.drum d x.state new x.enc.a.failed x.enc.b.failed x.theta)
    if x.state = .dual ∧ s.inPlay d then s4.startDegrade s.playSpeed else s4

/-- Encoders of a drum fail together: each named one is marked FAILED and the drum changes its state once (R22, R26,
R27). Encoders already FAILED leave everything as it is. -/
def State.failEncoders (s : State) (d : Side) (a b : Bool) : State :=
  let x := s.drums.drum.get d
  let enc : PerTwin Encoder :=
    ⟨{ x.enc.a with failed := x.enc.a.failed || a }, { x.enc.b with failed := x.enc.b.failed || b }⟩
  (s.setDrum d { x with enc := enc }).changeDrum d (stateOfHealth enc x.state)

/-- One encoder fails (R22). -/
def State.failEncoder (s : State) (d : Side) (e : Twin) : State :=
  s.failEncoders d (decide (e = .a)) (decide (e = .b))

/-! ## The drum sample of the unit (R24, R25, R29 to R33, R36, R38) -/

/-- The vote of a drum in DUAL at a sample (R24, R25). -/
def State.voteDual (s : State) (d : Side) : State :=
  let x := s.drums.drum.get d
  if s.sup.diverge < mag x.delta then s.changeDrum d .diverged
  else if s.sup.agree < mag x.delta then
    let s1 := s.setDrum d { x with agreeing := 0, disagree := true }
    let s2 := if x.disagree then s1 else s1.setAdvisory (.encoderDisagreement d)
    s2.countSide d fun n => { n with disagreements := satSucc Config.max16 n.disagreements }
  else
    let n := satSucc 50 x.agreeing
    if x.disagree ∧ n = 50 then
      (s.setDrum d { x with agreeing := n, disagree := false }).clearAdvisory (.encoderDisagreement d)
    else s.setDrum d { x with agreeing := n }

/-- A drum's angle is formed and, in DUAL, its counts are voted (R23, R24, R25). -/
def State.vote (s : State) (d : Side) : State :=
  let x := s.drums.drum.get d
  let s1 := s.setDrum d { x with theta := x.formTheta }
  let s2 := if x.state = .dual then s1.voteDual d else s1
  let y := s2.drums.drum.get d
  s2.setDrum d { y with sampledState := y.state }

/-- The payout speed at a sample with payout `p` after the entries `earlier`, newest first: the change over the window
divided by its milliseconds, rounded toward zero; with no earlier entry it keeps its value (R31). -/
def speedOf (earlier : List Int) (p old : Int) : Int :=
  match earlier.getLast? with
  | none => old
  | some first => Int.tdiv (p - first) (2 * (earlier.length : Int))

/-- A drum measures its payout and speed and takes a rest payout marked before the sample (R29 to R32, R36). -/
def State.measure (s : State) (d : Side) (takeRest : Bool) : State :=
  let x := s.drums.drum.get d
  let p := s.payoutOf d x.theta
  let earlier := x.history.take 8
  s.setDrum d { x with
    payoutUm := p
    payoutMm := toMm p
    v := if x.state = .lost then 0 else speedOf earlier p x.v
    history := if x.state = .lost then [] else p :: earlier
    rest := if takeRest then toMm p else x.rest }

/-- The drum 2 hold payout is taken when it was marked, and its creep flag cleared (R38, R124). -/
def State.takeHold (s : State) : State :=
  if s.drums.holdDue then
    (s.setDrums { s.drums with hold := some s.drums.drum.two.payoutMm, holdDue := false }).setWind
      { s.wind with creepFlag := false }
  else s

/-- The marks of the rest payouts are taken up by the sample that begins. -/
def State.clearRestMarks (s : State) : State :=
  s.setDrums { s.drums with
    drum := ⟨{ s.drums.drum.one with restDue := false }, { s.drums.drum.two with restDue := false }⟩ }

/-- The drum unit's work at a drum sample: both drums are voted, then both measured, so a raise in voting finds, for its
capture, for a stop and for the degrade state, the D and v of the sample before; and where drum 1's vote closes an ACCEPTED
wind, its park contents hold θ of this sample for drum 1 and of the sample before for drum 2 (DESIGN CHOICE, log entry 15).
A rest payout is taken when it was marked before the sample began; a mark made during the sample waits for the next (R36). -/
def State.sampleDrums (s : State) : State :=
  let take1 := s.drums.drum.one.restDue
  let take2 := s.drums.drum.two.restDue
  let s1 := (s.clearRestMarks.vote .one).vote .two
  let s2 := ((s1.measure .one take1).measure .two take2).takeHold
  s2.setDrums { s2.drums with sampled := true }

end Sys2Proof.Machine
end

