-- ==== Sys2Proof/Machine/Tracker.lean ====
section
/-! DEFINITION. The depth tracker (04): depth and uncertainty, lock changes, accepted and rejected edges, missed markers
and the search. -/

namespace Sys2Proof.Machine

/-! ## Markers in the order of travel (R75) -/

/-- The depth at which a marker's edge is seen in a direction (R7). -/
def Marker.depth (m : Marker) : Dir → Int
  | .descending => m.desc
  | .ascending => m.asc

/-- Whether `x` lies before `y` in a direction of travel. -/
def before (dir : Dir) (x y : Int) : Bool :=
  match dir with
  | .descending => decide (x < y)
  | .ascending => decide (y < x)

/-- The nearer of two markers that lie ahead in a direction; of two at one depth, a free value (log entry 28). -/
def nearerAhead (dir : Dir) (m x : Marker) : Marker :=
  if before dir (m.depth dir) (x.depth dir) then m
  else if before dir (x.depth dir) (m.depth dir) then x
  else if Config.twinFirst m.id x.id then m else x

/-- The marker next beyond a depth in a direction: the least descending depth greater than it, or the greatest
ascending depth less than it (R75). -/
def markerBeyond (dir : Dir) (depth : Int) (markers : List Marker) : Option Marker :=
  (markers.filter fun m => before dir depth (m.depth dir)).foldl
    (fun best m => match best with
      | none => some m
      | some b => some (nearerAhead dir b m)) none

/-- The next expected marker beyond a depth of a side: its id, or absent (R75). -/
def State.expectBeyond (s : State) (d : Side) (dir : Dir) (depth : Int) : Option Nat :=
  (markerBeyond dir depth (s.markersOf d)).map Marker.id

/-- The next expected marker of a side, if it has one. -/
def State.expected (s : State) (d : Side) : Option Marker :=
  (s.depth.get d).next.bind fun n => (s.markersOf d).find? fun m => m.id = n

/-! ## Lock changes (R73, R81) -/

/-- A side's track changes; when its lock state changes a LOCK report is queued with the values after the change and
the marker that caused it (R81). -/
def State.changeTrack (s : State) (d : Side) (t : Track) (marker : Option Nat) : State :=
  let old := (s.depth.get d).lock
  let s1 := s.setTrack d t
  if old = t.lock then s1
  else s1.report (.lock d old t.lock t.K (s.uncertainty t.lock) t.rejects t.searches marker)

/-- A side enters LOST: POSITION LOST follows its LOCK report (R73). -/
def State.enterLost (s : State) (d : Side) (marker : Option Nat) : State :=
  let t := s.depth.get d
  (s.changeTrack d { t with lock := .lost, next := none, lastDir := none, rejects := 0 } marker).raiseCause
    (.positionLost d)

/-- A side enters SEARCHING on motion, with its distance travelled at 0 (R67). -/
def State.enterSearching (s : State) (d : Side) : State :=
  let t := s.depth.get d
  s.changeTrack d { t with lock := .searching, travelled := 0 } none

/-- A side in LOCKED or SUSPECT counts a rejection of any of the three kinds (R72). -/
def State.countReject (s : State) (d : Side) (marker : Option Nat) : State :=
  let t := s.depth.get d
  if t.lock = .suspect ∧ 3 ≤ t.rejects + 1 then s.enterLost d marker
  else s.changeTrack d { t with lock := .suspect, rejects := t.rejects + 1 } marker

/-! ## Hand-overs to the open wind record (R82, R127, R179) -/

/-- A change of K joins the total correction, clamped (R179). -/
def addCorrection (change : Int) (n : SideCounts) : SideCounts :=
  { n with correction := clamp (-Config.maxCorrection) Config.maxCorrection (n.correction + change) }

def addAccepted (n : SideCounts) : SideCounts := { n with accepted := satSucc Config.max16 n.accepted }
def addRejected (n : SideCounts) : SideCounts := { n with rejected := satSucc Config.max16 n.rejected }
def addMissed (n : SideCounts) : SideCounts := { n with missed := satSucc Config.max16 n.missed }

/-- Several missed markers are handed over, one by one. -/
def State.handMissed (s : State) (d : Side) : Nat → State
  | 0 => s
  | n + 1 => (s.countSide d addMissed).handMissed d n

/-! ## Accepted and rejected edges (R68 to R72) -/

/-- CORRECTION LIMIT mirrors whether the clamp acted at an accepted edge (R71). -/
def State.judgeClamp (s : State) (d : Side) (clamped : Bool) : State :=
  let t := s.depth.get d
  if clamped && !t.limitFlag then (s.setTrack d { t with limitFlag := true }).setAdvisory (.correctionLimit d)
  else if !clamped && t.limitFlag then (s.setTrack d { t with limitFlag := false }).clearAdvisory (.correctionLimit d)
  else s

/-- At entry to LOCKED the REFERENCE SEARCH advisory clears (R77). -/
def State.clearSearch (s : State) (d : Side) : State :=
  let t := s.depth.get d
  if t.searchFlag then (s.setTrack d { t with searchFlag := false }).clearAdvisory (.referenceSearch d) else s

/-- The markers of a side that lie from the old expected marker up to the accepted one, itself left out: they were
passed without an edge (R75). A marker at the very depth of the accepted one is not counted among them (DESIGN CHOICE, log
entry 45). -/
def State.passedOver (s : State) (d : Side) (dir : Dir) (m : Marker) : Nat :=
  match s.expected d with
  | none => 0
  | some e =>
    if e.id ≠ m.id ∧ before dir (e.depth dir) (m.depth dir) then
      ((s.markersOf d).filter fun x =>
        !before dir (x.depth dir) (e.depth dir) && before dir (x.depth dir) (m.depth dir)).length
    else 0

/-- An accepted edge on candidate `m` with residual `r`, travelling in `dir` (R68 to R71, R75, R77). -/
def State.acceptEdge (s : State) (d : Side) (dir : Dir) (m : Marker) (r : Int) : State :=
  let t := s.depth.get d
  let newK := s.clampK (t.K + r)
  let handed := ((s.countSide d addAccepted).countSide d (addCorrection (newK - t.K)))
  let clamped := decide (newK ≠ t.K + r)
  match t.lock with
  | .searching => (handed.changeTrack d { t with K := newK, lock := .aligning } (some m.id)).judgeClamp d clamped
  | .aligning =>
    let t1 : Track := { t with
      K := newK, lock := .locked, rejects := 0, travelled := 0, searches := 0
      next := s.expectBeyond d dir (m.depth dir) }
    ((handed.changeTrack d t1 (some m.id)).judgeClamp d clamped).clearSearch d
  | .locked =>
    let t1 : Track := { t with K := newK, rejects := 0, next := s.expectBeyond d dir (m.depth dir) }
    ((handed.handMissed d (s.passedOver d dir m)).changeTrack d t1 (some m.id)).judgeClamp d clamped
  | .suspect =>
    let t1 : Track := { t with
      K := newK, lock := .locked, rejects := 0, travelled := 0, searches := 0
      next := s.expectBeyond d dir (m.depth dir) }
    (((handed.handMissed d (s.passedOver d dir m)).changeTrack d t1 (some m.id)).judgeClamp d clamped).clearSearch d
  | .unreferenced => s
  | .lost => s

/-- A rejected edge on a line of the side, against candidate `m` (R68, R69, R72). It is handed over before the rejection is
counted, so one that takes the side LOST still enters the record of the wind that POSITION LOST closes (DESIGN CHOICE, log
entry 47). -/
def State.rejectEdge (s : State) (d : Side) (m : Marker) : State :=
  let t := s.depth.get d
  let handed := s.countSide d addRejected
  match t.lock with
  | .searching => handed
  | .aligning =>
    (handed.countSide d (addCorrection (-t.K))).changeTrack d { t with K := 0, lock := .searching } (some m.id)
  | .locked => handed.countReject d (some m.id)
  | .suspect => handed.countReject d (some m.id)
  | .unreferenced => s
  | .lost => s

/-- A stray edge for a side taking part: it counts in LOCKED and SUSPECT alone (R66, R72), and is handed over first (DESIGN
CHOICE, log entry 47). -/
def State.strayEdge (s : State) (d : Side) : State :=
  if (s.depth.get d).lock.referenced then (s.countSide d addRejected).countReject d none else s

/-! ## The tracker at a drum sample (R62, R63, R67, R74 to R77) -/

/-- Depth and uncertainty are formed and handed on with the lock state (R62, R63, log entry 16). -/
def State.formDepth (s : State) (d : Side) : State :=
  let t := s.depth.get d
  let p := (s.drums.drum.get d).payoutMm
  let d0 := if s.hasTable then (s.sideData d).hangOff + p + t.K else 0
  let depth := if s.hasTable then d0 + (s.rope.side.get d).stretch else 0
  s.setTrack d { t with D0 := d0, D := depth, u := s.uncertainty t.lock, sampledLock := t.lock }

/-- A side whose drum is LOST enters LOST (R74); a side in UNREFERENCED, or in LOST with stage 1 clear, enters
SEARCHING on motion (R67). -/
def State.lockOnMotion (s : State) (d : Side) : State :=
  let t := s.depth.get d
  if (s.drums.drum.get d).state = .lost ∧ t.lock ≠ .lost then s.enterLost d none
  else if s.stationary d then s
  else if t.lock = .unreferenced then s.enterSearching d
  else if t.lock = .lost ∧ !s.latched .s1 then s.enterSearching d
  else s

/-- The last direction follows a moving sample; a change in LOCKED or SUSPECT sets the next expected marker from the
depth (R75). -/
def State.followDirection (s : State) (d : Side) : State :=
  if s.stationary d then s
  else
    let t := s.depth.get d
    let dir := dirOfSpeed (s.speed d)
    if t.lastDir = some dir then s
    else s.setTrack d { t with
      lastDir := some dir
      next := if t.lock.referenced then s.expectBeyond d dir t.D else t.next }

/-- Whether a side has passed its expected marker by more than the capture band (R76). -/
def State.hasPassed (s : State) (d : Side) (dir : Dir) (e : Marker) : Bool :=
  match dir with
  | .descending => decide (e.desc + s.sup.capture < (s.depth.get d).D)
  | .ascending => decide ((s.depth.get d).D < e.asc - s.sup.capture)

/-- Missed markers are judged one after the other, at most `n` of them (R76). A miss counts as a rejection after the
expected marker has moved beyond it, and is handed over first (DESIGN CHOICE, log entry 47). -/
def State.judgeMisses (s : State) (d : Side) : Nat → State
  | 0 => s
  | n + 1 =>
    let t := s.depth.get d
    match t.lastDir, s.expected d with
    | some dir, some e =>
      if t.lock.referenced && s.hasPassed d dir e then
        let s1 := s.setTrack d { t with next := s.expectBeyond d dir (e.depth dir) }
        ((s1.countSide d addMissed).countReject d (some e.id)).judgeMisses d n
      else s
    | _, _ => s

/-- The search distance travelled, and the advances of the search counter (R77). -/
def State.search (s : State) (d : Side) : State :=
  let t := s.depth.get d
  let p := (s.drums.drum.get d).payoutMm
  if t.lock = .searching ∨ t.lock = .aligning then
    let far := t.travelled + mag (p - t.lastPayout)
    let laps := far / s.sup.searchDistance
    let t1 : Track := { t with
      travelled := far % s.sup.searchDistance
      searches := (t.searches + laps.toNat) % 64
      lastPayout := p }
    if 0 < laps ∧ !t.searchFlag then (s.setTrack d { t1 with searchFlag := true }).setAdvisory (.referenceSearch d)
    else s.setTrack d t1
  else s.setTrack d { t with lastPayout := p }

/-- One side's lock work at a drum sample, after its depth is formed. -/
def State.sampleLock (s : State) (d : Side) : State :=
  let s1 := (s.lockOnMotion d).followDirection d
  (s1.judgeMisses d ((s.markersOf d).length + 1)).search d

/-- The tracker's work at a drum sample: both depths are formed, then each side's lock work is done (log entry 16), all of
side 1's before side 2's (DESIGN CHOICE, log entry 44). -/
def State.sampleDepth (s : State) : State :=
  let s1 := (s.formDepth .one).formDepth .two
  (s1.sampleLock .one).sampleLock .two

end Sys2Proof.Machine
end

