-- ==== Sys2Proof/Machine/Envelope.lean ====
section
/-! DEFINITION. The envelope computer (05): braking speeds, terms and caps, permitted speed, thresholds, and the
judgements of overspeed, limits and station overtravel at a drum sample. -/

namespace Sys2Proof.Machine

/-! ## Braking speeds (R90) -/

/-- The integer square root, one bit of the result after another: `bits` bits remain and `root` is found so far. -/
def isqrtBits : Nat → Nat → Nat → Nat
  | 0, _, root => root
  | bits + 1, x, root =>
    if (root + 2 ^ bits) * (root + 2 ^ bits) ≤ x then isqrtBits bits x (root + 2 ^ bits) else isqrtBits bits x root

/-- The integer square root of an unsigned 64-bit value (R90). -/
def isqrt (x : Nat) : Nat := isqrtBits 32 x 0

/-- The highest speed from which a side retarding at `aRet` comes down to `v` within a distance, which is made
non-negative first (R90). -/
def brakingSpeed (v aRet distance : Int) : Int :=
  ((isqrt (v * v + 2 * aRet * (if distance < 0 then 0 else distance)).toNat : Nat) : Int)

/-! ## Terms (R91 to R94) -/

/-- The distance to the limit ahead (R91). -/
def limitAhead (lim : SideData) (depth : Int) : Dir → Int
  | .descending => lim.bottom - depth
  | .ascending => depth - lim.top

/-- The limit term of a side (R91). -/
def limitTerm (p : ModeParams) (lim : SideData) (depth u : Int) (dir : Dir) : Int :=
  brakingSpeed 0 p.aRet (limitAhead lim depth dir - u)

/-- The term of one zone, if it gives one: its cap inside, a braking speed to its near boundary ahead, none behind
(R92). -/
def zoneTerm (p : ModeParams) (z : Zone) (depth u : Int) (dir : Dir) : Option Int :=
  if z.upper ≤ depth ∧ depth ≤ z.lower then some z.cap
  else match dir with
    | .descending =>
      if depth < z.upper then some (brakingSpeed z.cap p.aRet (mag (z.upper - depth) - u)) else none
    | .ascending =>
      if z.lower < depth then some (brakingSpeed z.cap p.aRet (mag (z.lower - depth) - u)) else none

/-- The target term of ACCEPTED, RUNNING and CREEP (R93); beyond the station it is 0. -/
def approachTerm (p : ModeParams) (dT : Int) : Int :=
  if p.dCreep < dT then brakingSpeed p.vCreep p.aRet (dT - p.dCreep)
  else if 0 ≤ dT then p.vCreep
  else 0

/-- The target term of STOPPING (R94). -/
def stoppingTerm (p : ModeParams) (dT : Int) : Int := brakingSpeed 0 p.aRet dT

/-- The target distance of the open wind, in its intended direction (R93). -/
def State.targetDistance (s : State) (w : OpenWind) : Int := (w.target - (s.depth.get w.lead).D) * w.dir.sign

/-- The target term in the form of the wind's state (R93, R94). -/
def targetTerm (p : ModeParams) (phase : Phase) (dT : Int) : Int :=
  match phase with
  | .stopping => stoppingTerm p dT
  | _ => approachTerm p dT

/-! ## Caps (R95, R97, R98) -/

/-- The lock cap, when a side in play is not referenced at the sample (R95). -/
def State.lockCap (s : State) : Option Int :=
  if !s.depth.one.sampledLock.referenced || (s.inPlay .two && !s.depth.two.sampledLock.referenced) then
    some (s.mode .inspect).vMax
  else none

/-- The degrade cap, while the degrade state is active (R97). -/
def State.degradeCap (s : State) (p : ModeParams) : Option Int :=
  s.env.degrade.map fun g => max s.winder.degradedCap (g.v0 - p.aRet * (g.elapsed : Int) / 1000)

/-- The recovery cap, while recovery is active (R98). -/
def State.recoveryCap (s : State) : Option Int := if s.wind.recovery.isSome then some Config.recoveryCap else none

/-- The least of a speed and several others (R99). -/
def minWith (v : Int) (others : List Int) : Int := others.foldl min v

/-! ## Directions of travel (R88) -/

/-- A side's direction of travel at a sample: of its speed when it moves; at rest its intended direction while a wind
is open, else the direction it had. -/
def State.travelDir (s : State) (d : Side) : Dir :=
  if !s.stationary d then dirOfSpeed (s.speed d)
  else match s.wind.current with
    | some w => sideDir w.lead w.dir d
    | none => s.env.dir.get d

/-! ## The envelope at a sample (R86, R99, R100) -/

/-- The zone terms of a side. -/
def State.zoneTerms (s : State) (p : ModeParams) (d : Side) (dir : Dir) : List Int :=
  (s.zonesOf d).filterMap fun z => zoneTerm p z (s.depth.get d).D (s.depth.get d).u dir

/-- One stage threshold (R100). -/
def threshold (vp margin floor : Int) : Int := vp + max (vp * margin / 1000) floor

/-- The three thresholds for a permitted speed (R100). -/
def thresholds (p : Supervision) (vp : Int) : PerStage Int :=
  ⟨threshold vp p.margin.s1 p.floor.s1, threshold vp p.margin.s2 p.floor.s2, threshold vp p.margin.s3 p.floor.s3⟩

/-- The directions of travel formed at a sample: those of the sides in play (R88). -/
def State.travelDirs (s : State) : PerSide Dir :=
  ⟨s.travelDir .one, if s.inPlay .two then s.travelDir .two else s.env.dir.two⟩

/-- The terms and the permitted speed of an open wind (R89 to R99). -/
def State.windEnvelope (s : State) (w : OpenWind) : Envelope :=
  let p := s.mode w.mode
  let dirs := s.travelDirs
  let lim (d : Side) : Int := limitTerm p (s.sideData d) (s.depth.get d).D (s.depth.get d).u (dirs.get d)
  let lim1 := lim .one
  let lim2 := if s.inPlay .two then some (lim .two) else none
  let zones1 := s.zoneTerms p .one dirs.one
  let zones2 := if s.inPlay .two then s.zoneTerms p .two dirs.two else []
  let dT := s.targetDistance w
  let target := targetTerm p w.phase dT
  let vp := min Config.maxSpeed (minWith p.vMax
    ([lim1] ++ lim2.toList ++ zones1 ++ zones2 ++ [target] ++ s.lockCap.toList ++ (s.degradeCap p).toList ++
      s.recoveryCap.toList))
  { s.env with
    dir := dirs
    limitTerm := ⟨some lim1, lim2⟩
    zoneTerms := ⟨zones1, zones2⟩
    targetTerm := some target
    dT := some dT
    vp := vp
    thr := thresholds s.sup vp }

/-- The envelope with no wind open: no terms, permitted speed 0, thresholds at the floors (R89, R99, R100). -/
def State.idleEnvelope (s : State) : Envelope :=
  { s.env with
    dir := s.travelDirs
    limitTerm := ⟨none, none⟩
    zoneTerms := ⟨[], []⟩
    targetTerm := none
    dT := none
    vp := 0
    thr := thresholds s.sup 0 }

/-- The envelope with no table active is not evaluated (R86). -/
def State.noEnvelope (s : State) : Envelope :=
  { s.env with
    limitTerm := ⟨none, none⟩
    zoneTerms := ⟨[], []⟩
    targetTerm := none
    dT := none
    vp := 0
    thr := defaultFloors
    limit := ⟨.inside, .inside⟩ }

/-! ## Overspeed (R101, R102) -/

/-- The sides in play whose speed exceeds a threshold (R101). -/
def State.overSides (s : State) (thr : Int) : Option Sides :=
  sidesOf (decide (thr < mag (s.speed .one))) (s.inPlay .two && decide (thr < mag (s.speed .two)))

/-- One stage's counter at a judged sample; at 2 it returns to 0 and OVERSPEED is raised (R101). -/
def State.judgeStageSpeed (s : State) (k : Stage) : State :=
  match s.overSides (s.env.thr.get k) with
  | none => s.setEnv { s.env with overCount := s.env.overCount.set k 0 }
  | some sides =>
    if 2 ≤ s.env.overCount.get k + 1 then
      (s.setEnv { s.env with overCount := s.env.overCount.set k 0 }).raiseCause (.overspeed k sides)
    else s.setEnv { s.env with overCount := s.env.overCount.set k (s.env.overCount.get k + 1) }

/-- The overspeed judgement of a sample, by the phase that stood when the evaluation began (R86, R101, R102). -/
def State.judgeSpeed (s : State) (phase : Option Phase) : State :=
  match phase with
  | none => s.setEnv { s.env with overCount := ⟨0, 0, 0⟩ }
  | some .accepted => s.setEnv { s.env with overCount := ⟨0, 0, 0⟩ }
  | _ => ((s.judgeStageSpeed .s1).judgeStageSpeed .s2).judgeStageSpeed .s3

/-! ## Limits (R103) -/

/-- Where a depth stands against a side's limits (R103). -/
def limitState (lim : SideData) (depth : Int) : LimitState :=
  if depth < lim.top then .beyondTop else if lim.bottom < depth then .beyondBottom else .inside

/-- The end a limit state lies beyond, if any. -/
def LimitState.beyond : LimitState → Option ShaftEnd
  | .inside => none
  | .beyondTop => some .top
  | .beyondBottom => some .bottom

/-- The outward sense of an end: upward beyond the top, downward beyond the bottom (R103). -/
def outwardOf : ShaftEnd → Dir
  | .top => .ascending
  | .bottom => .descending

/-- A side is judged against its limits: a condition ends or is raised on a change (R103, R125). -/
def State.judgeLimit (s : State) (d : Side) : State :=
  let old := s.env.limit.get d
  let new := limitState (s.sideData d) (s.depth.get d).D
  if new = old then s
  else
    let s1 := s.setEnv { s.env with limit := s.env.limit.set d new }
    let s2 := if old = .inside then s1 else s1.endLimit d
    match new.beyond with
    | none => s2
    | some e =>
      (s2.setWind { s2.wind with outward := s2.wind.outward.set d (some (outwardOf e)) }).raiseCause (.limit d e)

/-! ## Station overtravel (R104) -/

/-- Station overtravel, judged on the wind as it stood when the evaluation began (R86, R104). -/
def State.judgeOvertravel (s : State) (w : Option OpenWind) : State :=
  match w with
  | none => s
  | some w =>
    if (w.phase = .running ∨ w.phase = .creep) ∧ (s.env.dT.getD 0) < -s.winder.overtravel then
      s.raiseCause (.stationOvertravel w.lead)
    else s

/-- The envelope's work at a drum sample (R86). Side 1 is judged against its limits before side 2 (DESIGN CHOICE, log entry
44). -/
def State.sampleEnvelope (s : State) : State :=
  if s.hasTable then
    let w := s.wind.current
    let s1 := s.setEnv (match w with
      | some x => s.windEnvelope x
      | none => s.idleEnvelope)
    (((s1.judgeSpeed (w.map OpenWind.phase)).judgeLimit .one).judgeLimit .two).judgeOvertravel w
  else s.setEnv s.noEnvelope

end Sys2Proof.Machine
end

