-- ==== Sys2Proof/WellFormed.lean ====
section
/-! DEFINITION. Which commands can reach the part: what a frame's length byte admits (R162), codes that name no
request (R164), lengths outside the range (R162), and records a store holds (R1). -/

namespace Sys2Proof

/-- A body that a frame can carry: the payload of 2 to 60 bytes holds the code, the tag and the body (R162, R164). -/
def bodyFits (body : List Byte) : Bool := decide (body.length ≤ 58)

/-- A code that names one of the fifteen requests (R165). -/
def isRequestCode (code : Byte) : Bool := decide (1 ≤ code.toNat ∧ code.toNat ≤ 15)

/-- The commands that an event at the part's connections can be. -/
def wellFormed : Instr → Bool
  | .poll _ body => bodyFits body
  | .wind _ body => bodyFits body
  | .redirect _ body => bodyFits body
  | .abort _ body => bodyFits body
  | .tripReset _ body => bodyFits body
  | .proof _ body => bodyFits body
  | .echoReturn _ body => bodyFits body
  | .tableOpen _ body => bodyFits body
  | .tableRecord _ body => bodyFits body
  | .tableClose _ body => bodyFits body
  | .readTable _ body => bodyFits body
  | .readFaults _ body => bodyFits body
  | .clearFaults _ body => bodyFits body
  | .readHistory _ body => bodyFits body
  | .restart _ body => bodyFits body
  | .unknownRequest code _ body => bodyFits body && !isRequestCode code
  | .linkFrameDiscarded (.badLength len) => decide (len.toNat < 2 ∨ 60 < len.toNat)
  | .linkFrameDiscarded _ => true
  | .tableStoreWriteEnd (.found records) => decide (records.length ≤ Config.maxRecords)
  | .tableStoreWriteEnd .asWritten => true
  | .linkByteGap _ => true
  | .transmitFrameEnd => true
  | .quietPeriodExpiry => true
  | .linkSilenceExpiry => true
  | .loadSample _ => true
  | .loadFrameDiscarded _ => true
  | .loadByteGap _ => true
  | .frameTimerExpiry => true
  | .holdTimerExpiry _ _ => true
  | .encoderStep _ _ _ => true
  | .quadratureError _ _ => true
  | .lineMonitorInactive _ _ => true
  | .drumSample => true
  | .markerEdge _ => true
  | .inputLevelChange _ => true
  | .clutchSettledChange => true
  | .drum2HeldSettledChange => true
  | .resetPermissiveSettledChange => true
  | .readbackChange _ _ _ => true
  | .mismatchTimerExpiry _ _ => true
  | .parkWriteEnd _ => true
  | .startTimerExpiry => true
  | .dwellTimerExpiry => true
  | .echoTimerExpiry => true
  | .testTimerExpiry => true
  | .powerOn _ => true

end Sys2Proof
end

