-- ==== Sys2Proof/Machine/Frames.lean ====
section
/-! DEFINITION. The CRC-16 of the link, the load sample line, the tables and the store (R13, R41, R162), and the frames
of the two lines as bytes (sections 9.1 and 9.9). -/

namespace Sys2Proof.Machine

/-- One bit of the CRC: shift out the most significant bit and fold in the polynomial 0x1021. -/
def crcBit (c : Half) : Half := if c.getLsbD 15 then (c <<< 1) ^^^ 0x1021#16 else c <<< 1

/-- `n` bits of the CRC. -/
def crcBits : Nat → Half → Half
  | 0, c => c
  | n + 1, c => crcBits n (crcBit c)

/-- One byte of the CRC, its most significant bit first. -/
def crcByte (c : Half) (b : Byte) : Half := crcBits 8 (c ^^^ (b.setWidth 16 <<< 8))

/-- CRC-16: polynomial 0x1021, initial value 0xFFFF, most significant bit first, no final inversion (R13). -/
def crc16 (bytes : List Byte) : Half := bytes.foldl crcByte 0xFFFF#16

/-- The payload of a record: its kind followed by its body (R13). -/
def recordPayload (r : RawRecord) : List Byte := r.kind :: r.body

/-- The table check of a list of records: one continuous CRC over their payloads in index order (R13). -/
def tableCheck (records : List RawRecord) : Half := crc16 (records.flatMap recordPayload)

/-! ## Host frames (R162, R164) -/

/-- The sync byte of the host link. -/
def linkSync : Byte := 0xA5

/-- A frame with its sync byte, its length and its check (R162). -/
def frameBytes (payload : List Byte) : List Byte :=
  let covered := byteOf payload.length :: payload
  linkSync :: covered ++ be16 (crc16 covered)

/-- The command a valid frame's payload stands for (R164, R165). -/
def requestOf (code tag : Byte) (body : List Byte) : Instr :=
  match code.toNat with
  | 1 => .poll tag body
  | 2 => .wind tag body
  | 3 => .redirect tag body
  | 4 => .abort tag body
  | 5 => .tripReset tag body
  | 6 => .proof tag body
  | 7 => .echoReturn tag body
  | 8 => .tableOpen tag body
  | 9 => .tableRecord tag body
  | 10 => .tableClose tag body
  | 11 => .readTable tag body
  | 12 => .readFaults tag body
  | 13 => .clearFaults tag body
  | 14 => .readHistory tag body
  | 15 => .restart tag body
  | _ => .unknownRequest code tag body

/-- The command that a whole host frame is: the request it holds, or its discarding (R162, R163). The bytes are those
from the sync byte on; a frame that ends early, or does not start with the sync byte, is no frame. -/
def hostFrameCommand (bytes : List Byte) : Option Instr :=
  match bytes with
  | sync :: len :: rest =>
    if sync ≠ linkSync then none
    else if len.toNat < 2 ∨ 60 < len.toNat then some (.linkFrameDiscarded (.badLength len))
    else if rest.length ≠ len.toNat + 2 then none
    else if crc16 (len :: rest.take len.toNat) ≠ halfAt rest len.toNat then some (.linkFrameDiscarded .badCheck)
    else match rest.take len.toNat with
      | code :: tag :: body => some (requestOf code tag body)
      | _ => none
  | _ => none

/-- The payload of the request a command is, if it is one. -/
def requestPayload : Instr → Option (List Byte)
  | .poll tag body => some (1 :: tag :: body)
  | .wind tag body => some (2 :: tag :: body)
  | .redirect tag body => some (3 :: tag :: body)
  | .abort tag body => some (4 :: tag :: body)
  | .tripReset tag body => some (5 :: tag :: body)
  | .proof tag body => some (6 :: tag :: body)
  | .echoReturn tag body => some (7 :: tag :: body)
  | .tableOpen tag body => some (8 :: tag :: body)
  | .tableRecord tag body => some (9 :: tag :: body)
  | .tableClose tag body => some (10 :: tag :: body)
  | .readTable tag body => some (11 :: tag :: body)
  | .readFaults tag body => some (12 :: tag :: body)
  | .clearFaults tag body => some (13 :: tag :: body)
  | .readHistory tag body => some (14 :: tag :: body)
  | .restart tag body => some (15 :: tag :: body)
  | .unknownRequest code tag body => some (code :: tag :: body)
  | _ => none

/-- The frame of the request a command is, if it is one. -/
def hostFrame (c : Instr) : Option (List Byte) := (requestPayload c).map frameBytes

/-- The host receiver taking one byte (R162): its next state, and the bytes of a frame it has completed, from the sync
byte on. A byte while hunting that is not the sync byte is dropped. -/
def linkRxByte (rx : RxPhase) (b : Byte) : RxPhase × Option (List Byte) :=
  match rx with
  | .hunting => (if b = linkSync then .takingLength else .hunting, none)
  | .takingLength =>
    if b.toNat < 2 ∨ 60 < b.toNat then (.hunting, some [linkSync, b])
    else (.assembling (b.toNat + 2) [b, linkSync], none)
  | .assembling left held =>
    if left ≤ 1 then (.hunting, some (held.reverse ++ [b])) else (.assembling (left - 1) (b :: held), none)

/-! ## Load sample frames (R41, R42) -/

/-- The sync byte of the load sample line. -/
def loadSync : Byte := 0x3C

/-- The load receiver taking one byte (R41): a frame is twelve bytes from its sync byte. -/
def loadRxByte (rx : RxPhase) (b : Byte) : RxPhase × Option (List Byte) :=
  match rx with
  | .assembling left held =>
    if left ≤ 1 then (.hunting, some (held.reverse ++ [b])) else (.assembling (left - 1) (b :: held), none)
  | _ => (if b = loadSync then .assembling 11 [b] else .hunting, none)

/-- A channel's value in a load frame: its tension when its status flag is set (R42). -/
def loadValue (flag : Bool) (tension : Half) : Option Half := if flag then some tension else none

/-- The command that twelve bytes of the load sample line are (R41, layout of section 9.9). -/
def loadFrameCommand (bytes : List Byte) : Option Instr :=
  match bytes with
  | sync :: rest =>
    if sync ≠ loadSync ∨ rest.length ≠ 11 then none
    else if crc16 (rest.take 9) ≠ halfAt rest 9 then some (.loadFrameDiscarded .badCheck)
    else some (.loadSample
      { seq := ⟨byteAt rest 0 / 16 % 16, Nat.mod_lt _ (by decide)⟩
        value :=
          ⟨⟨loadValue (bitAt rest 0 0) (halfAt rest 1), loadValue (bitAt rest 0 1) (halfAt rest 3)⟩,
           ⟨loadValue (bitAt rest 0 2) (halfAt rest 5), loadValue (bitAt rest 0 3) (halfAt rest 7)⟩⟩ })
  | [] => none

/-- The twelve bytes of a load sample frame; a channel flagged invalid carries zeros (layout of section 9.9). -/
def loadFrameBytes (f : LoadFrame) : List Byte :=
  let v := f.value
  let flags := f.seq.val * 16 + v.one.a.isSome.toNat + 2 * v.one.b.isSome.toNat + 4 * v.two.a.isSome.toNat +
    8 * v.two.b.isSome.toNat
  let covered := byteOf flags :: (be16 (v.one.a.getD 0) ++ be16 (v.one.b.getD 0) ++ be16 (v.two.a.getD 0) ++
    be16 (v.two.b.getD 0))
  loadSync :: covered ++ be16 (crc16 covered)

end Sys2Proof.Machine
end

