-- ==== Sys2Proof/Machine/Rope.lean ====
section
/-! DEFINITION. The rope load unit (03): channel health and filters, side tension, stretch, payload, the supervision of
balance and slack, and the load evaluation. -/

namespace Sys2Proof.Machine

/-! ## Channels (R44, R45, R46) -/

/-- One load channel's record. -/
def State.loadChan (s : State) (d : Side) (r : Twin) : LoadChannel := (s.rope.side.get d).chan.get r

def State.setLoadChan (s : State) (d : Side) (r : Twin) (x : LoadChannel) : State :=
  s.setRopeSide d { s.rope.side.get d with chan := (s.rope.side.get d).chan.set r x }

/-- A value joins the filter of a GOOD channel in place of the oldest, or fills all eight slots (R46). -/
def LoadChannel.take (x : LoadChannel) (value : Nat) : LoadChannel where
  health := .good
  slots := if x.health = .good then x.slots.drop 1 ++ [value] else List.replicate 8 value
  hold := none
  alarm := false

/-- A channel loses its value: a GOOD one becomes HELD and its hold timer is started (R44). -/
def LoadChannel.lose (x : LoadChannel) : LoadChannel :=
  if x.health = .good then { x with health := .held, hold := some Config.holdMs } else x

/-- The filtered value of a channel in newtons (R46). -/
def LoadChannel.filtered (x : LoadChannel) : Int := ((x.slots.sum / 8 * 10 : Nat) : Int)

/-! ## Both-BAD status (R56) -/

/-- Whether both channels of a side are BAD. -/
def RopeSide.isBothBad (p : RopeSide) : Bool := !p.chan.a.health.usable && !p.chan.b.health.usable

/-- A side's both-BAD status is formed anew and a change handed on: to the envelope, which applies its degrade state
(R96), and to the load-lost judgement (R57). -/
def State.judgeBothBad (s : State) (d : Side) : State :=
  let p := s.rope.side.get d
  if p.isBothBad = p.bothBad then s
  else
    let s1 := s.setRopeSide d { p with bothBad := p.isBothBad }
    let s2 := if p.isBothBad && s.inPlay d then s1.startDegrade s.playSpeed else s1
    s2.judgeLoadLost

/-- A channel takes its value from a valid frame (R44, R45, R46). -/
def State.updateChannel (s : State) (d : Side) (r : Twin) (value : Option Half) : State :=
  let x := s.loadChan d r
  match value with
  | none => s.setLoadChan d r x.lose
  | some v =>
    let s1 := s.setLoadChan d r (x.take v.toNat)
    let s2 := if x.alarm then s1.clearAdvisory (.loadChannel d r) else s1
    s2.judgeBothBad d

/-- The four channels take their values from a valid frame: side 1 before side 2, rope a before rope b (DESIGN CHOICE, log
entry 44). -/
def State.updateChannels (s : State) (v : PerSide (PerTwin (Option Half))) : State :=
  (((s.updateChannel .one .a v.one.a).updateChannel .one .b v.one.b).updateChannel .two .a v.two.a).updateChannel
    .two .b v.two.b

/-- Every GOOD channel enters HELD at a frame timer expiry (R43, R44). -/
def State.loseChannels (s : State) : State :=
  let held (p : RopeSide) : RopeSide := { p with chan := ⟨p.chan.a.lose, p.chan.b.lose⟩ }
  s.setRope { s.rope with side := ⟨held s.rope.side.one, held s.rope.side.two⟩ }

/-! ## Tension, stretch, payload (R47 to R51) -/

/-- The suspended length of a side, from the unstretched depth of the latest drum sample (R48). -/
def State.suspended (s : State) (d : Side) : Int := (s.depth.get d).D0 - s.winder.sheave.get d

/-- The rope term of a side (R48). -/
def State.ropeTerm (s : State) (d : Side) : Int :=
  let l := s.suspended d
  (s.sideData d).ropeWeight * (if 0 < l then l else 0) / 1000

/-- The expected empty tension of a side (R48). -/
def State.emptyTension (s : State) (d : Side) : Int := (s.sideData d).weight + s.ropeTerm d

/-- The side tension from the channels, or the nominal tension when both are BAD (R47). -/
def State.tensionOf (s : State) (d : Side) : Int :=
  let p := (s.rope.side.get d).chan
  match p.a.health.usable, p.b.health.usable with
  | true, true => p.a.filtered + p.b.filtered
  | true, false => 2 * p.a.filtered
  | false, true => 2 * p.b.filtered
  | false, false => if s.hasTable then s.emptyTension d + (s.sideData d).payloadLimit / 2 else 0

/-- A product as a signed 64-bit intermediate holds it; one that does not fit is a free value (R49, log entry 27). -/
def wide (x : Int) : Int := if -9223372036854775808 ≤ x ∧ x < 9223372036854775808 then x else Config.wide64 x

/-- The numerator of the stretch (R49). -/
def stretchNumerator (tension length ropeWeight : Int) : Int :=
  wide (wide (tension * length) - wide (ropeWeight * (length * length)) / 2000)

/-- The quotient of R49, rounded half up, for a stiffness in kilonewtons, clamped by R50. -/
def stretchFrom (numerator stiffness : Int) : Int :=
  clamp 0 Config.maxStretch ((numerator + stiffness * 500) / (stiffness * 1000))

/-- The stretch of a side for a tension (R49, R50). -/
def State.stretchOf (s : State) (d : Side) (tension : Int) : Int :=
  if s.hasTable ∧ 0 < s.suspended d then
    stretchFrom (stretchNumerator tension (s.suspended d) (s.sideData d).ropeWeight) (s.sideData d).stiffness
  else 0

/-- The payload estimate of a side for a tension (R51). -/
def State.payloadOf (s : State) (d : Side) (tension : Int) : Int :=
  let w := tension - s.ropeTerm d - (s.sideData d).weight
  if s.hasTable ∧ 0 < w then w else 0

/-- Steps 2 to 4 of a load evaluation for one side (R43). -/
def State.weigh (s : State) (d : Side) : State :=
  let t := s.tensionOf d
  s.setRopeSide d { s.rope.side.get d with
    tension := t, stretch := s.stretchOf d t, payload := s.payloadOf d t }

/-! ## Balance and slack (R52 to R55) -/

/-- The imbalance of two rope tensions in per-mille (R52). -/
def imbalance (a b : Int) : Int := if a + b = 0 then 0 else Int.tdiv (mag (a - b) * 1000) (a + b)

/-- The alarm and clear counts and the BALANCE flag at a judged sample (R53). -/
def State.judgeAlarm (s : State) (d : Side) (i : Int) : State :=
  let p := s.rope.side.get d
  let lim := s.sideData d
  if lim.alarm < i then
    let n := satSucc 8 p.alarms
    if 4 ≤ n ∧ !p.balance then
      (s.setRopeSide d { p with alarms := n, clears := 0, balance := true }).setAdvisory (.balance d)
    else s.setRopeSide d { p with alarms := n, clears := 0 }
  else if lim.clear < i then s.setRopeSide d { p with alarms := 0, clears := 0 }
  else
    let n := satSucc 8 p.clears
    if 8 ≤ n ∧ p.balance then
      (s.setRopeSide d { p with alarms := 0, clears := n, balance := false }).clearAdvisory (.balance d)
    else s.setRopeSide d { p with alarms := 0, clears := n }

/-- The trip count at a judged sample (R54). -/
def State.judgeImbalance (s : State) (d : Side) (i : Int) : State :=
  let p := s.rope.side.get d
  if i ≤ (s.sideData d).trip then s.setRopeSide d { p with trips := 0 }
  else if 4 ≤ p.trips + 1 then (s.setRopeSide d { p with trips := 0 }).raiseCause (.ropeImbalance d)
  else s.setRopeSide d { p with trips := p.trips + 1 }

/-- The balance of a side is judged when both its channels are usable (R52). -/
def State.judgeBalance (s : State) (d : Side) : State :=
  let p := (s.rope.side.get d).chan
  if p.a.health.usable && p.b.health.usable then
    let i := imbalance p.a.filtered p.b.filtered
    (s.judgeAlarm d i).judgeImbalance d i
  else s

/-- The slack judgement of a side (R55). -/
def State.judgeSlack (s : State) (d : Side) : State :=
  let p := s.rope.side.get d
  if p.isBothBad ∨ s.speed d ≤ 50 ∨ (s.sideData d).slack * s.emptyTension d / 1000 ≤ p.tension then
    s.setRopeSide d { p with slacks := 0 }
  else if 3 ≤ p.slacks + 1 then (s.setRopeSide d { p with slacks := 0 }).raiseCause (.slackRope d)
  else s.setRopeSide d { p with slacks := p.slacks + 1 }

/-- Step 5 of a load evaluation at a valid frame, with a table active (R52 to R55, log entry 37). -/
def State.superviseRopes (s : State) : State :=
  if s.hasTable then
    (((s.judgeBalance .one).judgeBalance .two).judgeSlack .one).judgeSlack .two
  else s

/-- Step 6 of a load evaluation (R56, R57). -/
def State.judgeLoads (s : State) : State := ((s.judgeBothBad .one).judgeBothBad .two).judgeLoadLost

/-- The evaluation at a valid frame; before the first drum sample after a reset it is step 1 only (R43). -/
def State.evaluateFrame (s : State) (v : PerSide (PerTwin (Option Half))) : State :=
  let s1 := s.updateChannels v
  if s1.drums.sampled then (((s1.weigh .one).weigh .two).superviseRopes).judgeLoads else s1

/-- The evaluation at a frame timer expiry (R43). -/
def State.evaluateTimer (s : State) : State :=
  let s1 := s.loseChannels
  if s1.drums.sampled then ((s1.weigh .one).weigh .two).judgeLoads else s1

end Sys2Proof.Machine
end

