-- ==== Sys2Proof/Machine/ProofRun.lean ====
section
/-! DEFINITION. The conduct of the proof (08): steps 1 to 6, their passing and failing, and the channel tests of
step 5. -/

namespace Sys2Proof.Machine

/-- Readiness replaced. -/
def State.setReadiness (s : State) (r : Readiness) : State := s.setProof { s.proof with readiness := r }

/-- The number of a step (R152). -/
def ProofStep.number : ProofStep → Nat
  | .encoders => 2
  | .markers => 3
  | .loads => 4
  | .tripPaths _ _ _ _ => 5
  | .echo _ _ _ _ => 6

/-- At the end of step 5 the commands follow the latches again and every channel is compared afresh (R131, R132,
R156). -/
def State.releaseChannels (s : State) : State :=
  let one (x : State) (k : Stage) : State :=
    let x1 := (x.setChannel k .x ⟨!x.latched k, none⟩).compareChannel k .x
    (x1.setChannel k .y ⟨!x1.latched k, none⟩).compareChannel k .y
  one (one (one s .s1) .s2) .s3

/-- The end of a proof, with the channels released when it was in step 5 (R152). -/
def State.leaveProof (s : State) (r : Readiness) : State :=
  if s.inTripTest then (s.setReadiness r).releaseChannels else s.setReadiness r

/-- A step fails: the proof ends (R152). Its callers act in PROVING alone. -/
def State.failProof (s : State) (step code detail : Nat) : State :=
  let s1 := s.leaveProof .proofFailed
  (s1.setProof { s1.proof with lastFailure := some (code, detail) }).report (.proofFail step code detail)

/-- The last step to run has passed (R152). -/
def State.passProof (s : State) : State :=
  (s.setProof { readiness := .proven, lastFailure := none }).report .proofPass

/-- A probe with a pattern is queued, and the echo timer started (R157). -/
def State.sendProbe (s : State) (pattern : Half) : State :=
  (s.setReadiness (.proving (.echo pattern s.clock.stamp false (some Config.echoMs)))).report (.echoProbe pattern)

/-- Step 5 passes: its report, then step 6, or the end of the proof when the echo step is omitted (R152, R156). -/
def State.passTripPaths (s : State) : State :=
  let s1 := (s.leaveProof .unproven).report (.proofStep 5)
  if s1.winder.echoOmitted then s1.passProof else s1.sendProbe 1

/-- The half that follows a half: the de-energise half of the channel, then the next channel (R156). -/
def nextHalf (k : Stage) (c : Chan) (energise : Bool) : Option (Stage × Chan × Bool) :=
  match energise, c, k with
  | true, _, _ => some (k, c, false)
  | false, .x, _ => some (k, .y, true)
  | false, .y, .s1 => some (.s2, .x, true)
  | false, .y, .s2 => some (.s3, .x, true)
  | false, .y, .s3 => none

/-- The command of one half: the channel under test as the half says, every other channel de-energised (R156). -/
def State.commandHalf (s : State) (k : Stage) (c : Chan) (energise : Bool) : State :=
  let off : OutChannel := ⟨false, none⟩
  let all : PerStage (PerChan OutChannel) := ⟨⟨off, off⟩, ⟨off, off⟩, ⟨off, off⟩⟩
  s.setTrip { s.trip with chan := all.set k ((all.get k).set c ⟨energise, none⟩) }

/-- A half begins: a readback that already shows the expected state passes it at once, and the next half begins; else
its test timer is started (R156). At most `n` halves are begun. -/
def State.beginHalf (s : State) : Nat → Stage → Chan → Bool → State
  | 0, _, _, _ => s
  | n + 1, k, c, energise =>
    let s1 := (s.setReadiness (.proving (.tripPaths k c energise (some Config.testMs)))).commandHalf k c energise
    if s1.readback k c = energise then
      match nextHalf k c energise with
      | some (k1, c1, e1) => s1.beginHalf n k1 c1 e1
      | none => s1.passTripPaths
    else s1

/-- The half under test passes (R156). -/
def State.passHalf (s : State) (k : Stage) (c : Chan) (energise : Bool) : State :=
  match nextHalf k c energise with
  | some (k1, c1, e1) => s.beginHalf 12 k1 c1 e1
  | none => s.passTripPaths

/-- Step 4 passes and step 5 begins: the mismatch timers stop and every channel is commanded de-energised (R132, R145,
R156). -/
def State.passLoads (s : State) : State := (s.report (.proofStep 4)).beginHalf 12 .s1 .x true

/-! ## Step 1 (R154) -/

/-- Step 1: the table check recomputed over the active records equals the active table's. -/
def State.tableSound (s : State) : Bool :=
  match s.table.active with
  | some t => tableCheck t.records = t.check
  | none => false

/-- The judgement of step 1 at the acceptance. -/
def State.judgeTable (s : State) : State :=
  if s.tableSound then (s.setReadiness (.proving .encoders)).report (.proofStep 1) else s.failProof 1 0x81 0

/-! ## Steps 2 and 3 (R153, R154) -/

/-- Whether a drum passes step 2; a drum in DIVERGED fails it, however close its counts have come again (R25, R153,
R154). -/
def State.drumProves (s : State) (d : Side) : Bool :=
  let x := s.drums.drum.get d
  !x.enc.a.failed && !x.enc.b.failed && decide (x.state ≠ .diverged) && decide (mag x.delta ≤ s.sup.agree)

/-- The judgement of step 2 at a drum sample. -/
def State.judgeEncoders (s : State) : State :=
  if !s.drumProves .one then s.failProof 2 0x82 1
  else if !s.drumProves .two then s.failProof 2 0x83 2
  else (s.setReadiness (.proving .markers)).report (.proofStep 2)

/-- Whether a marker lies within the capture band of its own side's depth (R154). -/
def State.markerNear (s : State) (m : Marker) : Bool :=
  let depth := (s.depth.get m.side).D
  decide (mag (m.desc - depth) ≤ s.sup.capture) || decide (mag (m.asc - depth) ≤ s.sup.capture)

/-- Whether a marker line passes step 3: inactive, or with a marker near. -/
def State.lineProves (s : State) (line : Fin 16) : Bool :=
  !s.pins.lines[line] || s.markers.any fun m => decide (m.line = line.val) && s.markerNear m

/-- The lowest line that fails step 3. -/
def State.failingLine (s : State) : Option (Fin 16) :=
  ([0, 1, 2, 3, 4, 5, 6, 7, 8, 9, 10, 11, 12, 13, 14, 15] : List (Fin 16)).find? fun n => !s.lineProves n

/-- The judgement of step 3 at a drum sample. -/
def State.judgeMarkers (s : State) : State :=
  match s.failingLine with
  | some n => s.failProof 3 0x84 n.val
  | none => (s.setReadiness (.proving .loads)).report (.proofStep 3)

/-- The proof at a drum sample: motion first, then step 2 or step 3 (R153). -/
def State.sampleProof (s : State) : State :=
  match s.proof.readiness with
  | .proving step =>
    if !s.stationary .one then s.failProof step.number 0x8A 1
    else if !s.stationary .two then s.failProof step.number 0x8A 2
    else match step with
      | .encoders => s.judgeEncoders
      | .markers => s.judgeMarkers
      | .loads => s
      | .tripPaths _ _ _ _ => s
      | .echo _ _ _ _ => s
  | _ => s

/-! ## Step 4 (R155) -/

/-- The first channel that is not GOOD, by its number (R155, R177). -/
def State.failingChannel (s : State) : Option Nat :=
  let bad (d : Side) (r : Twin) : Bool := decide ((s.loadChan d r).health ≠ .good)
  if bad .one .a then some 1
  else if bad .one .b then some 2
  else if bad .two .a then some 3
  else if bad .two .b then some 4
  else none

/-- Whether a side's tension lies in its band (R155). -/
def State.tensionProves (s : State) (d : Side) : Bool :=
  let e := s.emptyTension d
  let t := (s.rope.side.get d).tension
  decide (500 * e / 1000 ≤ t ∧ t ≤ 1500 * e / 1000)

/-- The judgement of step 4 at a load evaluation; at any other time nothing (R155). A side's detail is 0x11 or 0x12
(R176). -/
def State.sampleLoads (s : State) : State :=
  match s.proof.readiness with
  | .proving .loads =>
    match s.failingChannel with
    | some n => s.failProof 4 0x85 n
    | none =>
      if !s.tensionProves .one then s.failProof 4 0x85 0x11
      else if !s.tensionProves .two then s.failProof 4 0x85 0x12
      else s.passLoads
  | _ => s

end Sys2Proof.Machine
end

