-- ==== Sys2Proof/Machine/WindWatch.lean ====
section
/-! DEFINITION. The wind controller at a drum sample (06): start of motion, wrong direction, creep, dwell, peaks,
unintended motion, drum 2 creep and recovery motion, in the order of R109. -/

namespace Sys2Proof.Machine

/-- A side's millimetre payout at the latest drum sample (R30). -/
def State.payout (s : State) (d : Side) : Int := (s.drums.drum.get d).payoutMm

/-- The furthest point after a sample's payout (R112). -/
def OpenWind.advance (w : OpenWind) (p : Int) : OpenWind :=
  if 0 < (p - w.furthest) * w.dir.sign then { w with furthest := p } else w

/-- An ACCEPTED wind enters RUNNING: its start timer stops, the overspeed counters return to 0 and the load-lost
judgement is formed (R57, R102, R112). -/
def State.enterRunning (s : State) (w : OpenWind) : State :=
  let s1 := s.setCurrent { w with phase := .running, start := none }
  let s2 := s1.report (.wind w.number (some .running) none w.destination)
  (s2.setEnv { s2.env with overCount := ⟨0, 0, 0⟩ }).judgeLoadLost

/-- Start of motion, in ACCEPTED and RUNNING (R112). -/
def State.watchStart (s : State) : State :=
  match s.wind.current with
  | none => s
  | some w =>
    let p := s.payout w.lead
    match w.phase with
    | .accepted =>
      let w1 := w.advance p
      if 100 ≤ (p - w.startPayout) * w.dir.sign then s.enterRunning w1 else s.setCurrent w1
    | .running => s.setCurrent (w.advance p)
    | .creep => s
    | .stopping => s

/-- Wrong direction, in ACCEPTED and RUNNING (R113). -/
def State.watchDirection (s : State) : State :=
  match s.wind.current with
  | none => s
  | some w =>
    if (w.phase = .accepted ∨ w.phase = .running) ∧ 300 ≤ (w.furthest - s.payout w.lead) * w.dir.sign then
      s.raiseCause (.wrongDirection w.lead)
    else s

/-- The change from RUNNING to CREEP (R115). -/
def State.watchCreep (s : State) : State :=
  match s.wind.current with
  | none => s
  | some w =>
    if w.phase = .running ∧ s.targetDistance w ≤ (s.mode w.mode).dCreep then
      (s.setCurrent { w with phase := .creep }).report (.wind w.number (some .creep) none w.destination)
    else s

/-- The dwell timer, in RUNNING, CREEP and STOPPING (R116). -/
def State.watchDwell (s : State) : State :=
  match s.wind.current with
  | none => s
  | some w =>
    if w.phase = .accepted then s
    else if s.playStationary then
      (if w.dwell.isNone then s.setCurrent { w with dwell := some Config.dwellMs } else s)
    else s.setCurrent { w with dwell := none }

/-- The usage of a sample in per-mille (R127). -/
def usage (v vp : Int) : Nat := (mag v * 1000 / max vp 1).toNat

/-- The peaks of the open wind record (R127, R179). -/
def State.watchPeaks (s : State) : State :=
  match s.wind.current with
  | none => s
  | some w =>
    let v := s.speed w.lead
    let use := if w.phase = .running ∨ w.phase = .creep then min Config.max16 (usage v s.env.vp) else 0
    s.setCurrent { w with peakSpeed := max w.peakSpeed (mag v), peakUsage := max w.peakUsage use }

/-- Unintended motion of a drum in IDLE (R123). A drum whose rest payout is marked to be taken is not judged before it
is taken (R114, log entry 20). -/
def State.watchRest (s : State) (d : Side) : State :=
  let x := s.drums.drum.get d
  if !s.windOpen ∧ !x.restDue ∧ !s.wind.unintended.get d ∧ s.winder.creepAllowance < mag (x.payoutMm - x.rest) then
    (s.setWind { s.wind with unintended := s.wind.unintended.set d true }).raiseCause (.unintendedMotion d)
  else s

/-- Drum 2 creep while declutched, in every wind state (R124). -/
def State.watchCreep2 (s : State) : State :=
  match s.drums.hold with
  | none => s
  | some h =>
    if !s.inputs.clutch ∧ !s.wind.creepFlag ∧ s.winder.creepAllowance < mag (s.payout .two - h) then
      (s.setWind { s.wind with creepFlag := true }).raiseCause .drum2Creep
    else s

/-- A recovery point after a sample's payout: it follows inward motion (R126). -/
def Offence.follow (o : Offence) (p : Int) : Offence :=
  match o.outward with
  | .descending => if p < o.point then { o with point := p } else o
  | .ascending => if o.point < p then { o with point := p } else o

/-- Whether a payout lies outward of the recovery point by more than 100 mm (R126). -/
def Offence.exceeded (o : Offence) (p : Int) : Bool := decide (100 < (p - o.point) * o.outward.sign)

/-- Recovery motion of one side (R126). -/
def State.watchRecovery (s : State) (d : Side) : State :=
  match s.wind.recovery with
  | none => s
  | some r =>
    match r.get d with
    | none => s
    | some o =>
      let o1 := o.follow (s.payout d)
      let s1 := s.setWind { s.wind with recovery := some (r.set d (some o1)) }
      if o1.exceeded (s.payout d) then s1.raiseCause (.recoveryMotion d) else s1

/-- The wind controller's work at a drum sample, in the order R109 lists its mechanisms (log entry 19); within one mechanism
drum 1 or side 1 goes first (DESIGN CHOICE, log entry 44). -/
def State.sampleWind (s : State) : State :=
  let s1 := s.watchStart.watchDirection.watchCreep.watchDwell.watchPeaks
  let s2 := (s1.watchRest .one).watchRest .two
  ((s2.watchCreep2).watchRecovery .one).watchRecovery .two

end Sys2Proof.Machine
end

