-- ==== Sys2Proof/Machine/DrumEvents.lean ====
section
/-! DEFINITION. The events of the drum measurement unit: a quadrature step (R21), the two failures of an encoder (R22),
and the drum sample with the blocks it runs through (R34, R86, R109). -/

namespace Sys2Proof.Machine

/-- A step of an encoder of a drum (R21). -/
def State.countStep (s : State) (d : Side) (e : Twin) (forward : Bool) : State :=
  let x := s.drums.drum.get d
  s.setDrum d { x with enc := x.enc.set e (stepEncoder (x.enc.get e) (s.senseOf d e) forward) }

/-- ENCODER_STEP (R21). -/
def execEncoderStep (drum : Side) (enc : Twin) (forward : Bool) (s : State) : Host.Outcome State Fault Refusal :=
  .next (s.countStep drum enc forward)

/-- QUADRATURE_ERROR: the encoder becomes FAILED at once (R22, R26). -/
def execQuadratureError (drum : Side) (enc : Twin) (s : State) : Host.Outcome State Fault Refusal :=
  .next (s.failEncoder drum enc).transmit

/-- The level of a line monitor. -/
def State.setMonitor (s : State) (d : Side) (e : Twin) (level : Bool) : State :=
  s.setPins { s.pins with monitors := s.pins.monitors.set d ((s.pins.monitors.get d).set e level) }

/-- LINE_MONITOR_INACTIVE: the encoder becomes FAILED at once (R22, R26). -/
def execLineMonitorInactive (drum : Side) (enc : Twin) (s : State) : Host.Outcome State Fault Refusal :=
  .next ((s.setMonitor drum enc false).failEncoder drum enc).transmit

/-- DRUM_SAMPLE: the drum unit, the depth tracker, the envelope computer, the wind controller and the proof unit do
their work on one sample, each after the block whose results it uses (R34, R86, R109, R153). -/
def execDrumSample (s : State) : Host.Outcome State Fault Refusal :=
  .next (s.sampleDrums.sampleDepth.sampleEnvelope.sampleWind.sampleProof).transmit

end Sys2Proof.Machine
end

