-- ==== Sys2Proof/Machine/MarkerEvents.lean ====
section
/-! DEFINITION. A marker edge (04): the capture of both drums (R35), the judgement of the edge for each side (R64, R65),
arbitration (R78, R79) and the settlement (R66). -/

namespace Sys2Proof.Machine

/-! ## The capture (R35) -/

/-- Whether a drum is stationary in a capture taken now: its judgement of the last drum sample, or its drum is LOST (R35,
R74, log entry 22). -/
def State.stationaryAtEdge (s : State) (d : Side) : Bool :=
  s.stationary d || decide ((s.drums.drum.get d).state = .lost)

/-- The millimetre payout of a drum in a capture taken now: of the angle its counts give (R30, R35). -/
def State.capturedPayout (s : State) (d : Side) : Int := toMm (s.payoutOf d (s.drums.drum.get d).formTheta)

/-- The millimetre payout that one encoder's count alone gives (R78). -/
def State.encoderPayout (s : State) (d : Side) (e : Twin) : Int :=
  toMm (s.payoutOf d ((s.drums.drum.get d).enc.get e).count.toInt)

/-- The edge-time depth for a payout (R65). -/
def State.edgeDepth (s : State) (d : Side) (payout : Int) : Int :=
  (s.sideData d).hangOff + payout + (s.depth.get d).K + (s.rope.side.get d).stretch

/-! ## Candidates (R65) -/

/-- The nearer of two markers to a depth in a direction; of two equally near, the one with the lower id. -/
def nearerTo (dir : Dir) (depth : Int) (m x : Marker) : Marker :=
  let a := mag (m.depth dir - depth)
  let b := mag (x.depth dir - depth)
  if a < b then m else if b < a then x else if x.id < m.id then x else m

/-- The candidate for a depth among some markers (R65). -/
def candidate (dir : Dir) (depth : Int) : List Marker → Option Marker
  | [] => none
  | m :: rest => some (rest.foldl (nearerTo dir depth) m)

/-- The markers of a side on a line. -/
def State.markersOn (s : State) (d : Side) (line : Fin 16) : List Marker :=
  (s.markersOf d).filter fun m => m.line = line.val

/-! ## How an edge stands for a side (R64, R65, R78) -/

/-- A side's part in an edge. -/
inductive EdgePart where
  /-- ignored for the side -/
  | out
  /-- taking part, with no marker on the line -/
  | unmarked
  /-- taking part in a direction, with candidate, residual and claim; `kept` is the encoder an arbitration keeps -/
  | judged (dir : Dir) (m : Marker) (r : Int) (claims : Bool) (kept : Option Twin)
deriving DecidableEq, Repr

def EdgePart.isJudged : EdgePart → Bool
  | .judged _ _ _ _ _ => true
  | _ => false

def EdgePart.claims : EdgePart → Bool
  | .judged _ _ _ claims _ => claims
  | _ => false

/-- The acceptance band of a side: the search band in SEARCHING, the capture band otherwise (R65). -/
def State.edgeBand (s : State) (d : Side) : Int :=
  if (s.depth.get d).lock = .searching then s.sup.search else s.sup.capture

/-- The residual of a marker against a depth. -/
def Marker.residual (m : Marker) (dir : Dir) (depth : Int) : Int := m.depth dir - depth

/-- Whether a side arbitrates: its drum is DIVERGED and it is ALIGNING, LOCKED or SUSPECT (R78). -/
def State.arbitrates (s : State) (d : Side) : Bool :=
  let lock := (s.depth.get d).lock
  decide ((s.drums.drum.get d).state = .diverged ∧ (lock = .aligning ∨ lock = .locked ∨ lock = .suspect))

/-- The part of a side that takes part in an edge in a direction. An arbitrating side (R78) has as its candidate that of
the encoder with the smaller |r|, also when nobody claims the edge and it is named in the LOCK report of the rejection
(R81; DESIGN CHOICE, log entry 30). -/
def State.partOf (s : State) (d : Side) (line : Fin 16) (dir : Dir) : EdgePart :=
  let markers := s.markersOn d line
  let band := s.edgeBand d
  if s.arbitrates d then
    let depthA := s.edgeDepth d (s.encoderPayout d .a)
    let depthB := s.edgeDepth d (s.encoderPayout d .b)
    match candidate dir depthA markers, candidate dir depthB markers with
    | some mA, some mB =>
      let rA := mA.residual dir depthA
      let rB := mB.residual dir depthB
      if mag rA ≤ mag rB then .judged dir mA rA (decide (mag rA ≤ band)) (some .a)
      else .judged dir mB rB (decide (mag rB ≤ band)) (some .b)
    | _, _ => .unmarked
  else
    let depth := s.edgeDepth d (s.capturedPayout d)
    match candidate dir depth markers with
    | some m => .judged dir m (m.residual dir depth) (decide (mag (m.residual dir depth) ≤ band)) none
    | none => .unmarked

/-- The expected marker of a side at rest counts as satisfied when it lies on the line (R64, R75). -/
def State.satisfy (s : State) (d : Side) (line : Fin 16) : State :=
  let t := s.depth.get d
  match t.lastDir, s.expected d with
  | some dir, some e =>
    if e.line = line.val then s.setTrack d { t with next := s.expectBeyond d dir (e.depth dir) } else s
  | _, _ => s

/-- What the edge does to a side before its part is formed (R64): at rest the expected marker may be satisfied; an
UNREFERENCED side that moves enters SEARCHING. -/
def State.meetEdge (s : State) (d : Side) (line : Fin 16) : State :=
  if s.stationaryAtEdge d then s.satisfy d line
  else if (s.depth.get d).lock = .unreferenced then s.enterSearching d
  else s

/-- A side's part in an edge, once it has met it (R64). -/
def State.edgePart (s : State) (d : Side) (line : Fin 16) : EdgePart :=
  if s.stationaryAtEdge d then .out
  else if (s.depth.get d).lock = .lost then .out
  else s.partOf d line (dirOfSpeed (s.speed d))

/-! ## The settlement (R66, R79) -/

/-- The verdict of a claimed edge: the encoder not kept fails (R27, R79). -/
def State.failOther (s : State) (d : Side) : Option Twin → State
  | none => s
  | some .a => s.failEncoder d .b
  | some .b => s.failEncoder d .a

/-- The verdict of an edge nobody claims: both encoders fail (R27, R79). -/
def State.failBoth (s : State) (d : Side) : Option Twin → State
  | none => s
  | some _ => s.failEncoders d true true

/-- The settlement for one side: `claimed` when some side claims the edge, `marked` when some side taking part has a
marker on the line. The verdict of an arbitration goes before the side's own handling (log entry 14). -/
def State.settleSide (s : State) (d : Side) (claimed marked : Bool) : EdgePart → State
  | .out => s
  | .unmarked => if marked then s else s.strayEdge d
  | .judged dir m r claims kept =>
    if claims then (s.failOther d kept).acceptEdge d dir m r
    else if claimed then s
    else (s.failBoth d kept).rejectEdge d m

/-- The judgement of a marker edge for both sides, with a table active (R64 to R66). -/
def State.judgeEdge (s : State) (line : Fin 16) : State :=
  let s1 := (s.meetEdge .one line).meetEdge .two line
  let p1 := s1.edgePart .one line
  let p2 := s1.edgePart .two line
  let claimed := p1.claims || p2.claims
  let marked := p1.isJudged || p2.isJudged
  (s1.settleSide .one claimed marked p1).settleSide .two claimed marked p2

/-- The level of a marker line. -/
def State.setLine (s : State) (line : Fin 16) (level : Bool) : State :=
  s.setPins { s.pins with lines := s.pins.lines.set line level }

/-- MARKER_EDGE (R35, R64): the line is active; with no table active the edge has no effect on either side. The command is
the edge itself and is judged as one whatever level the line had (DESIGN CHOICE, log entry 8). -/
def execMarkerEdge (line : Fin 16) (s : State) : Host.Outcome State Fault Refusal :=
  let s1 := s.setLine line true
  .next (if s1.hasTable then (s1.judgeEdge line).transmit else s1)

end Sys2Proof.Machine
end

