-- ==== Sys2Proof/Machine/Layouts.lean ====
section
/-! DEFINITION. The byte layouts of replies and reports (R166, R169, R170, R171, R176, section 9.9). -/

namespace Sys2Proof.Machine

/-- Three flags as bits 0 to 2. -/
def stageBits (p : PerStage Bool) : Nat := p.s1.toNat + 2 * p.s2.toNat + 4 * p.s3.toNat

/-- An optional station id, with 0 for absent. -/
def stationByte (n : Option Nat) : Byte := byteOf (n.getD 0)

/-! ## POLL (R169) -/

/-- One side's part of the POLL reply: D, S, K, v, lock state, T_s. -/
def State.pollSide (s : State) (d : Side) : List Byte :=
  let t := s.depth.get d
  let p := s.rope.side.get d
  signed32 t.D ++ unsigned16 p.stretch ++ signed16 t.K ++ speed16 (s.speed d) ++ [byteOf t.lock.code] ++
    unsigned32 p.tension

/-- The flags byte of the POLL reply. -/
def State.pollFlags (s : State) (wasSilent : Bool) : Byte :=
  byteOf (stageBits s.latches + 8 * s.wind.recovery.isSome.toNat + 16 * s.inputs.clutch.toNat + 32 * wasSilent.toNat +
    64 * s.link.lost.toNat + 128 * s.hasTable.toNat)

/-- The POLL reply body, 47 bytes; `wasSilent` is the link status before this POLL's own arrival. -/
def State.pollBody (s : State) (wasSilent : Bool) : List Byte :=
  let fail := s.proof.lastFailure.getD (0, 0)
  [byteOf s.proof.readiness.ready.code, byteOf (phaseCode s.phase)] ++ be16 s.wind.number ++
    [stationByte (s.wind.current.map OpenWind.destination), s.pollFlags wasSilent, byteOf fail.1] ++
    be16 (BitVec.ofNat 16 fail.2) ++
    [byteOf s.drums.drum.one.state.code, byteOf s.drums.drum.two.state.code] ++
    s.pollSide .one ++ s.pollSide .two ++ unsigned16 s.env.vp ++ be32 s.clock.stamp

/-! ## READ-TABLE and READ-HISTORY (R170) -/

/-- The READ-TABLE reply body for record `i` of the active table. -/
def tableBody (t : ActiveTable) (i : Nat) (r : RawRecord) : List Byte :=
  [byteOf t.records.length] ++ be16 t.check ++ [r.kind, byteOf (t.clamps.getD i 0)] ++ r.body

/-- One side's counts in a wind record. -/
def sideCountBytes (n : SideCounts) : List Byte :=
  unsigned16 n.accepted ++ unsigned16 n.rejected ++ unsigned16 n.missed ++ signed32 n.correction ++
    unsigned16 n.disagreements

/-- A wind record, 40 bytes. -/
def WindRecord.bytes (w : WindRecord) : List Byte :=
  be16 w.number ++ [byteOf w.mode.code, byteOf (sideCode w.lead), byteOf w.destination, stationByte w.origin,
    byteOf w.outcome.code] ++ unsigned32 w.duration ++ unsigned16 w.peakSpeed ++ unsigned16 w.peakUsage ++
    sideCountBytes w.counts.one ++ sideCountBytes w.counts.two ++ [stationByte (w.firstTrip.map Cause.code)]

/-! ## READ-FAULTS (R170) -/

/-- Six channel bits, 1X to 3Y from bit 0. -/
def channelBits (p : PerStage (PerChan Bool)) : Nat :=
  p.s1.x.toNat + 2 * p.s1.y.toNat + 4 * p.s2.x.toNat + 8 * p.s2.y.toNat + 16 * p.s3.x.toNat + 32 * p.s3.y.toNat

/-- The commanded state of each channel. -/
def State.commands (s : State) : PerStage (PerChan Bool) :=
  let p := s.trip.chan
  ⟨⟨p.s1.x.commanded, p.s1.y.commanded⟩, ⟨p.s2.x.commanded, p.s2.y.commanded⟩, ⟨p.s3.x.commanded, p.s3.y.commanded⟩⟩

/-- A first cause: code and instance, with code 0 when absent; `offset` is the offset of its instance in the body, for
the free value of an absent one (log entry 42). -/
def firstCauseBytes (offset : Nat) (l : Latch) : List Byte :=
  match l.first with
  | none => [0, Config.absentByte offset]
  | some c => [byteOf c.code, byteOf c.inst]

/-- The value of a list of bits, the first the most significant. -/
def bitsValue (bits : List Bool) : Nat := bits.foldl (fun n b => 2 * n + b.toNat) 0

/-- Bits packed into bytes, most significant bit first and padded with zero bits; at most `n` bytes. -/
def packBits : Nat → List Bool → List Byte
  | 0, _ => []
  | n + 1, bits =>
    if bits.isEmpty then []
    else byteOf (bitsValue ((bits ++ List.replicate 8 false).take 8)) :: packBits n (bits.drop 8)

/-- The cause set: one bit per code in ascending order of code, the first in bit 0 of the first byte (log entry 42). -/
def causeSetBytes (codes : List Nat) : List Byte :=
  let has (i : Nat) : Nat := (decide (causeCodes.getD i 0 ∈ codes)).toNat
  let byte (i n : Nat) : Byte :=
    byteOf (((List.range n).map fun j => has (i + j) * 2 ^ j).sum)
  [byte 0 8, byte 8 8, byte 16 7]

/-- The entry number of an active entry (R170); only conditions and advisories have one. -/
def entryNumber : Cause → Nat
  | .limit .one .top => 0
  | .limit .one .bottom => 1
  | .limit .two .top => 2
  | .limit .two .bottom => 3
  | .drumLost d => 3 + sideCode d
  | .tripPath k c => 3 + 2 * stageCode k + chanCode c
  | .encoderDisagreement d => 11 + sideCode d
  | .balance d => 13 + sideCode d
  | .loadChannel d r => 15 + channelCode d r
  | .correctionLimit d => 19 + sideCode d
  | .referenceSearch d => 21 + sideCode d
  | _ => 31

/-- A number as five bits, the most significant first. -/
def fiveBits (n : Nat) : List Bool := [n.testBit 4, n.testBit 3, n.testBit 2, n.testBit 1, n.testBit 0]

/-- The active set: a count byte, then five bits per entry in the order they joined. -/
def activeBytes (active : List Cause) : List Byte :=
  byteOf active.length :: packBits active.length (active.flatMap fun c => fiveBits (entryNumber c))

/-- One side of the ranked capture. -/
def captureSideBytes (x : CaptureSide) : List Byte := signed32 x.D ++ speed16 x.v ++ [byteOf x.lock.code]

/-- The ranked capture, 26 bytes from offset 16 of the body: code 0 when the slot is empty; what stands for something
absent is a free value (log entry 42). -/
def captureBytes : Option Capture → List Byte
  | none => 0 :: (List.range 25).map fun i => Config.absentByte (17 + i)
  | some c =>
    [byteOf c.cause.code, byteOf c.cause.inst, byteOf c.rank, flagByte c.wind.isSome] ++ be32 c.stamp ++
      (match c.wind with
        | some n => be16 n
        | none => [Config.absentByte 24, Config.absentByte 25]) ++ captureSideBytes c.side.one ++ captureSideBytes c.side.two ++ unsigned16 c.vp

/-- The READ-FAULTS reply body. -/
def State.faultsBody (s : State) : List Byte :=
  [byteOf (stageBits s.latches), byteOf (channelBits s.commands), byteOf (channelBits s.pins.readbacks)] ++
    firstCauseBytes 4 s.trip.latch.s1 ++ firstCauseBytes 6 s.trip.latch.s2 ++ firstCauseBytes 8 s.trip.latch.s3 ++
    causeSetBytes s.trip.causes ++ be32 s.clock.stamp ++ captureBytes s.trip.capture ++ activeBytes s.trip.active

/-! ## Reports (R176) -/

/-- The code of a report. -/
def ReportBody.code : ReportBody → Byte
  | .wind _ _ _ _ => 0x41
  | .tripLatch _ _ _ => 0x42
  | .tripReset _ _ => 0x42
  | .alarm _ _ => 0x43
  | .lock _ _ _ _ _ _ _ _ => 0x44
  | .proofStep _ => 0x45
  | .proofPass => 0x46
  | .proofFail _ _ _ => 0x46
  | .echoProbe _ => 0x47
  | .table _ _ _ _ => 0x48
  | .restarted _ _ _ => 0x49
  | .drum _ _ _ _ _ _ => 0x4A

/-- The outcome byte of a WIND report: 0 except at closure. -/
def outcomeByte : Option WindOutcome → Byte
  | none => 0
  | some o => byteOf o.code

/-- The fields of a report, but for its time stamp. The detail of a PROOF-DONE on a pass is a free value (DESIGN CHOICE, log
entry 48). -/
def ReportBody.bytes : ReportBody → List Byte
  | .wind n phase outcome dest => be16 n ++ [byteOf (phaseCode phase), outcomeByte outcome, byteOf dest]
  | .tripLatch k c after => [1, byteOf (stageCode k), byteOf c.code, byteOf c.inst, byteOf (stageBits after)]
  | .tripReset k after => [2, byteOf (stageCode k), 0, 0, byteOf (stageBits after)]
  | .alarm c set => [byteOf c.code, byteOf c.inst, flagByte set]
  | .lock d old new K u rejects searches marker =>
    [byteOf (sideCode d), byteOf old.code, byteOf new.code] ++ signed16 K ++ unsigned32 u ++
      [byteOf rejects, byteOf searches, byteOf (marker.getD 0xFF)]
  | .proofStep n => [byteOf n]
  | .proofPass => [0, 0, 0] ++ be16 Config.passDetail
  | .proofFail step code detail => [1, byteOf step, byteOf code] ++ be16 (BitVec.ofNat 16 detail)
  | .echoProbe p => be16 p
  | .table k records declared check => [byteOf k.code, byteOf records, byteOf declared] ++ be16 check
  | .restarted k ready active => [byteOf k.code, byteOf ready.code, flagByte active]
  | .drum d old new a b theta =>
    [byteOf (sideCode d), byteOf old.code, byteOf new.code, byteOf (a.toNat + 2 * b.toNat)] ++ signed32 theta

/-- The payload of a report: its code, tag 0, its fields and its time stamp. -/
def Report.payload (r : Report) : List Byte := r.body.code :: 0 :: (r.body.bytes ++ be32 r.stamp)

/-- The payload of a reply: the code with its most significant bit set, the tag, the result and the body (R166). -/
def Reply.payload (r : Reply) : List Byte := (r.code ||| 0x80#8) :: r.tag :: byteOf r.result.code :: r.body

/-- The bytes of a frame the part sends (R162). -/
def Frame.bytes : Frame → List Byte
  | .reply r => frameBytes r.payload
  | .report r => frameBytes r.payload

end Sys2Proof.Machine
end

