-- ==== Sys2Proof/Machine/Validate.lean ====
section
/-! DEFINITION. The checks of TABLE-CLOSE, in the order of R13, each with the record index its INVALID reply carries. -/

namespace Sys2Proof.Machine

/-- The first index, from `i` on, at which `p` finds a record at fault. -/
def firstIndex (p : Nat → RawRecord → Bool) : Nat → List RawRecord → Option Nat
  | _, [] => none
  | i, r :: rest => if p i r then some i else firstIndex p (i + 1) rest

/-- Whether some record other than the one at index `i` meets `p`. -/
def otherMeets (p : RawRecord → Bool) (i : Nat) (records : List RawRecord) : Bool :=
  (firstIndex (fun j r => j ≠ i && p r) 0 records).isSome

/-- The number of records that meet `p`. -/
def countOf (p : RawRecord → Bool) (records : List RawRecord) : Nat := (records.filter p).length

/-- Check 3 for one record: an enumerated field outside its set, a spare bit set, a label length above 8 (R13, R171).
The label length of a station without its label is ignored with the rest of the field's bytes (log entry 24). -/
def fieldAtFault (r : RawRecord) : Bool :=
  let b := r.body
  let sideBad (i : Nat) : Bool := (sideOfCode (byteAt b i)).isNone
  let senseBad (i : Nat) : Bool := decide (byteAt b i ≠ 1 ∧ byteAt b i ≠ 255)
  match recordKindOf r.kind with
  | some .winder =>
    senseBad 8 || senseBad 9 || senseBad 10 || senseBad 11 || decide (16 ≤ byteAt b 20) || decide (2 ≤ byteAt b 29)
  | some .supervision => false
  | some .side => sideBad 0 || (conveyanceOfCode (byteAt b 1)).isNone || decide (16 ≤ byteAt b 28)
  | some .wrap => sideBad 0 || decide (byteAt b 1 < 1 ∨ 16 < byteAt b 1)
  | some .station =>
    decide (byteAt b 0 < 1 ∨ 250 < byteAt b 0) || decide (8 ≤ byteAt b 1) || (bitAt b 1 0 && decide (8 < byteAt b 2))
  | some .marker => decide (47 < byteAt b 0) || decide (15 < byteAt b 1) || sideBad 2
  | some .zone => sideBad 0
  | some .mode => (modeOfCode (byteAt b 0)).isNone
  | none => true

/-- Check 4 for one record: its kind over capacity, or the wraps of its drum over 16 (R1). -/
def overCapacity (records : List RawRecord) (r : RawRecord) : Bool :=
  match recordKindOf r.kind with
  | some k =>
    decide (capacity k < countOf (RawRecordIs k) records) ||
      (decide (k = .wrap) &&
        decide (16 < countOf (fun x => RawRecordIs .wrap x && decide (byteAt x.body 0 = byteAt r.body 0)) records))
  | none => false

/-- Check 5: a required record is missing (R1, R13). -/
def recordMissing (records : List RawRecord) : Bool :=
  (bodiesOf .winder records).isEmpty || (bodyWith .side 1 records).isNone || (bodyWith .side 2 records).isNone ||
    (bodyWith .wrap 1 records).isNone || (bodyWith .wrap 2 records).isNone || (bodiesOf .station records).isEmpty

/-- Whether two records are of one kind with one identity (R1); a ZONE has none. -/
def sameIdentity (r x : RawRecord) : Bool :=
  decide (recordKindOf r.kind = recordKindOf x.kind) &&
    match recordKindOf r.kind with
    | some .winder => true
    | some .supervision => true
    | some .side => decide (byteAt r.body 0 = byteAt x.body 0)
    | some .wrap => decide (byteAt r.body 0 = byteAt x.body 0 ∧ byteAt r.body 1 = byteAt x.body 1)
    | some .station => decide (byteAt r.body 0 = byteAt x.body 0)
    | some .marker => decide (byteAt r.body 0 = byteAt x.body 0)
    | some .zone => false
    | some .mode => decide (byteAt r.body 0 = byteAt x.body 0)
    | none => false

/-- Check 7: a station with neither stop depth. -/
def stationEmpty (r : RawRecord) : Bool :=
  RawRecordIs .station r && (stopNum r.body .one).isNone && (stopNum r.body .two).isNone

/-- Check 8 for one wrap: its drum's segment indices do not run from 1 without a gap. With no duplicates, they do
exactly when none exceeds their number. -/
def segmentsBroken (records : List RawRecord) (r : RawRecord) : Bool :=
  RawRecordIs .wrap r &&
    (let mine := (bodiesOf .wrap records).filter fun b => byteAt b 0 = byteAt r.body 0
     mine.any fun b => decide (mine.length < byteAt b 1))

/-- Check 9: the top limit not above the bottom limit (R4). -/
def limitsCrossed (r : RawRecord) : Bool :=
  RawRecordIs .side r && decide ((effSide r.body).bottom ≤ (effSide r.body).top)

/-- Check 10: the agree band not less than the divergence limit (R3). -/
def bandsCrossed (r : RawRecord) : Bool :=
  RawRecordIs .supervision r && decide ((effSup r.body).diverge ≤ (effSup r.body).agree)

/-- Check 11: margins or floors out of order (R3). -/
def marginsCrossed (r : RawRecord) : Bool :=
  let p := effSup r.body
  RawRecordIs .supervision r &&
    decide (p.margin.s2 < p.margin.s1 ∨ p.margin.s3 < p.margin.s2 ∨ p.floor.s2 < p.floor.s1 ∨ p.floor.s3 < p.floor.s2)

/-- Check 12: balance limits not in the order clear ≤ alarm ≤ trip (R4). -/
def balanceCrossed (r : RawRecord) : Bool :=
  let p := effSide r.body
  RawRecordIs .side r && decide (p.alarm < p.clear ∨ p.trip < p.alarm)

/-- Whether a present stop depth lies outside its side's limits by the landing tolerance (R6). -/
def stopOutside (eff : Effective) (st : Station) (d : Side) : Bool :=
  let p := eff.side.get d
  match st.stop.get d with
  | some x => decide (x < p.top + eff.winder.landingTol ∨ p.bottom - eff.winder.landingTol < x)
  | none => false

/-- Check 13: a stop depth not inside its side's limits by the landing tolerance. -/
def stationOutside (eff : Effective) (r : RawRecord) : Bool :=
  RawRecordIs .station r && (stopOutside eff (effStation r.body) .one || stopOutside eff (effStation r.body) .two)

/-- Check 14: a marker depth outside its side's limits (R7). -/
def markerOutside (eff : Effective) (r : RawRecord) : Bool :=
  let m := effMarker r.body
  let p := eff.side.get m.side
  RawRecordIs .marker r && decide (m.desc < p.top ∨ p.bottom < m.desc ∨ m.asc < p.top ∨ p.bottom < m.asc)

/-- Whether two markers of one side on one line stand less than 20,000 mm apart in either depth (R7). -/
def markersClose (m x : Marker) : Bool :=
  decide (m.side = x.side ∧ m.line = x.line ∧ (mag (m.desc - x.desc) < 20000 ∨ mag (m.asc - x.asc) < 20000))

/-- Check 16 for one zone alone: its upper depth not above its lower depth (R8). -/
def zoneInverted (z : Zone) : Bool := decide (z.lower ≤ z.upper)

/-- Whether two zones of one side share a depth, both bounds of each included (R8). A zone whose upper depth lies below
its lower depth holds no depth and shares none. -/
def zonesShare (z x : Zone) : Bool :=
  decide (z.side = x.side ∧ z.upper ≤ z.lower ∧ x.upper ≤ x.lower ∧ z.upper ≤ x.lower ∧ x.upper ≤ z.lower)

/-- What the close of a table finds: the order number of the failing check, and the record index of its reply, if that
check names a record (R13, R166). -/
structure CloseFault where
  detail : Nat
  index : Option Nat
deriving DecidableEq, Repr

/-- One check that names records: its fault when it finds one. -/
def checkRecords (detail : Nat) (p : Nat → RawRecord → Bool) (records : List RawRecord) : Option CloseFault :=
  (firstIndex p 0 records).map fun i => ⟨detail, some i⟩

/-- The checks of R13 in their order; `none` when the staged table passes them all. -/
def closeFault (declared : Nat) (check : Half) (records : List RawRecord) : Option CloseFault :=
  let eff := effective records
  if records.length < declared then some ⟨1, none⟩
  else if tableCheck records ≠ check then some ⟨2, none⟩
  else
    (checkRecords 3 (fun _ r => fieldAtFault r) records)
    |>.or (checkRecords 4 (fun _ r => overCapacity records r) records)
    |>.or (if recordMissing records then some ⟨5, none⟩ else none)
    |>.or (checkRecords 6 (fun i r => otherMeets (sameIdentity r) i records) records)
    |>.or (checkRecords 7 (fun _ r => stationEmpty r) records)
    |>.or (checkRecords 8 (fun _ r => segmentsBroken records r) records)
    |>.or (checkRecords 9 (fun _ r => limitsCrossed r) records)
    |>.or (checkRecords 10 (fun _ r => bandsCrossed r) records)
    |>.or (checkRecords 11 (fun _ r => marginsCrossed r) records)
    |>.or (checkRecords 12 (fun _ r => balanceCrossed r) records)
    |>.or (checkRecords 13 (fun _ r => stationOutside eff r) records)
    |>.or (checkRecords 14 (fun _ r => markerOutside eff r) records)
    |>.or (checkRecords 15 (fun i r => RawRecordIs .marker r &&
        otherMeets (fun x => RawRecordIs .marker x && markersClose (effMarker r.body) (effMarker x.body)) i records)
      records)
    |>.or (checkRecords 16 (fun i r => RawRecordIs .zone r &&
        (zoneInverted (effZone r.body) ||
          otherMeets (fun x => RawRecordIs .zone x && zonesShare (effZone r.body) (effZone x.body)) i records))
      records)

end Sys2Proof.Machine
end

