-- ==== Sys2Proof/Machine/TableOps.lean ====
section
/-! DEFINITION. The shaft table's operations (01): the abandonment of a load, the activation of a table, and the table
store write. -/

namespace Sys2Proof.Machine

/-- The open load closed and the staged table emptied. -/
def State.closeLoad (s : State) : State :=
  (s.setTable { s.table with staged := [] }).setLink { s.link with load := none }

/-- An open load is abandoned with its TABLE report (R12); with none open nothing happens. -/
def State.abandonLoad (s : State) : State :=
  match s.link.load with
  | none => s
  | some l => s.closeLoad.report (.table .abandoned s.table.staged.length l.declared l.check)

/-- The table store write of the active table begins; a write in flight ends at once (R17). -/
def State.beginStoreWrite (s : State) (records : List RawRecord) (check : Half) : State :=
  s.setTable { s.table with storeWrite := some ⟨records, check⟩, stored := none }

/-- A side at a table activation (R83). -/
def State.activateTrack (s : State) (d : Side) : State :=
  let t := s.depth.get d
  s.changeTrack d { t with
    K := s.clampK t.K, lock := .unreferenced, rejects := 0, travelled := 0, lastDir := none, next := none } none

/-- A side of the rope load unit at a table activation (R58). -/
def RopeSide.activate (p : RopeSide) : RopeSide := { p with alarms := 0, clears := 0, trips := 0, slacks := 0 }

/-- The drum unit at a table activation: the histories are emptied and the rest payouts marked, and the hold payout
while declutched (R15, R32, R36, R38). -/
def State.activateDrums (s : State) : State :=
  let u := s.drums.drum
  ((s.setDrums { s.drums with drum := ⟨{ u.one with history := [] }, { u.two with history := [] }⟩ }).markRest).markHold

/-- The wind controller at a table activation: last landed stations absent, unintended motion flags clear, recovery
ended (R126, R129). -/
def State.activateWind (s : State) : State :=
  (s.setWind { s.wind with lastLanded := ⟨none, none⟩, unintended := ⟨false, false⟩ }).endRecovery

/-- The activation of the staged table (R15). The LOCK reports of R83 join before the TRIP reports of the LIMITs that the end
of recovery raises anew (R143; DESIGN CHOICE, log entry 13). -/
def State.activate (s : State) (check : Half) : State :=
  let records := s.table.staged
  let s1 := (s.setTable { s.table with active := some (ActiveTable.of records check) }).closeLoad
  let s2 := (s1.activateTrack .one).activateTrack .two
  let s3 := s2.setProof { s2.proof with readiness := .unproven }
  let s4 := s3.activateDrums.beginStoreWrite records check
  let s5 := s4.setRope { s4.rope with side := ⟨s4.rope.side.one.activate, s4.rope.side.two.activate⟩ }
  s5.activateWind

end Sys2Proof.Machine
end

