-- ==== Sys2Proof/Machine/Dispatching.lean ====
section
/-! DEFINITION. The arrival of a host frame at the link port (R163, R164, R167): what discards it, what a valid one
does before its owner sees it, and how its reply is placed. -/

namespace Sys2Proof.Machine

/-- What an owner answers: the state after the request has taken effect, the result and the reply's body (R165). -/
structure Owned where
  state : State
  result : Result
  body : List Byte

/-- A request that its owner answers DONE with a body. -/
def State.done (s : State) (body : List Byte) : Owned := ⟨s, .done, body⟩

/-- A request that its owner refuses; it carries no body (R166). -/
def State.deny (s : State) (why : Result) : Owned := ⟨s, why, []⟩

/-- Whether the arrival of a code leaves an open load untouched: POLL, TABLE-RECORD and TABLE-CLOSE (R12, R164). -/
def keepsLoad (code : Nat) : Bool := decide (code = 0x01 ∨ code = 0x09 ∨ code = 0x0A)

/-- Whether the receiver takes a whole frame: outside the quiet period, with fewer than 8 replies waiting (R161,
R167). -/
def State.receives (s : State) : Bool := s.link.quiet.isNone && decide (s.link.replies.length < Config.maxReplies)

/-- A valid frame restarts the silence timer and sets the link LIVE; the receiver hunts again (R144, R162, R163). -/
def State.frameValid (s : State) : State :=
  s.setLink { s.link with rx := .hunting, silence := some Config.silenceMs, status := .live }

/-- Part 1 of R164: an open load is abandoned unless the code is one of the three that keep it. -/
def State.frameArrives (s : State) (code : Nat) : State :=
  if keepsLoad code then s.frameValid else s.frameValid.abandonLoad

/-- A frame the link port discards leaves only the receiver hunting; in the quiet period it hunts already (R163). -/
def State.discardFrame (s : State) : State := s.setLink { s.link with rx := .hunting }

/-- The owner's answer placed in the reply list, and the transmitter's choice (R167, R168). -/
def Owned.finish (o : Owned) (code tag : Byte) : State := (o.state.answer ⟨code, tag, o.result, o.body⟩).transmit

/-- The arrival of a request frame of a fixed body length (R163, R164). `owner` is handed the link status that stood
before the arrival along with the state. -/
def State.request (s : State) (code tag : Byte) (length : Nat) (body : List Byte) (owner : State → Owned) : State :=
  if !s.receives then s.discardFrame
  else
    let s1 := s.frameArrives code.toNat
    let o := if body.length ≠ length then s1.deny .length
      else if s1.link.restartDue then s1.deny .busy
      else owner s1
    o.finish code tag

end Sys2Proof.Machine
end

