-- ==== Sys2Proof/Machine/WindRequests.lean ====
section
/-! DEFINITION. The requests of the wind controller: WIND (R110, R111), REDIRECT (R118), ABORT (R120), READ-HISTORY
(R128). -/

namespace Sys2Proof.Machine

/-! ## WIND (R110, R111) -/

/-- Whether a mode is allowed for a kind of conveyance (R110, check 6). -/
def Mode.allows : Mode → Conveyance → Bool
  | .man, .cage => true
  | .man, _ => false
  | .rock, .skip => true
  | .rock, _ => false
  | .material, .counterweight => false
  | .material, _ => true
  | .inspect, _ => true

/-- Whether an intended direction of the lead side is inward for one side: always when the side is not offending; else
the side is in play and would travel against its outward sense (R125). -/
def State.inwardFor (s : State) (r : PerSide (Option Offence)) (lead : Side) (dir : Option Dir) (d : Side) : Bool :=
  match r.get d, dir with
  | none, _ => true
  | some o, some x => s.inPlay d && decide (sideDir lead x d = o.outward.opposite)
  | some _, none => false

/-- Whether a target of the lead side is inward for every offending side (R125); true with recovery inactive. The
intended direction is the one from the present depth to the target. -/
def State.isInward (s : State) (lead : Side) (target : Int) : Bool :=
  match s.wind.recovery with
  | none => true
  | some r =>
    let dir := dirToTarget target (s.depth.get lead).D
    s.inwardFor r lead dir .one && s.inwardFor r lead dir .two

/-- Check 9 of R110: recovery is active, and the mode is not INSPECT or the destination is not inward. -/
def State.recoveryBars (s : State) (mode : Mode) (lead : Side) (target : Int) : Bool :=
  s.wind.recovery.isSome && (decide (mode ≠ .inspect) || !s.isInward lead target)

/-- Whether every side in play was LOCKED or SUSPECT at the latest drum sample (R110, check 10). -/
def State.playReferenced (s : State) : Bool :=
  s.depth.one.sampledLock.referenced && (!s.inPlay .two || s.depth.two.sampledLock.referenced)

/-- Whether a drum in play was DIVERGED at the latest drum sample (R110, check 11). -/
def State.playDiverged (s : State) : Bool :=
  decide (s.drums.drum.one.sampledState = .diverged) ||
    (s.inPlay .two && decide (s.drums.drum.two.sampledState = .diverged))

/-- Whether a side in play has its both-BAD status true (R110, check 12). -/
def State.playBothBad (s : State) : Bool := s.rope.side.one.bothBad || (s.inPlay .two && s.rope.side.two.bothBad)

/-- Whether a target lies within the landing tolerance of the lead side's depth (R110, check 14). -/
def State.alreadyThere (s : State) (lead : Side) (target : Int) : Bool :=
  decide (mag (target - (s.depth.get lead).D) ≤ s.winder.landingTol)

/-- Checks 6 to 14 of R110 for a wind whose target is known; `none` when it passes them all. -/
def State.windRefusalTo (s : State) (mode : Mode) (lead : Side) (target : Int) : Option Result :=
  if !mode.allows (s.sideData lead).kind then some .mode
  else if !s.inputs.clutch && !(decide (mode = .inspect) && decide (lead = .one)) then some .clutch
  else if !s.playStationary then some .moving
  else if s.recoveryBars mode lead target then some .recovery
  else if decide (mode ≠ .inspect) && !s.playReferenced then some .notReferenced
  else if decide (mode ≠ .inspect) && s.playDiverged then some .degraded
  else if decide (mode = .man) && s.playBothBad then some .load
  else if (s.sideData lead).payloadLimit < (s.rope.side.get lead).payload then some .overload
  else if s.alreadyThere lead target then some .alreadyThere
  else none

/-- The checks of R110 in their order: the refusal of the first that fails, or the target. -/
def State.judgeWind (s : State) (station : Nat) (mode : Mode) (lead : Side) : Except Result Int :=
  if s.windOpen then .error .busy
  else if s.anyLatched then .error .tripped
  else if !s.hasTable then .error .noTable
  else if s.proof.readiness ≠ .proven then .error .notProven
  else match s.stopDepth station lead with
    | none => .error .noStation
    | some target =>
      match s.windRefusalTo mode lead target with
      | some why => .error why
      | none => .ok target

/-- The counters of a new open wind record. -/
def SideCounts.zero : SideCounts := ⟨0, 0, 0, 0, 0⟩

/-- The intended direction at acceptance (R111). Check 14 keeps the target off the depth, so the direction is always
one of the two (log entry 29). -/
def State.intended (s : State) (lead : Side) (target : Int) : Dir :=
  (dirToTarget target (s.depth.get lead).D).getD .descending

/-- The open wind of an accepted request (R111, R127). -/
def State.newWind (s : State) (station : Nat) (mode : Mode) (lead : Side) (target : Int) : OpenWind where
  phase := .accepted
  number := s.wind.number + 1
  mode := mode
  lead := lead
  destination := station
  target := target
  dir := s.intended lead target
  startPayout := s.payout lead
  furthest := s.payout lead
  start := some Config.startMs
  dwell := none
  stop := none
  inRecovery := s.wind.recovery.isSome
  origin := s.wind.lastLanded.get lead
  duration := 0
  peakSpeed := 0
  peakUsage := 0
  counts := ⟨.zero, .zero⟩
  firstTrip := none

/-- Whether a drum in play is not DUAL or a side in play has its both-BAD status true at this moment (R96). -/
def State.playDegraded (s : State) : Bool :=
  decide (s.drums.drum.one.state ≠ .dual) || (s.inPlay .two && decide (s.drums.drum.two.state ≠ .dual)) || s.playBothBad

/-- The acceptance of a wind (R111): the new open wind, its WIND report, and the degrade state of R96 at speed 0. -/
def State.acceptWind (s : State) (w : OpenWind) : State :=
  let s1 := s.setWind { s.wind with current := some w, number := w.number }
  let s2 := s1.report (.wind w.number (some .accepted) none w.destination)
  if s.playDegraded then s2.startDegrade 0 else s2

/-- WIND at its owner (R110, R111): station id, mode and lead side. -/
def State.ownWind (s : State) (body : List Byte) : Owned :=
  match modeOfCode (byteAt body 1), sideOfCode (byteAt body 2) with
  | some mode, some lead =>
    match s.judgeWind (byteAt body 0) mode lead with
    | .error why => s.deny why
    | .ok target =>
      let w := s.newWind (byteAt body 0) mode lead target
      (s.acceptWind w).done (be16 w.number)
  | _, _ => s.deny .range

/-- WIND (R110, R111). -/
def execWind (tag : Byte) (body : List Byte) (s : State) : Host.Outcome State Fault Refusal :=
  .next (s.request 0x02 tag 3 body fun x => x.ownWind body)

/-! ## REDIRECT (R118) -/

/-- An accepted redirection of a wind in ACCEPTED. -/
def State.redirectWaiting (s : State) (w : OpenWind) (station : Nat) (target : Int) : State :=
  let w1 : OpenWind := { w with
    destination := station
    target := target
    dir := s.intended w.lead target
    startPayout := s.payout w.lead
    furthest := s.payout w.lead }
  (s.setCurrent w1).report (.wind w.number (some .accepted) none station)

/-- The new target distance of a redirection under way, in the present intended direction. -/
def State.newDistance (s : State) (w : OpenWind) (target : Int) : Int := (target - (s.depth.get w.lead).D) * w.dir.sign

/-- Whether a redirection under way comes too late: the station does not lie ahead, or the reach is less than the lead
drum's speed. -/
def State.isTooLate (s : State) (w : OpenWind) (target : Int) : Bool :=
  decide (s.newDistance w target ≤ 0) ||
    decide (approachTerm (s.mode w.mode) (s.newDistance w target) < mag (s.speed w.lead))

/-- The phase of a wind after a redirection under way. -/
def State.redirectedPhase (s : State) (w : OpenWind) (target : Int) : Phase :=
  if (s.mode w.mode).dCreep < s.newDistance w target then .running else .creep

/-- An accepted redirection of a wind in RUNNING or CREEP. -/
def State.redirectUnderWay (s : State) (w : OpenWind) (station : Nat) (target : Int) : State :=
  let phase := s.redirectedPhase w target
  (s.setCurrent { w with phase := phase, destination := station, target := target }).report
    (.wind w.number (some phase) none station)

/-- REDIRECT for a wind whose phase is not STOPPING (R118): checks 5 and 9 of R110, then check 14 in ACCEPTED or the
reach test. A phase change that brings the envelope no new judgement of load loss leaves it standing: RUNNING and CREEP
are alike to R57. -/
def State.redirectTo (s : State) (w : OpenWind) (station : Nat) : Owned :=
  match s.stopDepth station w.lead with
  | none => s.deny .noStation
  | some target =>
    if s.recoveryBars w.mode w.lead target then s.deny .recovery
    else if w.phase = .accepted then
      if s.alreadyThere w.lead target then s.deny .alreadyThere else (s.redirectWaiting w station target).done []
    else if s.isTooLate w target then s.deny .tooLate
    else (s.redirectUnderWay w station target).done []

/-- REDIRECT at its owner (R118): a station id. -/
def State.ownRedirect (s : State) (body : List Byte) : Owned :=
  match s.wind.current with
  | none => s.deny .noWind
  | some w => if w.phase = .stopping then s.deny .stopping else s.redirectTo w (byteAt body 0)

/-- REDIRECT (R118). -/
def execRedirect (tag : Byte) (body : List Byte) (s : State) : Host.Outcome State Fault Refusal :=
  .next (s.request 0x03 tag 1 body fun x => x.ownRedirect body)

/-! ## ABORT (R120) -/

/-- An abort taken up by the open wind: closure from ACCEPTED, STOPPING from RUNNING and CREEP, nothing in STOPPING and
with no wind open (R120, R122). -/
def State.abortWind (s : State) : State :=
  match s.wind.current with
  | none => s
  | some w =>
    match w.phase with
    | .accepted => s.closeWind .aborted
    | .running => s.enterStopping w .abort
    | .creep => s.enterStopping w .abort
    | .stopping => s

/-- ABORT at its owner (R120). -/
def State.ownAbort (s : State) : Owned := if s.windOpen then s.abortWind.done [] else s.deny .noWind

/-- ABORT (R120). -/
def execAbort (tag : Byte) (body : List Byte) (s : State) : Host.Outcome State Fault Refusal :=
  .next (s.request 0x04 tag 0 body State.ownAbort)

/-! ## READ-HISTORY (R128) -/

/-- READ-HISTORY at its owner: the record of an age, or EMPTY. -/
def State.ownReadHistory (s : State) (body : List Byte) : Owned :=
  match s.wind.history[byteAt body 0]? with
  | some r => s.done r.bytes
  | none => s.deny .empty

/-- READ-HISTORY (R128). -/
def execReadHistory (tag : Byte) (body : List Byte) (s : State) : Host.Outcome State Fault Refusal :=
  .next (s.request 0x0E tag 1 body fun x => x.ownReadHistory body)

end Sys2Proof.Machine
end

