-- ==== Sys2Proof/Machine/InputEvents.lean ====
section
/-! DEFINITION. The wired inputs: a change of level (R37, R139), and the settled changes of the clutch (R37, R38, R96,
R122), of drum-2-held (R124) and of the reset permissive (R139). -/

namespace Sys2Proof.Machine

/-- The settling timer after a change to a level: started when the level differs from the settled state, else stopped
(R37). -/
def settling (level settled : Bool) : Timer := if level = settled then none else some Config.settleMs

/-- A level of the clutch input; a level it already has changes nothing. -/
def State.clutchLevel (s : State) (level : Bool) : State :=
  if s.pins.clutch = level then s
  else (s.setPins { s.pins with clutch := level }).setInputs
    { s.inputs with clutchTimer := settling level s.inputs.clutch }

/-- A level of the drum-2-held input. -/
def State.heldLevel (s : State) (level : Bool) : State :=
  if s.pins.held = level then s
  else (s.setPins { s.pins with held := level }).setInputs { s.inputs with heldTimer := settling level s.inputs.held }

/-- A level of the reset permissive input. -/
def State.permissiveLevel (s : State) (level : Bool) : State :=
  if s.pins.permissive = level then s
  else (s.setPins { s.pins with permissive := level }).setInputs
    { s.inputs with permissiveTimer := settling level s.inputs.permissive }

/-- INPUT_LEVEL_CHANGE (R37, R139). The release of a marker line and a line monitor that becomes active again leave
their level and nothing else (R22, R35, log entry 8). -/
def execInputLevelChange (change : InputChange) (s : State) : Host.Outcome State Fault Refusal :=
  .next (match change with
    | .clutch level => s.clutchLevel level
    | .held level => s.heldLevel level
    | .permissive level => s.permissiveLevel level
    | .lineReleased line => s.setLine line false
    | .monitorActive drum enc => s.setMonitor drum enc true)

/-! ## The clutch (R37, R38, R87, R96, R122, R124) -/

/-- The drum unit at a settled change of the clutch: the hold payout is marked at a change to disengaged and discarded,
with the drum 2 creep flag, at a change to engaged (R38, R124). -/
def State.clutchDrums (s : State) : State :=
  if s.inputs.clutch then
    (s.setDrums { s.drums with hold := none, holdDue := false }).setWind { s.wind with creepFlag := false }
  else s.markHold

/-- The wind controller at a settled change of the clutch (R122): CLUTCH IN MOTION when a drum moves, else the open wind
is aborted. -/
def State.clutchWind (s : State) : State := if s.bothStationary then s.abortWind else s.raiseCause .clutchInMotion

/-- The envelope computer at a settled change of the clutch: side 2 coming into play with its drum not DUAL or its
both-BAD status true starts the degrade state (R96). Drum 2 counts among the drums in play for the start speed, although it
is in play only since this event (DESIGN CHOICE, log entry 46). -/
def State.clutchEnvelope (s : State) : State :=
  if s.inputs.clutch ∧ (s.drums.drum.two.state ≠ .dual ∨ s.rope.side.two.bothBad = true) then
    s.startDegrade s.playSpeed
  else s

/-- The settled state of the clutch takes the input's level. -/
def State.settleClutch (s : State) : State :=
  s.setInputs { s.inputs with clutch := s.pins.clutch, clutchTimer := none }

/-- A settled change of the clutch, at every block it reaches; the rope load unit forms its judgement anew (R57). -/
def State.changeClutch (s : State) : State := s.settleClutch.clutchDrums.clutchWind.clutchEnvelope.judgeLoadLost

/-- CLUTCH_SETTLED_CHANGE: while the level has not held unbroken for its 20 ms, or is that of the settled state, nothing
happens. -/
def execClutchSettledChange (s : State) : Host.Outcome State Fault Refusal :=
  .next (if ended s.inputs.clutchTimer ∧ s.pins.clutch ≠ s.inputs.clutch then s.changeClutch.transmit else s)

/-! ## Drum-2-held and the reset permissive (R124, R139) -/

/-- A settled change of the drum-2-held input: to inactive while the clutch is disengaged it raises DRUM 2 CREEP, whatever
the flag (R124). -/
def State.changeHeld (s : State) : State :=
  let s1 := s.setInputs { s.inputs with held := s.pins.held, heldTimer := none }
  if !s.pins.held && !s.inputs.clutch then s1.raiseCause .drum2Creep else s1

/-- DRUM_2_HELD_SETTLED_CHANGE (R37, R124). -/
def execDrum2HeldSettledChange (s : State) : Host.Outcome State Fault Refusal :=
  .next (if ended s.inputs.heldTimer ∧ s.pins.held ≠ s.inputs.held then s.changeHeld.transmit else s)

/-- RESET_PERMISSIVE_SETTLED_CHANGE (R139): the settled state alone changes. -/
def execResetPermissiveSettledChange (s : State) : Host.Outcome State Fault Refusal :=
  .next (if ended s.inputs.permissiveTimer ∧ s.pins.permissive ≠ s.inputs.permissive then
      s.setInputs { s.inputs with permissive := s.pins.permissive, permissiveTimer := none }
    else s)

end Sys2Proof.Machine
end

