-- ==== Sys2Proof/Machine/Resets.lean ====
section
/-! DEFINITION. What each block holds after power-on and after RESTART (the reset rules R19, R20, R39, R40, R59, R60,
R84, R85, R107, R130, R148, R149, R159, R172), and the two resets as a whole. -/

namespace Sys2Proof.Machine

/-! ## What both resets and power-on give the blocks -/

/-- The link port after a reset (R144, R161, R172). -/
def resetLink (kind : ResetKind) : LinkPort := LinkPort.afterReset kind

/-- The settled inputs at a reset (R37, R139). -/
def resetInputs (pins : Pins) : Inputs := Inputs.ofPins pins

/-- The envelope after a reset (R107). -/
def resetEnvelope (floors : PerStage Int) : Envelope := Envelope.afterReset floors

/-- A load channel after a reset (R59, R60). -/
def resetLoadChannel (alarm : Bool) : LoadChannel := LoadChannel.afterReset alarm

/-- The six output channels after a reset, before their comparison (R148, R149). -/
def resetChannels : PerStage (PerChan OutChannel) := channelsOff

/-- A drum at power-on (R39). -/
def powerOnDrum (theta : Int) : Drum := Drum.atPowerOn theta

/-- A side's track at power-on (R84). -/
def powerOnTrack (K : Int) : Track := Track.atPowerOn K

/-- The rope load unit at power-on (R59). -/
def powerOnRope : RopeUnit := RopeUnit.atPowerOn

/-- The wind controller at power-on (R130). -/
def powerOnWind : WindUnit := WindUnit.atPowerOn

/-- The trip unit at power-on, before the comparison of its channels (R148). -/
def powerOnTrip : TripUnit := TripUnit.atPowerOn

/-! ## Parts of both resets -/

/-- Every output channel is compared at once (R148, R149). -/
def State.compareAll (s : State) : State :=
  let two (x : State) (k : Stage) : State := (x.compareChannel k .x).compareChannel k .y
  two (two (two s .s1) .s2) .s3

/-- An encoder whose line monitor is inactive at the reset fails at once (R39, R40). With both inactive, A fails before B
(DESIGN CHOICE, log entry 44). -/
def State.failUnmonitored (s : State) (d : Side) : State :=
  let m := s.pins.monitors.get d
  let s1 := if m.a then s else s.failEncoder d .a
  if m.b then s1 else s1.failEncoder d .b

/-- What the reset is followed by at once: the comparison of the channels and the failures of unmonitored encoders, drum 1
before drum 2 (DESIGN CHOICE, log entry 44). -/
def State.afterReset (s : State) : State := (s.compareAll.failUnmonitored .one).failUnmonitored .two

/-- The readiness after a reset (R150, R159). -/
def readinessAfter (tableActive : Bool) : Readiness := if tableActive then .unproven else .noTable

/-- The thresholds a reset starts from: the floors of the table, or the defaults (R107). -/
def floorsOf (active : Option ActiveTable) : PerStage Int :=
  match active with
  | some t => t.eff.sup.floor
  | none => defaultFloors

/-! ## RESTART -/

/-- A drum re-admitted at its selected angle (R40). -/
def Drum.readmit (x : Drum) : Drum :=
  { x with
    enc := ⟨⟨BitVec.ofInt 32 x.theta, false⟩, ⟨BitVec.ofInt 32 x.theta, false⟩⟩
    state := .dual
    sampledState := .dual
    disagree := false
    agreeing := 0
    history := []
    v := 0
    restDue := true }

/-- The drum unit at RESTART, with the clutch input's level (R40). Until a hold payout marked here is taken there is none
(DESIGN CHOICE, log entry 32). -/
def DrumUnit.restart (u : DrumUnit) (clutch : Bool) : DrumUnit where
  drum := ⟨u.drum.one.readmit, u.drum.two.readmit⟩
  hold := none
  holdDue := !clutch
  sampled := false

/-- A side of the rope load unit at RESTART (R60). -/
def RopeSide.restart (p : RopeSide) : RopeSide :=
  { p with
    chan := ⟨resetLoadChannel p.chan.a.alarm, resetLoadChannel p.chan.b.alarm⟩
    alarms := 0
    clears := 0
    trips := 0
    slacks := 0
    bothBad := true }

/-- The rope load unit at RESTART (R60). -/
def RopeUnit.restart (u : RopeUnit) : RopeUnit where
  rx := .hunting
  lastSeq := none
  frame := some Config.frameMs
  side := ⟨u.side.one.restart, u.side.two.restart⟩
  loadLost := false

/-- A side's lock state after RESTART (R85). -/
def Lock.restart : Lock → Lock
  | .locked => .suspect
  | .suspect => .suspect
  | _ => .unreferenced

/-- A side's track at RESTART (R85). Until the first drum sample after it the lock state handed on, which a capture takes, is
the one the restart leaves, and D0, D and u are 0 (DESIGN CHOICE, log entry 32). -/
def Track.restart (t : Track) : Track :=
  { t with
    lock := t.lock.restart
    sampledLock := t.lock.restart
    rejects := 0
    travelled := 0
    lastDir := none
    next := none
    D0 := 0
    D := 0
    u := 0 }

/-- The wind controller at RESTART (R130). The outward senses last handed are kept (DESIGN CHOICE, log entry 32). -/
def WindUnit.restart (u : WindUnit) : WindUnit :=
  { u with
    current := none
    recovery := none
    unintended := ⟨false, false⟩
    creepFlag := false }

/-- A stage at RESTART: one that is clear latches with RESET, one that is latched keeps its first cause (R149). -/
def Latch.restart : Latch → Latch
  | .clear => .latched (.reset .restart)
  | .latched c => .latched c

/-- Whether an active entry stays at RESTART: the advisories but ENCODER DISAGREEMENT (R149). -/
def Cause.staysAtRestart : Cause → Bool
  | .encoderDisagreement _ => false
  | c => decide (c.kind = .advisory)

/-- The trip unit at RESTART, before the comparison of its channels (R149). -/
def TripUnit.restart (u : TripUnit) : TripUnit where
  latch := ⟨u.latch.s1.restart, u.latch.s2.restart, u.latch.s3.restart⟩
  chan := resetChannels
  causes := insertCode 1 u.causes
  active := u.active.filter Cause.staysAtRestart
  capture := u.capture

/-- The shaft table at RESTART: the staged table is emptied, the rest is kept (R20). -/
def ShaftTable.restart (t : ShaftTable) : ShaftTable := { t with staged := [] }

/-- Every block reset to its RESTART values, with the quiet period begun (R160, R161). The phase of the 2 ms drum sample
runs on (DESIGN CHOICE, log entry 3). -/
def State.restartBlocks (s : State) : State :=
  { s with
    clock := { s.clock with stamp := 0 }
    link := resetLink .restart
    table := s.table.restart
    drums := s.drums.restart s.pins.clutch
    inputs := resetInputs s.pins
    rope := s.rope.restart
    depth := ⟨s.depth.one.restart, s.depth.two.restart⟩
    env := resetEnvelope (floorsOf s.table.active)
    wind := s.wind.restart
    trip := s.trip.restart
    proof := { s.proof with readiness := readinessAfter s.hasTable } }

/-- The restart proper (R160): the park write is requested with the contents then standing, then every block is
reset. -/
def State.restartProper (s : State) : State := s.requestPark.restartBlocks.afterReset

/-! ## Power-on -/

/-- The table restored from store: the stored copy when it is valid and its check agrees (R19). -/
def restoredTable (stored : Option StoredTable) : Option ActiveTable :=
  match stored with
  | some c => if tableCheck c.records = c.check then some (ActiveTable.of c.records c.check) else none
  | none => none

/-- The bound of K for a restored table (R19, R61). -/
def authorityOf (active : Option ActiveTable) : Int :=
  match active with
  | some t => t.eff.sup.authority
  | none => Config.maxK

/-- The angle a drum takes from the park record (R19). -/
def parkTheta (park : Option Park) (d : Side) : Int :=
  match park with
  | some p => p.theta.get d
  | none => 0

/-- The offset a side takes from the park record, given the clutch input now (R19). -/
def parkK (park : Option Park) (authority : Int) (clutch : Bool) (d : Side) : Int :=
  match park with
  | none => 0
  | some p =>
    if d = .two ∧ p.clutch ≠ clutch then 0 else clamp (-authority) authority (p.K.get d)

/-- The shaft table at power-on (R19): nothing staged and no write in flight or pending; the store keeps what is
valid. -/
def ShaftTable.atPowerOn (t : ShaftTable) : ShaftTable where
  active := restoredTable t.stored
  staged := []
  stored := t.stored
  storeWrite := none
  park := t.park
  parkWrite := none
  parkPending := none

/-- The drum unit at power-on (R39). Until a hold payout marked here is taken there is none (DESIGN CHOICE, log entry
32). -/
def DrumUnit.atPowerOn (park : Option Park) (clutch : Bool) : DrumUnit where
  drum := ⟨powerOnDrum (parkTheta park .one), powerOnDrum (parkTheta park .two)⟩
  hold := none
  holdDue := !clutch
  sampled := false

/-- Every block started from the nonvolatile store and the levels of the wired inputs (8.6). -/
def State.powerOnBlocks (s : State) (pins : Pins) : State :=
  let table := s.table.atPowerOn
  let k := parkK s.table.park (authorityOf table.active) pins.clutch
  { s with
    pins := pins
    clock := ⟨0, false⟩
    link := resetLink .powerOn
    table := table
    drums := DrumUnit.atPowerOn s.table.park pins.clutch
    inputs := resetInputs pins
    rope := powerOnRope
    depth := ⟨powerOnTrack (k .one), powerOnTrack (k .two)⟩
    env := resetEnvelope (floorsOf table.active)
    wind := powerOnWind
    trip := powerOnTrip
    proof := { readiness := readinessAfter table.active.isSome, lastFailure := none } }

end Sys2Proof.Machine
end

