-- ==== Sys2Proof/Machine/LinkEvents.lean ====
section
/-! DEFINITION. The events of the link port: a discarded frame, a byte gap (R162, R163), the end of a transmitted frame
(R157, R160, R168), and the expiries of the quiet period (R161) and of the silence timer (R144). -/

namespace Sys2Proof.Machine

/-- LINK_FRAME_DISCARDED: no reply and no effect, whatever the reason; the receiver hunts (R162, R163). -/
def execLinkFrameDiscarded (_why : FrameDiscard) (s : State) : Host.Outcome State Fault Refusal :=
  .next s.discardFrame

/-- LINK_BYTE_GAP: the partial frame is discarded, and the receiver hunts, beginning with the byte that ended the gap
(R162). In the quiet period that byte is discarded (R161). -/
def execLinkByteGap (next : Byte) (s : State) : Host.Outcome State Fault Refusal :=
  .next (if s.link.quiet.isSome then s.discardFrame
    else s.setLink { s.link with rx := (linkRxByte .hunting next).1 })

/-! ## The end of a transmitted frame (R168) -/

/-- The end of an ECHO-PROBE: the probe awaited becomes outstanding and the echo timer is restarted. The probe is known
by its pattern and its time stamp (R157, log entry 31). -/
def State.probeSent (s : State) (pattern : Half) (stamp : Word) : State :=
  match s.proof.readiness with
  | .proving (.echo awaited made _ _) =>
    if awaited = pattern ∧ made = stamp then
      s.setProof { s.proof with readiness := .proving (.echo awaited made true (some Config.echoMs)) }
    else s
  | _ => s

/-- Whether a reply is the DONE of an accepted RESTART (R160). -/
def Reply.isRestartDone (r : Reply) : Bool := decide (r.code = 0x0F ∧ r.result = .done)

/-- The end of a frame handed to the proof unit or to the restart (R168). -/
def State.handFrameEnd (s : State) : Frame → State
  | .report r =>
    match r.body with
    | .echoProbe pattern => s.probeSent pattern r.stamp
    | _ => s
  | .reply r => if r.isRestartDone && s.link.restartDue then s.restartProper else s

/-- The transmitter at the end of its frame; idle, it has none to end. -/
def State.endFrame (s : State) : State :=
  match s.link.tx with
  | none => s
  | some f => ((s.setLink { s.link with tx := none }).handFrameEnd f).transmit

/-- TRANSMIT_FRAME_END (R168). -/
def execTransmitFrameEnd (s : State) : Host.Outcome State Fault Refusal := .next s.endFrame

/-! ## Timers of the link port -/

/-- The RESTARTED report of the present moment (R161). -/
def State.restartedReport (s : State) : Report :=
  ⟨.restarted s.link.resetKind s.proof.readiness.ready s.hasTable, s.clock.stamp⟩

/-- The report placed at the head of the queue; a full queue loses its newest report (R161, R173). -/
def State.placeAtHead (s : State) (r : Report) : State :=
  s.setLink { s.link with
    reports := r :: s.link.reports.take (Config.maxReports - 1)
    lost := s.link.lost || decide (Config.maxReports ≤ s.link.reports.length) }

/-- The end of the quiet period (R161). -/
def State.endQuiet (s : State) : State :=
  let s1 := s.placeAtHead s.restartedReport
  (s1.setLink { s1.link with quiet := none }).transmit

/-- QUIET_PERIOD_EXPIRY (R161); before the quiet period has run out, and outside it, nothing happens. -/
def execQuietPeriodExpiry (s : State) : Host.Outcome State Fault Refusal :=
  .next (if ended s.link.quiet then s.endQuiet else s)

/-- Whether the wind is ACCEPTED, RUNNING or CREEP, where silence trips (R144). -/
def State.underWay (s : State) : Bool :=
  decide (s.phase = some .accepted ∨ s.phase = some .running ∨ s.phase = some .creep)

/-- The link falls SILENT (R144). -/
def State.fallSilent (s : State) : State :=
  let s1 := s.setLink { s.link with silence := none, status := .silent }
  if s1.underWay then s1.raiseCause .linkSilent else s1

/-- LINK_SILENCE_EXPIRY (R144); with the timer stopped, or restarted by a frame taken first, nothing happens. -/
def execLinkSilenceExpiry (s : State) : Host.Outcome State Fault Refusal :=
  .next (if ended s.link.silence then s.fallSilent.transmit else s)

end Sys2Proof.Machine
end

