-- ==== Sys2Proof/Machine/LinkRequests.lean ====
section
/-! DEFINITION. The requests the link port owns: POLL (R169, R174), RESTART (R160), and a code that names no request
(R164). -/

namespace Sys2Proof.Machine

/-- POLL at its owner: the reply as the state stands, and the reports-lost flag cleared (R169, R174). -/
def State.ownPoll (s : State) (wasSilent : Bool) : Owned :=
  (s.setLink { s.link with lost := false }).done (s.pollBody wasSilent)

/-- POLL (R169). -/
def execPoll (tag : Byte) (body : List Byte) (s : State) : Host.Outcome State Fault Refusal :=
  .next (s.request 0x01 tag 0 body fun x => x.ownPoll (decide (s.link.status = .silent)))

/-- RESTART at its owner (R160): the restart proper follows the end of its DONE reply. -/
def State.ownRestart (s : State) : Owned :=
  if !s.bothStationary then s.deny .moving
  else if s.windOpen then s.deny .busy
  else (s.setLink { s.link with restartDue := true }).done []

/-- RESTART (R160). -/
def execRestart (tag : Byte) (body : List Byte) (s : State) : Host.Outcome State Fault Refusal :=
  .next (s.request 0x0F tag 0 body State.ownRestart)

/-- A valid frame whose code names no request is refused with UNKNOWN, whatever its body (R164). -/
def execUnknownRequest (code tag : Byte) (_body : List Byte) (s : State) : Host.Outcome State Fault Refusal :=
  .next (if s.receives then ((s.frameArrives code.toNat).deny .unknown).finish code tag else s.discardFrame)

end Sys2Proof.Machine
end

