-- ==== Sys2Proof/Machine/LoadEvents.lean ====
section
/-! DEFINITION. The events of the rope load unit: a load sample (R42, R43), a discarded frame and a byte gap (R41), and
the expiries of the frame timer (R43) and of the hold timers (R44, R45). -/

namespace Sys2Proof.Machine

/-- The load receiver returned to hunting. -/
def State.huntLoad (s : State) : State := s.setRope { s.rope with rx := .hunting }

/-- A valid frame: its sequence number becomes the last and the frame timer is restarted (R42, R43). -/
def State.acceptLoad (s : State) (seq : Fin 16) : State :=
  s.setRope { s.rope with rx := .hunting, lastSeq := some seq, frame := some Config.frameMs }

/-- LOAD_SAMPLE: a frame that repeats the last sequence number is discarded; any other is evaluated (R42, R43, R155). -/
def execLoadSample (frame : LoadFrame) (s : State) : Host.Outcome State Fault Refusal :=
  .next (if s.rope.lastSeq = some frame.seq then s.huntLoad
    else (((s.acceptLoad frame.seq).evaluateFrame frame.value).sampleLoads).transmit)

/-- LOAD_FRAME_DISCARDED: no channel, timer or cause changes, whatever the reason; the receiver hunts (R41, R42). -/
def execLoadFrameDiscarded (_why : LoadDiscard) (s : State) : Host.Outcome State Fault Refusal := .next s.huntLoad

/-- LOAD_BYTE_GAP: the partial frame is discarded, and the receiver hunts with the byte after the gap (R41). -/
def execLoadByteGap (next : Byte) (s : State) : Host.Outcome State Fault Refusal :=
  .next (s.setRope { s.rope with rx := (loadRxByte .hunting next).1 })

/-- FRAME_TIMER_EXPIRY: the timer is restarted at 10 ms and a timer evaluation is made (R43, R155); with the timer
restarted by a frame taken first nothing happens. -/
def execFrameTimerExpiry (s : State) : Host.Outcome State Fault Refusal :=
  .next (if ended s.rope.frame then
      (((s.setRope { s.rope with frame := some Config.reframeMs }).evaluateTimer).sampleLoads).transmit
    else s)

/-- A channel at the expiry of its hold timer: BAD, with its alarm flag set (R44, R45). -/
def LoadChannel.expire (x : LoadChannel) : LoadChannel := { x with health := .bad, hold := none, alarm := true }

/-- The hold timer of a channel has run out: the channel is BAD, its advisory is set if it was clear, and the side's
both-BAD status is formed anew (R44, R45, R56). -/
def State.expireHold (s : State) (d : Side) (r : Twin) : State :=
  let x := s.loadChan d r
  let s1 := s.setLoadChan d r x.expire
  (if x.alarm then s1 else s1.setAdvisory (.loadChannel d r)).judgeBothBad d

/-- HOLD_TIMER_EXPIRY (R44); with the timer stopped or started anew nothing happens. -/
def execHoldTimerExpiry (side : Side) (rope : Twin) (s : State) : Host.Outcome State Fault Refusal :=
  .next (if ended (s.loadChan side rope).hold then (s.expireHold side rope).transmit else s)

end Sys2Proof.Machine
end

