-- ==== Sys2Proof/Machine/PowerOn.lean ====
section
/-! DEFINITION. Power-on, or the assertion of the power-on reset input (section 8.6). -/

namespace Sys2Proof.Machine

/-- POWER_ON: every block starts from the nonvolatile store and the levels of the wired inputs; then the channels are
compared and unmonitored encoders fail (R19, R39, R59, R84, R107, R130, R148, R159, R161, R172). -/
def execPowerOn (pins : Pins) (s : State) : Host.Outcome State Fault Refusal := .next (s.powerOnBlocks pins).afterReset

end Sys2Proof.Machine
end

