-- ==== Sys2Proof/Machine/ProofRequests.lean ====
section
/-! DEFINITION. The requests of the proof unit: PROOF (R151) and ECHO-RETURN (R158). -/

namespace Sys2Proof.Machine

/-! ## PROOF (R151, R154) -/

/-- The checks of R151 in their order; `none` when the request passes them all. -/
def State.proofRefusal (s : State) : Option Result :=
  if s.isProving then some .busy
  else if s.windOpen then some .busy
  else if !s.hasTable then some .noTable
  else if !s.bothStationary then some .moving
  else none

/-- The acceptance of a proof: the cause PROOF, then step 1 at once (R145, R151, R154). -/
def State.beginProof (s : State) : State := (s.raiseCause .proof).judgeTable

/-- PROOF at its owner. -/
def State.ownProof (s : State) : Owned :=
  match s.proofRefusal with
  | some why => s.deny why
  | none => s.beginProof.done []

/-- PROOF (R151). -/
def execProof (tag : Byte) (body : List Byte) (s : State) : Host.Outcome State Fault Refusal :=
  .next (s.request 0x06 tag 0 body State.ownProof)

/-! ## ECHO-RETURN (R158) -/

/-- The pattern of the last exchange. -/
def lastPattern : Half := 0x8000

/-- A correct return: the next probe, or the pass of step 6 after the last pattern (R157). -/
def State.passExchange (s : State) (pattern : Half) : State :=
  if pattern = lastPattern then (s.report (.proofStep 6)).passProof else s.sendProbe (pattern <<< 1)

/-- A return judged in step 6 (R158). -/
def State.judgeReturn (s : State) (awaited : Half) (outstanding : Bool) (got : Half) : State :=
  if !outstanding then s.failProof 6 0x89 got.toNat
  else if got = awaited then s.passExchange awaited
  else s.failProof 6 0x88 got.toNat

/-- ECHO-RETURN at its owner: a pattern. -/
def State.ownEchoReturn (s : State) (body : List Byte) : Owned :=
  match s.proof.readiness with
  | .proving (.echo awaited _ outstanding _) => (s.judgeReturn awaited outstanding (halfAt body 0)).done []
  | _ => s.deny .notExpected

/-- ECHO-RETURN (R158). -/
def execEchoReturn (tag : Byte) (body : List Byte) (s : State) : Host.Outcome State Fault Refusal :=
  .next (s.request 0x07 tag 2 body fun x => x.ownEchoReturn body)

end Sys2Proof.Machine
end

