-- ==== Sys2Proof/Machine/StoreEvents.lean ====
section
/-! DEFINITION. The ends of the writes to the nonvolatile store: the table copy (R17) and the park record (R18). -/

namespace Sys2Proof.Machine

/-- The records that the read-back of a write finds. -/
def readRecords (w : StoredTable) : ReadBack → List RawRecord
  | .asWritten => w.records
  | .found records => records

/-- Whether the check recomputed over the records read back equals the stored table check (R17). -/
def storeAgrees (w : StoredTable) (readBack : ReadBack) : Bool := decide (tableCheck (readRecords w readBack) = w.check)

/-- The end of a table store write (R17). -/
def State.endStoreWrite (s : State) (w : StoredTable) (readBack : ReadBack) : State :=
  let good := storeAgrees w readBack
  let n := w.records.length
  (s.setTable { s.table with
    storeWrite := none
    stored := if good then some ⟨readRecords w readBack, w.check⟩ else none }).report
    (.table (if good then .stored else .storeFailed) n n w.check)

/-- TABLE_STORE_WRITE_END (R17); with no write in flight nothing happens. -/
def execTableStoreWriteEnd (readBack : ReadBack) (s : State) : Host.Outcome State Fault Refusal :=
  .next (match s.table.storeWrite with
    | some w => (s.endStoreWrite w readBack).transmit
    | none => s)

/-- The end of a park write: pending contents are written at once, and the record is then invalid again (R18). -/
def State.endParkWrite (s : State) (w : Park) (agrees : Bool) : State :=
  match s.table.parkPending with
  | some q => s.setTable { s.table with park := none, parkWrite := some q, parkPending := none }
  | none => s.setTable { s.table with park := if agrees then some w else none, parkWrite := none }

/-- PARK_WRITE_END (R18); with no write in flight nothing happens. -/
def execParkWriteEnd (agrees : Bool) (s : State) : Host.Outcome State Fault Refusal :=
  .next (match s.table.parkWrite with
    | some w => s.endParkWrite w agrees
    | none => s)

end Sys2Proof.Machine
end

