-- ==== Sys2Proof/Machine/TableRequests.lean ====
section
/-! DEFINITION. The requests of the shaft table: TABLE-OPEN (R10), TABLE-RECORD (R11), TABLE-CLOSE (R13, R14),
READ-TABLE (R16). -/

namespace Sys2Proof.Machine

/-! ## TABLE-OPEN (R10) -/

/-- The checks of R10 in their order; `none` when the request passes them all. -/
def State.openRefusal (s : State) (declared : Nat) : Option Result :=
  if declared < 1 ∨ Config.maxRecords < declared then some .range
  else if s.windOpen then some .busy
  else if s.isProving then some .busy
  else if !s.bothStationary then some .moving
  else none

/-- A load opens: the staged table is emptied, the declared count and check are recorded, the next index is 0. -/
def State.openLoad (s : State) (declared : Nat) (check : Half) : State :=
  (s.setTable { s.table with staged := [] }).setLink { s.link with load := some ⟨declared, check, 0⟩ }

/-- TABLE-OPEN at its owner: record count and table check. -/
def State.ownTableOpen (s : State) (body : List Byte) : Owned :=
  match s.openRefusal (byteAt body 0) with
  | some why => s.deny why
  | none => (s.openLoad (byteAt body 0) (halfAt body 1)).done []

/-- TABLE-OPEN (R10). -/
def execTableOpen (tag : Byte) (body : List Byte) (s : State) : Host.Outcome State Fault Refusal :=
  .next (s.request 0x08 tag 3 body fun x => x.ownTableOpen body)

/-! ## TABLE-RECORD (R11) -/

/-- A failed TABLE-RECORD abandons the load, if one is open (R11, R164). -/
def State.failRecord (s : State) (why : Result) : Owned := s.abandonLoad.deny why

/-- A record joins the staged table and the next index advances (R11). -/
def State.stageRecord (s : State) (l : TableLoad) (r : RawRecord) : State :=
  (s.setTable { s.table with staged := s.table.staged ++ [r] }).setLink
    { s.link with load := some { l with next := l.next + 1 } }

/-- The failure of a record that arrives with a load open, if it is one: index, kind, body length, in that order (log
entry 25). -/
def recordFault (l : TableLoad) (index : Nat) (r : RawRecord) : Option Result :=
  if index ≠ l.next ∨ l.declared ≤ l.next then some .sequence
  else match recordKindOf r.kind with
    | none => some .range
    | some k => if r.body.length ≠ bodyLength k then some .length else none

/-- TABLE-RECORD at its owner: record index, kind, record body. -/
def State.ownTableRecord (s : State) (body : List Byte) : Owned :=
  match s.link.load with
  | none => s.deny .sequence
  | some l =>
    let r : RawRecord := ⟨body.getD 1 0, body.drop 2⟩
    match recordFault l (byteAt body 0) r with
    | some why => s.failRecord why
    | none => (s.stageRecord l r).done [byteOf (l.next + 1)]

/-- TABLE-RECORD from its arrival (R164): a body shorter than 2 bytes is refused with LENGTH. -/
def State.arriveRecord (s : State) (body : List Byte) : Owned :=
  if body.length < 2 then s.failRecord .length
  else if s.link.restartDue then s.deny .busy
  else s.ownTableRecord body

/-- TABLE-RECORD (R11, R164). -/
def execTableRecord (tag : Byte) (body : List Byte) (s : State) : Host.Outcome State Fault Refusal :=
  .next (if s.receives then ((s.frameArrives 0x09).arriveRecord body).finish 0x09 tag else s.discardFrame)

/-! ## TABLE-CLOSE (R13, R14) -/

/-- The body of an INVALID reply: detail and record index, 0xFF for none (R166). -/
def CloseFault.bytes (f : CloseFault) : List Byte := [byteOf f.detail, byteOf (f.index.getD 0xFF)]

/-- The clamp count of a table (R14). -/
def clampCount (records : List RawRecord) : Nat := (tableClamps records).sum

/-- TABLE-CLOSE at its owner. -/
def State.ownTableClose (s : State) : Owned :=
  match s.link.load with
  | none => s.deny .sequence
  | some l =>
    if !s.bothStationary then s.abandonLoad.deny .moving
    else match closeFault l.declared l.check s.table.staged with
      | some f => ⟨s.closeLoad, .invalid, f.bytes⟩
      | none => (s.activate l.check).done (be16 (BitVec.ofNat 16 (clampCount s.table.staged)))

/-- TABLE-CLOSE (R13, R14). -/
def execTableClose (tag : Byte) (body : List Byte) (s : State) : Host.Outcome State Fault Refusal :=
  .next (s.request 0x0A tag 0 body State.ownTableClose)

/-! ## READ-TABLE (R16) -/

/-- READ-TABLE at its owner: a record of the active table, or EMPTY. -/
def State.ownReadTable (s : State) (body : List Byte) : Owned :=
  match s.table.active with
  | none => s.deny .empty
  | some t =>
    match t.records[byteAt body 0]? with
    | some r => s.done (tableBody t (byteAt body 0) r)
    | none => s.deny .empty

/-- READ-TABLE (R16). -/
def execReadTable (tag : Byte) (body : List Byte) (s : State) : Host.Outcome State Fault Refusal :=
  .next (s.request 0x0B tag 1 body fun x => x.ownReadTable body)

end Sys2Proof.Machine
end

