-- ==== Sys2Proof/Machine/TimerEvents.lean ====
section
/-! DEFINITION. The expiries of the start timer (R114), the dwell timer (R116), the echo timer (R157) and the test timer
(R156). -/

namespace Sys2Proof.Machine

/-- START_TIMER_EXPIRY: an ACCEPTED wind closes LAPSED (R114); with the timer stopped or running nothing happens. -/
def execStartTimerExpiry (s : State) : Host.Outcome State Fault Refusal :=
  .next (match s.wind.current with
    | some w => if w.phase = .accepted ∧ ended w.start then (s.closeWind .lapsed).transmit else s
    | none => s)

/-- Whether the lead side stands within the landing tolerance of the target, at the latest drum sample (R116, log entry
33). -/
def State.hasLanded (s : State) (w : OpenWind) : Bool :=
  decide (mag (w.target - (s.depth.get w.lead).D) ≤ s.winder.landingTol)

/-- The outcome of a wind at its dwell (R116). -/
def State.dwellOutcome (s : State) (w : OpenWind) : WindOutcome :=
  match w.stop with
  | some .trip => .tripped
  | some .abort => .aborted
  | none => if s.hasLanded w then .landed else .short

/-- DWELL_TIMER_EXPIRY: the wind closes with its outcome (R116); with the timer stopped or running nothing
happens. -/
def execDwellTimerExpiry (s : State) : Host.Outcome State Fault Refusal :=
  .next (match s.wind.current with
    | some w => if ended w.dwell then (s.closeWind (s.dwellOutcome w)).transmit else s
    | none => s)

/-- ECHO_TIMER_EXPIRY: the proof fails with 0x87 and the pattern awaited (R157); outside step 6, and with the timer
restarted by a return taken first, nothing happens (R158). -/
def execEchoTimerExpiry (s : State) : Host.Outcome State Fault Refusal :=
  .next (match s.proof.readiness with
    | .proving (.echo pattern _ _ t) => if ended t then (s.failProof 6 0x87 pattern.toNat).transmit else s
    | _ => s)

/-- TEST_TIMER_EXPIRY: the half under test fails the proof with 0x86 and the channel (R156); outside step 5, and
with the timer restarted by a readback taken first, nothing happens. -/
def execTestTimerExpiry (s : State) : Host.Outcome State Fault Refusal :=
  .next (match s.proof.readiness with
    | .proving (.tripPaths k c _ t) => if ended t then (s.failProof 5 0x86 (pathCode k c)).transmit else s
    | _ => s)

end Sys2Proof.Machine
end

