-- ==== Sys2Proof/Machine/TripEvents.lean ====
section
/-! DEFINITION. The output channels: a change of a readback (R132, R156) and the expiry of a mismatch timer (R132). -/

namespace Sys2Proof.Machine

/-- The level of a readback. -/
def State.setReadback (s : State) (k : Stage) (c : Chan) (level : Bool) : State :=
  s.setPins { s.pins with readbacks := s.pins.readbacks.set k ((s.pins.readbacks.get k).set c level) }

/-- A changed readback judged: in step 5 of the proof it passes the half under test when the channel under test shows
the expected state; otherwise the channel is compared (R132, R156). -/
def State.judgeReadback (s : State) (k : Stage) (c : Chan) (level : Bool) : State :=
  match s.proof.readiness with
  | .proving (.tripPaths k1 c1 energise _) =>
    if k = k1 ∧ c = c1 ∧ level = energise then s.passHalf k1 c1 energise else s
  | _ => s.compareChannel k c

/-- READBACK_CHANGE (R132, R156); a level the readback already has is no change. -/
def execReadbackChange (stage : Stage) (chan : Chan) (level : Bool) (s : State) : Host.Outcome State Fault Refusal :=
  .next (if s.readback stage chan = level then s
    else ((s.setReadback stage chan level).judgeReadback stage chan level).transmit)

/-- The mismatch of a channel has lasted: the timer stays stopped and TRIP PATH is raised (R132). -/
def State.expireMismatch (s : State) (k : Stage) (c : Chan) : State :=
  (s.setChannel k c { s.channel k c with mismatch := none }).raiseCause (.tripPath k c)

/-- MISMATCH_TIMER_EXPIRY (R132); with the timer stopped or started anew nothing happens. -/
def execMismatchTimerExpiry (stage : Stage) (chan : Chan) (s : State) : Host.Outcome State Fault Refusal :=
  .next (if ended (s.channel stage chan).mismatch then (s.expireMismatch stage chan).transmit else s)

end Sys2Proof.Machine
end

