-- ==== Sys2Proof/Machine/TripRequests.lean ====
section
/-! DEFINITION. The requests of the trip unit: TRIP-RESET (R139, R140, R142), READ-FAULTS (R146), CLEAR-FAULTS
(R147). -/

namespace Sys2Proof.Machine

/-! ## TRIP-RESET (R139, R140, R142) -/

/-- Whether an active entry is a condition whose stage is k or lower (R139, check 3). -/
def Cause.blocks (k : Stage) (c : Cause) : Bool :=
  c.isCondition && (match c.stage with
    | some top => decide (stageCode top ≤ stageCode k)
    | none => false)

/-- The case of the recover flag (R139): k is 3, the flag is set, and every active condition is a LIMIT. -/
def State.recoverCase (s : State) (k : Stage) (recover : Bool) : Bool :=
  decide (k = .s3) && recover && s.trip.active.all fun c => !c.isCondition || c.isLimit

/-- Whether a stage above k is latched (R139, check 2). -/
def State.higherLatched (s : State) : Stage → Bool
  | .s1 => s.latched .s2 || s.latched .s3
  | .s2 => s.latched .s3
  | .s3 => false

/-- The checks of R139 in their order; `none` when the request passes them all. -/
def State.resetRefusal (s : State) (k : Stage) (recover : Bool) : Option Result :=
  if !s.bothStationary then some .moving
  else if s.higherLatched k then some .higherStage
  else if s.trip.active.any (Cause.blocks k) && !s.recoverCase k recover then some .causePresent
  else if decide (k ≠ .s1) && decide (s.proof.readiness ≠ .proven) then some .notProven
  else if decide (k = .s3) && !s.inputs.permissive then some .noPermissive
  else none

/-- Stages k down to 1. -/
def stagesDown : Stage → List Stage
  | .s1 => [.s1]
  | .s2 => [.s2, .s1]
  | .s3 => [.s3, .s2, .s1]

/-- Stages k down to 1 become CLEAR, their channels energised and compared (R140). -/
def State.unlatch (s : State) (k : Stage) : State := (stagesDown k).foldl (fun x j => x.setLatch j .clear) s

/-- An offending side at the entry to recovery: beyond a limit at the latest drum sample, with the outward sense last
handed for it and its payout (R125). -/
def State.offenceOf (s : State) (d : Side) : Option Offence :=
  (s.env.limit.get d).beyond.map fun e => ⟨(s.wind.outward.get d).getD (outwardOf e), s.payout d⟩

/-- The entry to recovery (R125, R142). -/
def State.enterRecovery (s : State) : State :=
  s.setWind { s.wind with recovery := some ⟨s.offenceOf .one, s.offenceOf .two⟩ }

/-- The wind controller clears its unintended motion and drum 2 creep flags with the re-take of a trip reset (R140). -/
def State.clearMotionFlags (s : State) : State :=
  s.setWind { s.wind with unintended := ⟨false, false⟩, creepFlag := false }

/-- An accepted TRIP-RESET of a latched stage (R140, R142). -/
def State.resetTrip (s : State) (k : Stage) (recover : Bool) : State :=
  let s1 := s.unlatch k
  let s2 := (s1.report (.tripReset k s1.latches)).markRest.markHold.clearMotionFlags
  if s.recoverCase k recover && s.trip.active.any Cause.isLimit then s2.enterRecovery else s2

/-- The recover flag a byte carries: 0 clear, 1 set (R164). -/
def recoverFlag : Nat → Option Bool
  | 0 => some false
  | 1 => some true
  | _ => none

/-- TRIP-RESET at its owner (R139, R140): stage and recover flag. -/
def State.ownTripReset (s : State) (body : List Byte) : Owned :=
  match stageOfCode (byteAt body 0), recoverFlag (byteAt body 1) with
  | some k, some recover =>
    match s.resetRefusal k recover with
    | some why => s.deny why
    | none => if s.latched k then (s.resetTrip k recover).done [] else s.done []
  | _, _ => s.deny .range

/-- TRIP-RESET (R139, R140). -/
def execTripReset (tag : Byte) (body : List Byte) (s : State) : Host.Outcome State Fault Refusal :=
  .next (s.request 0x05 tag 2 body fun x => x.ownTripReset body)

/-! ## READ-FAULTS and CLEAR-FAULTS (R146, R147) -/

/-- READ-FAULTS at its owner. -/
def State.ownReadFaults (s : State) : Owned := s.done s.faultsBody

/-- READ-FAULTS (R146). -/
def execReadFaults (tag : Byte) (body : List Byte) (s : State) : Host.Outcome State Fault Refusal :=
  .next (s.request 0x0C tag 0 body State.ownReadFaults)

/-- The codes of the active set, in ascending order. -/
def codesOf (active : List Cause) : List Nat := active.foldl (fun codes c => insertCode c.code codes) []

/-- CLEAR-FAULTS at its owner. -/
def State.ownClearFaults (s : State) : Owned :=
  if s.anyLatched then s.deny .latched
  else (s.setTrip { s.trip with capture := none, causes := codesOf s.trip.active }).done []

/-- CLEAR-FAULTS (R147). -/
def execClearFaults (tag : Byte) (body : List Byte) (s : State) : Host.Outcome State Fault Refusal :=
  .next (s.request 0x0D tag 0 body State.ownClearFaults)

end Sys2Proof.Machine
end

