-- ==== Sys2Proof/Machine/Dispatch.lean ====
section
/-! DEFINITION. Each command of the part and the meaning it has. -/

namespace Sys2Proof.Machine

def exec (i : Instr) (s : State) : Host.Outcome State Fault Refusal :=
  match i with
  | .poll tag body => Sys2Proof.Machine.execPoll tag body s
  | .wind tag body => Sys2Proof.Machine.execWind tag body s
  | .redirect tag body => Sys2Proof.Machine.execRedirect tag body s
  | .abort tag body => Sys2Proof.Machine.execAbort tag body s
  | .tripReset tag body => Sys2Proof.Machine.execTripReset tag body s
  | .proof tag body => Sys2Proof.Machine.execProof tag body s
  | .echoReturn tag body => Sys2Proof.Machine.execEchoReturn tag body s
  | .tableOpen tag body => Sys2Proof.Machine.execTableOpen tag body s
  | .tableRecord tag body => Sys2Proof.Machine.execTableRecord tag body s
  | .tableClose tag body => Sys2Proof.Machine.execTableClose tag body s
  | .readTable tag body => Sys2Proof.Machine.execReadTable tag body s
  | .readFaults tag body => Sys2Proof.Machine.execReadFaults tag body s
  | .clearFaults tag body => Sys2Proof.Machine.execClearFaults tag body s
  | .readHistory tag body => Sys2Proof.Machine.execReadHistory tag body s
  | .restart tag body => Sys2Proof.Machine.execRestart tag body s
  | .unknownRequest code tag body => Sys2Proof.Machine.execUnknownRequest code tag body s
  | .linkFrameDiscarded why => Sys2Proof.Machine.execLinkFrameDiscarded why s
  | .linkByteGap next => Sys2Proof.Machine.execLinkByteGap next s
  | .transmitFrameEnd => Sys2Proof.Machine.execTransmitFrameEnd s
  | .quietPeriodExpiry => Sys2Proof.Machine.execQuietPeriodExpiry s
  | .linkSilenceExpiry => Sys2Proof.Machine.execLinkSilenceExpiry s
  | .loadSample frame => Sys2Proof.Machine.execLoadSample frame s
  | .loadFrameDiscarded why => Sys2Proof.Machine.execLoadFrameDiscarded why s
  | .loadByteGap next => Sys2Proof.Machine.execLoadByteGap next s
  | .frameTimerExpiry => Sys2Proof.Machine.execFrameTimerExpiry s
  | .holdTimerExpiry side rope => Sys2Proof.Machine.execHoldTimerExpiry side rope s
  | .encoderStep drum enc forward => Sys2Proof.Machine.execEncoderStep drum enc forward s
  | .quadratureError drum enc => Sys2Proof.Machine.execQuadratureError drum enc s
  | .lineMonitorInactive drum enc => Sys2Proof.Machine.execLineMonitorInactive drum enc s
  | .drumSample => Sys2Proof.Machine.execDrumSample s
  | .markerEdge line => Sys2Proof.Machine.execMarkerEdge line s
  | .inputLevelChange change => Sys2Proof.Machine.execInputLevelChange change s
  | .clutchSettledChange => Sys2Proof.Machine.execClutchSettledChange s
  | .drum2HeldSettledChange => Sys2Proof.Machine.execDrum2HeldSettledChange s
  | .resetPermissiveSettledChange => Sys2Proof.Machine.execResetPermissiveSettledChange s
  | .readbackChange stage chan level => Sys2Proof.Machine.execReadbackChange stage chan level s
  | .mismatchTimerExpiry stage chan => Sys2Proof.Machine.execMismatchTimerExpiry stage chan s
  | .tableStoreWriteEnd readBack => Sys2Proof.Machine.execTableStoreWriteEnd readBack s
  | .parkWriteEnd agrees => Sys2Proof.Machine.execParkWriteEnd agrees s
  | .startTimerExpiry => Sys2Proof.Machine.execStartTimerExpiry s
  | .dwellTimerExpiry => Sys2Proof.Machine.execDwellTimerExpiry s
  | .echoTimerExpiry => Sys2Proof.Machine.execEchoTimerExpiry s
  | .testTimerExpiry => Sys2Proof.Machine.execTestTimerExpiry s
  | .powerOn pins => Sys2Proof.Machine.execPowerOn pins s

end Sys2Proof.Machine
end

