-- ==== Sys2Proof/Machine/Ticks.lean ====
section
/-! DEFINITION. One millisecond of the part's own time (log entries 1 to 4): the time stamp (R175), the running timers,
the counts of milliseconds of the open wind (R179) and of the degrade state (R97), and the commands that fall due: the
expiries of the timers that reach their end, and every second millisecond the drum sample. -/

namespace Sys2Proof.Machine

/-- A timer after one more millisecond; one that has reached its end waits there for its command. -/
def runTimer : Timer → Timer
  | none => none
  | some n => some (n - 1)

/-- The command of a timer that reaches its end in this millisecond. -/
def dueAt (t : Timer) (c : Instr) : List Instr := if t = some 1 then [c] else []

/-- The hold timer of a load channel. -/
def State.holdTimer (s : State) (d : Side) (r : Twin) : Timer := (s.loadChan d r).hold

/-- The mismatch timer of an output channel. -/
def State.mismatchTimer (s : State) (k : Stage) (c : Chan) : Timer := (s.channel k c).mismatch

/-- The start timer of the open wind. -/
def State.startTimer (s : State) : Timer := s.wind.current.bind OpenWind.start

/-- The dwell timer of the open wind. -/
def State.dwellTimer (s : State) : Timer := s.wind.current.bind OpenWind.dwell

/-- The echo timer of proof step 6. -/
def State.echoTimer (s : State) : Timer :=
  match s.proof.readiness with
  | .proving (.echo _ _ _ t) => t
  | _ => none

/-- The test timer of proof step 5. -/
def State.testTimer (s : State) : Timer :=
  match s.proof.readiness with
  | .proving (.tripPaths _ _ _ t) => t
  | _ => none

/-- The expiries that fall due in this millisecond, in a fixed order (log entry 4). -/
def State.expiriesDue (s : State) : List Instr :=
  dueAt s.link.quiet .quietPeriodExpiry ++ dueAt s.link.silence .linkSilenceExpiry ++
    dueAt s.inputs.clutchTimer .clutchSettledChange ++ dueAt s.inputs.heldTimer .drum2HeldSettledChange ++
    dueAt s.inputs.permissiveTimer .resetPermissiveSettledChange ++ dueAt s.rope.frame .frameTimerExpiry ++
    dueAt (s.holdTimer .one .a) (.holdTimerExpiry .one .a) ++ dueAt (s.holdTimer .one .b) (.holdTimerExpiry .one .b) ++
    dueAt (s.holdTimer .two .a) (.holdTimerExpiry .two .a) ++ dueAt (s.holdTimer .two .b) (.holdTimerExpiry .two .b) ++
    dueAt (s.mismatchTimer .s1 .x) (.mismatchTimerExpiry .s1 .x) ++
    dueAt (s.mismatchTimer .s1 .y) (.mismatchTimerExpiry .s1 .y) ++
    dueAt (s.mismatchTimer .s2 .x) (.mismatchTimerExpiry .s2 .x) ++
    dueAt (s.mismatchTimer .s2 .y) (.mismatchTimerExpiry .s2 .y) ++
    dueAt (s.mismatchTimer .s3 .x) (.mismatchTimerExpiry .s3 .x) ++
    dueAt (s.mismatchTimer .s3 .y) (.mismatchTimerExpiry .s3 .y) ++
    dueAt s.startTimer .startTimerExpiry ++ dueAt s.dwellTimer .dwellTimerExpiry ++ dueAt s.echoTimer .echoTimerExpiry ++
    dueAt s.testTimer .testTimerExpiry

/-- The drum sample of every second millisecond; the first falls 2 ms after the reset (log entry 3). -/
def State.sampleDue (s : State) : List Instr := if s.clock.oddMs then [.drumSample] else []

/-- A load channel after one more millisecond. -/
def LoadChannel.run (x : LoadChannel) : LoadChannel := { x with hold := runTimer x.hold }

/-- A side of the rope load unit after one more millisecond. -/
def RopeSide.run (p : RopeSide) : RopeSide := { p with chan := ⟨p.chan.a.run, p.chan.b.run⟩ }

/-- A stage's channels after one more millisecond. -/
def runChannels (p : PerChan OutChannel) : PerChan OutChannel :=
  ⟨{ p.x with mismatch := runTimer p.x.mismatch }, { p.y with mismatch := runTimer p.y.mismatch }⟩

/-- The open wind after one more millisecond: its timers and its duration (R179). -/
def OpenWind.run (w : OpenWind) : OpenWind :=
  { w with start := runTimer w.start, dwell := runTimer w.dwell, duration := satSucc Config.maxDuration w.duration }

/-- The step of a proof after one more millisecond. -/
def ProofStep.run : ProofStep → ProofStep
  | .tripPaths k c e t => .tripPaths k c e (runTimer t)
  | .echo p made outstanding t => .echo p made outstanding (runTimer t)
  | step => step

/-- Readiness after one more millisecond. -/
def Readiness.run : Readiness → Readiness
  | .proving step => .proving step.run
  | r => r

/-- The degrade state after one more millisecond. -/
def Degrade.run (g : Degrade) : Degrade := { g with elapsed := g.elapsed + 1 }

/-- Every block after one more millisecond; the queue is left as it is. -/
def State.runTimers (s : State) : State :=
  { s with
    clock := ⟨s.clock.stamp + 1, !s.clock.oddMs⟩
    link := { s.link with quiet := runTimer s.link.quiet, silence := runTimer s.link.silence }
    inputs := { s.inputs with
      clutchTimer := runTimer s.inputs.clutchTimer
      heldTimer := runTimer s.inputs.heldTimer
      permissiveTimer := runTimer s.inputs.permissiveTimer }
    rope := { s.rope with frame := runTimer s.rope.frame, side := ⟨s.rope.side.one.run, s.rope.side.two.run⟩ }
    env := { s.env with degrade := s.env.degrade.map Degrade.run }
    wind := { s.wind with current := s.wind.current.map OpenWind.run }
    trip := { s.trip with
      chan := ⟨runChannels s.trip.chan.s1, runChannels s.trip.chan.s2, runChannels s.trip.chan.s3⟩ }
    proof := { s.proof with readiness := s.proof.readiness.run } }

/-- One millisecond with no command waiting: time passes, and what falls due joins the queue. -/
def State.tick (s : State) : State :=
  s.runTimers.setPending (s.pending ++ (s.expiriesDue ++ s.sampleDue))

end Sys2Proof.Machine
end

