-- ==== Sys2Proof/Safety.lean ====
section
/-! DEFINITION. What the claims speak of: that a command answers a next state, what is on its way to the host, and the
invariants of a sound state. -/

namespace Sys2Proof.Machine

/-! ## What a command answers -/

/-- A command is taken whole and leaves a next state of which `P` holds. -/
def Answers (c : Instr) (s : State) (P : State → Prop) : Prop := ∃ t, exec c s = .next t ∧ P t

/-! ## What is on its way to the host (R167, R168, R173) -/

/-- The reply being transmitted, if the frame being sent is one. -/
def Frame.replies : Option Frame → List Reply
  | some (.reply r) => [r]
  | _ => []

/-- The report being transmitted, if the frame being sent is one. -/
def Frame.reports : Option Frame → List Report
  | some (.report r) => [r]
  | _ => []

/-- The replies on their way to the host: the one being transmitted, then those that wait, oldest first. -/
def State.repliesOut (s : State) : List Reply := Frame.replies s.link.tx ++ s.link.replies

/-- The reports on their way to the host: the one being transmitted, then those in the queue. -/
def State.reportsOut (s : State) : List Report := Frame.reports s.link.tx ++ s.link.reports

/-- A report of the present moment (R175). -/
def State.stamped (s : State) (body : ReportBody) : Report := ⟨body, s.clock.stamp⟩

/-- Reports with these bodies have been created, in this order, from `s` to `t`: those that find room join the queue with
the time stamp, the others are dropped, and the reports-lost flag is set by a drop (R173, R174, R175). -/
def State.Reported (s t : State) (bodies : List ReportBody) : Prop :=
  t.reportsOut = s.reportsOut ++ (bodies.take (Config.maxReports - s.link.reports.length)).map s.stamped ∧
    t.link.lost =
      (s.link.lost || decide (0 < bodies.length ∧ Config.maxReports < s.link.reports.length + bodies.length))

/-- A report with this body, created at the present moment, is on its way to the host, or has found the queue full and set
the reports-lost flag (R173, R174, R175). -/
def State.Sends (s t : State) (body : ReportBody) : Prop :=
  s.stamped body ∈ t.reportsOut ∨ (t.link.lost = true ∧ Config.maxReports ≤ t.link.reports.length + 1)

/-- Whether a frame that arrives now is dispatched: outside the quiet period and with room in the reply list (R161,
R167). -/
def State.listening (s : State) : Prop := s.link.quiet = none ∧ s.link.replies.length < Config.maxReplies

/-- Whether a request of the right length that arrives now reaches its owner: no restart is due (R160, R164). -/
def State.ready (s : State) : Prop := s.listening ∧ s.link.restartDue = false

/-- What the arrival of every valid frame and its reply make of the link port (R144, R162, R163, R167): the receiver
hunts, the silence timer is restarted, the status is LIVE, and the reply is on its way behind the others. -/
def State.Answered (s t : State) (r : Reply) : Prop :=
  t.repliesOut = s.repliesOut ++ [r] ∧ t.link.rx = .hunting ∧ t.link.silence = some Config.silenceMs ∧
    t.link.status = .live ∧ t.link.quiet = s.link.quiet ∧ t.link.resetKind = s.link.resetKind

/-- The report of the load that is abandoned when a request other than the three of R12 arrives; none with no load
open. -/
def State.abandonReports (s : State) : List ReportBody :=
  match s.link.load with
  | none => []
  | some l => [.table .abandoned s.table.staged.length l.declared l.check]

/-- The staged records after the arrival of such a request (R12). -/
def State.stagedLeft (s : State) : List RawRecord :=
  match s.link.load with
  | none => s.table.staged
  | some _ => []

/-- A request other than POLL, TABLE-RECORD and TABLE-CLOSE has been answered: its reply, the report of an abandoned load,
and then the request's own reports. -/
def State.Served (s t : State) (r : Reply) (bodies : List ReportBody) : Prop :=
  s.Answered t r ∧ s.Reported t (s.abandonReports ++ bodies)

/-- The load sequence state and the restart that is due, after a request that touches neither (R12, R160). -/
def State.PortKept (s t : State) : Prop := t.link.load = none ∧ t.link.restartDue = s.link.restartDue

/-- A request has been answered with a result and no body, and nothing else has happened but the abandonment of an open
load (R12, R164). -/
def State.OnlyReplied (s t : State) (r : Reply) : Prop :=
  s.Served t r [] ∧ s.PortKept t ∧ t = { s with link := t.link, table := { s.table with staged := s.stagedLeft } }

/-- A POLL or TABLE-CLOSE has been answered with a result and no body, and nothing else has happened: an open load stands
as it stood (R12, R164). -/
def State.RepliedWithLoad (s t : State) (r : Reply) : Prop :=
  s.Answered t r ∧ s.Reported t [] ∧ t.link.load = s.link.load ∧ t.link.restartDue = s.link.restartDue ∧
    t = { s with link := t.link }

/-- An event that is no frame of the host link has left the link port as it was but for these reports and for the
transmitter's choice. -/
def State.Told (s t : State) (bodies : List ReportBody) : Prop :=
  s.Reported t bodies ∧ t.repliesOut = s.repliesOut ∧ t.link.rx = s.link.rx ∧ t.link.load = s.link.load ∧
    t.link.silence = s.link.silence ∧ t.link.status = s.link.status ∧ t.link.quiet = s.link.quiet ∧
    t.link.resetKind = s.link.resetKind ∧ t.link.restartDue = s.link.restartDue

/-- The length of the body a request carries, by its code; none for TABLE-RECORD and for a code that names no request
(R165). -/
def fixedLength : Nat → Option Nat
  | 0x01 => some 0
  | 0x02 => some 3
  | 0x03 => some 1
  | 0x04 => some 0
  | 0x05 => some 2
  | 0x06 => some 0
  | 0x07 => some 2
  | 0x08 => some 3
  | 0x0A => some 0
  | 0x0B => some 1
  | 0x0C => some 0
  | 0x0D => some 0
  | 0x0E => some 1
  | 0x0F => some 0
  | _ => none

/-- The refusal of the first check that fails, of a list of checks in their order, each with whether it fails. -/
def firstRefusal : List (Bool × Result) → Option Result
  | [] => none
  | (fails, why) :: rest => if fails then some why else firstRefusal rest

/-- A receiver of the host link taking bytes in turn: where it stands after them and the frames it has completed. -/
def linkRxBytes (rx : RxPhase) : List Byte → RxPhase × List (List Byte)
  | [] => (rx, [])
  | b :: rest =>
    let first := linkRxByte rx b
    let more := linkRxBytes first.1 rest
    (more.1, first.2.toList ++ more.2)

/-! ## Within a drum sample

DRUM_SAMPLE runs the blocks one after the other, each on what the ones before it have formed (R34, R86, R109, R153). The
claims about one block speak of the state it finds. -/

/-- A drum sample as the envelope computer finds it: the drum unit and the depth tracker have done their work. -/
def State.atEnvelope (s : State) : State := s.sampleDrums.sampleDepth

/-- A drum sample as the wind controller finds it: the envelope computer has done its work too. -/
def State.atWind (s : State) : State := s.atEnvelope.sampleEnvelope

/-- A drum sample as the proof unit finds it: the wind controller has done its work too. -/
def State.atProof (s : State) : State := s.atWind.sampleWind

/-! ## Missed markers (R75, R76) -/

/-- Whether a side that stands at depth `D` has passed a marker in a direction, by more than the capture band. -/
def State.passes (s : State) (dir : Dir) (D : Int) (e : Marker) : Bool :=
  match dir with
  | .descending => decide (e.desc + s.sup.capture < D)
  | .ascending => decide (D < e.asc - s.sup.capture)

/-- The markers of a side that it has passed at depth `D`, one after the other from the expected one on: each is judged
after the one before it has moved the next expected marker beyond it. At most `n` of them. -/
def State.passedFrom (s : State) (d : Side) (dir : Dir) (D : Int) : Nat → Option Nat → List Marker
  | 0, _ => []
  | n + 1, next =>
    match next.bind fun id => (s.markersOf d).find? fun m => m.id = id with
    | none => []
    | some e =>
      if s.passes dir D e then e :: s.passedFrom d dir D n (s.expectBeyond d dir (e.depth dir)) else []

/-- What one rejection makes of the lock and the reject count of a side in LOCKED or SUSPECT: SUSPECT with the count one
higher, or LOST at the third of SUSPECT (R72, R73). -/
def charged : Lock × Nat → Lock × Nat
  | (lock, n) => if lock = .suspect ∧ 2 ≤ n then (.lost, 0) else (.suspect, n + 1)

/-! ## The open wind and its end -/

/-- A wind open in `s` is related to the wind open in `t`, if there is one; and there is one unless a stage has newly
latched. -/
def State.WindRuns (s t : State) (P : OpenWind → OpenWind → Prop) : Prop :=
  ∀ w, s.wind.current = some w →
    (t.latches = s.latches → t.wind.current.isSome = true) ∧ ∀ v, t.wind.current = some v → P w v

/-- Recovery has ended from `s` to `t` (R143): each LIMIT that still stands is raised anew at stage 3, its entry standing
alone, and these TRIP reports are created; with none standing the trip unit is as it was. -/
def State.LimitsRaisedAnew (s t : State) (reports : List ReportBody) : Prop :=
  let standing := s.trip.active.filter Cause.isLimit
  (standing = [] → reports = [] ∧ t.trip = s.trip) ∧
  (standing ≠ [] →
    4 ∈ t.trip.causes ∧ t.latches = ⟨true, true, true⟩ ∧ t.trip.active.filter Cause.isLimit = standing ∧
    (∀ k, s.latched k = true → t.trip.latch.get k = s.trip.latch.get k) ∧
    ∃ c ∈ standing, (∀ k, s.latched k = false → t.trip.latch.get k = .latched c) ∧
      reports = ([Stage.s3, .s2, .s1].filter fun k => !s.latched k).map fun k => .tripLatch k c ⟨true, true, true⟩)

/-- What follows the WIND report of a closure that no latch brought about: nothing, unless the closure ends recovery (R126,
R143). -/
def State.EndsRecovery (s t : State) (reports : List ReportBody) : Prop :=
  (t.wind.recovery = s.wind.recovery → reports = [] ∧ t.trip = s.trip) ∧
    (t.wind.recovery ≠ s.wind.recovery → s.LimitsRaisedAnew t reports)

/-- A park write has been requested with the contents that stood in `s`: it begins and the record is invalid, or, with a
write in flight, the contents become the pending ones (R18). -/
def State.ParkRequested (s t : State) : Prop :=
  t.table = match s.table.parkWrite with
    | none => { s.table with parkWrite := some s.parkContents, park := none }
    | some _ => { s.table with parkPending := some s.parkContents }

/-- The wind `w` has closed with an outcome (R117): its record heads the history ring, the rest payouts are marked, the
unintended motion flags are clear, and the envelope's degrade state and overspeed counters are ended. The closure of a
recovery wind ends recovery when every offending side stands inside its limits by 500 mm (R126). -/
def State.Closes (s t : State) (w : OpenWind) (o : WindOutcome) : Prop :=
  t.wind = { s.wind with
    current := none
    history := (w.complete o :: s.wind.history).take 32
    unintended := ⟨false, false⟩
    lastLanded := s.landedAfter w o
    recovery := if w.inRecovery && s.wind.recovery.all s.offendersInside then none else s.wind.recovery } ∧
  t.drums = { s.drums with
    drum := ⟨{ s.drums.drum.one with restDue := true }, { s.drums.drum.two with restDue := true }⟩ } ∧
  t.env = { s.env with degrade := none, overCount := ⟨0, 0, 0⟩ } ∧
  t.rope = { s.rope with loadLost := false }

/-- The wind `w` has entered STOPPING for a reason (R119): its target lies the stopping distance beyond the depth of the
lead side, in the lead side's direction of travel, or in the intended direction with the lead drum stationary. -/
def State.Stops (s t : State) (w : OpenWind) (why : StopCause) : Prop :=
  let v := s.speed w.lead
  let dir := if mag v < 50 then w.dir else if 0 < v then .descending else .ascending
  let a := (s.mode w.mode).aRet
  t.wind = { s.wind with
    current := some { w with
      phase := .stopping
      stop := some why
      dir := dir
      target := (s.depth.get w.lead).D + dir.sign * ceilDiv (v * v) (2 * a) } } ∧
  t.rope = { s.rope with loadLost := false }

/-! ## Invariants -/

/-- Whenever a stage is latched, every stage below it is latched (R131). -/
def State.LatchesOrdered (s : State) : Prop :=
  (s.latched .s3 = true → s.latched .s2 = true) ∧ (s.latched .s2 = true → s.latched .s1 = true)

/-- Outside step 5 of the proof both channels of a stage are commanded energised exactly while it is CLEAR (R131). -/
def State.ChannelsFollow (s : State) : Prop :=
  s.inTripTest = false → ∀ k c, (s.channel k c).commanded = !s.latched k

/-- While any stage is latched, no wind is in ACCEPTED, RUNNING or CREEP (R121). -/
def State.WindsClear (s : State) : Prop :=
  s.anyLatched = true → ∀ w, s.wind.current = some w → w.phase = .stopping

/-- While a load is open no wind is open and no proof runs (R10, R12). -/
def State.LoadAlone (s : State) : Prop := s.link.load ≠ none → s.wind.current = none ∧ s.isProving = false

/-- While a proof runs every stage is latched and no wind is open (R145, R151). -/
def State.ProofLatched (s : State) : Prop := s.isProving = true → s.latched .s3 = true ∧ s.wind.current = none

/-- Readiness is NO TABLE exactly while no table is active (R150). -/
def State.ReadinessFits (s : State) : Prop := s.proof.readiness = .noTable ↔ s.hasTable = false

/-- An active condition other than LIMIT holds stage 3 latched: no reset passes over it (R133, R139). -/
def State.ConditionsHold (s : State) : Prop :=
  ∀ c ∈ s.trip.active, c.isCondition = true → c.isLimit = false → s.latched .s3 = true

/-- The furthest point of a wind lies not behind its start payout before STOPPING, and in ACCEPTED less than 100 mm beyond
it: at 100 mm the wind has left ACCEPTED (R111, R112, R118). -/
def State.FurthestFits (s : State) : Prop :=
  ∀ w, s.wind.current = some w →
    (w.phase ≠ .stopping → 0 ≤ (w.furthest - w.startPayout) * w.dir.sign) ∧
    (w.phase = .accepted → (w.furthest - w.startPayout) * w.dir.sign < 100)

/-- The trip unit, the wind controller, the proof unit and an open load agree. -/
structure State.Coherent (s : State) : Prop where
  latches : s.LatchesOrdered
  channels : s.ChannelsFollow
  winds : s.WindsClear
  load : s.LoadAlone
  proof : s.ProofLatched
  readiness : s.ReadinessFits
  conditions : s.ConditionsHold

/-- The reply list, the report queue and the history ring keep to their capacities (R128, R167, R173). -/
def State.WithinCapacity (s : State) : Prop :=
  s.link.replies.length ≤ Config.maxReplies ∧ s.link.reports.length ≤ Config.maxReports ∧
    s.wind.history.length ≤ Config.maxHistory

/-- Outside the quiet period the transmitter is idle only when nothing waits (R168). -/
def State.TransmitterServes (s : State) : Prop :=
  s.link.quiet = none → s.link.tx = none → s.link.replies = [] ∧ s.link.reports = []

/-- A track within its bounds: K within ± the correction authority and the search counter within 63 (R61), the reject
count at most 2 in SUSPECT and 0 in every other state (R68 to R73), and the next expected marker absent unless the side is
LOCKED or SUSPECT (R69, R73, R83). -/
def Track.Bounded (t : Track) (authority : Int) : Prop :=
  -authority ≤ t.K ∧ t.K ≤ authority ∧ t.searches ≤ 63 ∧ t.rejects ≤ 2 ∧ (t.lock ≠ .suspect → t.rejects = 0) ∧
    (t.lock.referenced = false → t.next = none)

/-- Both sides' tracks are bounded, and the correction authority is at most 5,000 mm (R3, R61). -/
def State.TracksBounded (s : State) : Prop :=
  0 ≤ s.authority ∧ s.authority ≤ Config.maxK ∧ s.depth.one.Bounded s.authority ∧ s.depth.two.Bounded s.authority

/-- A drum's state fits the health of its encoders (R23, R26), its history holds at most nine entries, and it is empty
in LOST (R31, R32). -/
def Drum.Fits (x : Drum) : Prop :=
  (x.state = .lost ↔ x.enc.a.failed = true ∧ x.enc.b.failed = true) ∧
    (x.state = .singleB ↔ x.enc.a.failed = true ∧ x.enc.b.failed = false) ∧
    (x.state = .singleA ↔ x.enc.a.failed = false ∧ x.enc.b.failed = true) ∧
    x.history.length ≤ 9 ∧ (x.state = .lost → x.history = [])

/-- Both drums fit their encoders. -/
def State.DrumsFit (s : State) : Prop := s.drums.drum.one.Fits ∧ s.drums.drum.two.Fits

end Sys2Proof.Machine
end

