-- ==== Sys2Proof/Certificates/Slice0/Obligations.lean ====
section
/-! DEFINITION. The statements for the provers. -/

open Sys2Proof Sys2Proof.Machine

/-! ## The machine as a whole -/

/-- A step takes the command at the front of the queue and runs it on the state with the queue's rest. -/
def Obligations.StepTakesFrontCommand : Prop :=
  ∀ (c : Instr) (rest : List Instr) (s : State),
    s.pending = c :: rest → step s = exec c { s with pending := rest }

/-- Every command is taken whole: it answers a next state, and it leaves the queue of waiting commands alone. -/
def Obligations.EveryCommandLeavesTheQueue : Prop :=
  ∀ (c : Instr) (s : State), Answers c s fun t => t.pending = s.pending

/-- The levels of the wired inputs change only at the events of those inputs and at power-on, and the time stamp changes
by a command only at the two resets. A count of an encoder moves only at a step of that encoder and at the two resets, and
the active table changes only at TABLE-CLOSE and at power-on (R15, R19, R21, R35, R37, R39, R40, R132, R175). -/
def Obligations.OnlyTheirEventsMovePinsClockCountsAndTable : Prop :=
  ∀ (c : Instr) (s t : State), exec c s = .next t →
    (t.pins ≠ s.pins →
      (∃ x, c = .inputLevelChange x) ∨ (∃ n, c = .markerEdge n) ∨ (∃ d e, c = .lineMonitorInactive d e) ∨
        (∃ k h l, c = .readbackChange k h l) ∨ ∃ p, c = .powerOn p) ∧
    (t.clock ≠ s.clock → c = .transmitFrameEnd ∨ ∃ p, c = .powerOn p) ∧
    (∀ d e, ((t.drums.drum.get d).enc.get e).count ≠ ((s.drums.drum.get d).enc.get e).count →
      (∃ f, c = .encoderStep d e f) ∨ c = .transmitFrameEnd ∨ ∃ p, c = .powerOn p) ∧
    (t.table.active ≠ s.table.active → (∃ tag body, c = .tableClose tag body) ∨ ∃ p, c = .powerOn p)

/-! ## The arrival of a frame -/

/-- A discarded frame gets no reply, restarts no timer, abandons no table load and reaches no block: the receiver hunts,
and that is all. A request that arrives in the quiet period, or finds the reply list full, is such a frame. A byte gap
discards the partial frame and the receiver hunts, beginning with the byte that ended the gap: a sync byte begins a new
frame, any other is dropped, and in the quiet period every byte is. On the load sample line likewise, and a load frame that
fails its check changes no channel, no timer and no cause (section 9.1, R41, R161, R162, R163, R167). -/
def Obligations.DiscardedFramesLeaveNoTrace : Prop :=
  (∀ (why : FrameDiscard) (s : State),
    exec (.linkFrameDiscarded why) s = .next { s with link := { s.link with rx := .hunting } }) ∧
  (∀ (code tag : Byte) (body : List Byte) (s : State),
    s.link.quiet ≠ none ∨ Config.maxReplies ≤ s.link.replies.length →
      exec (requestOf code tag body) s = .next { s with link := { s.link with rx := .hunting } }) ∧
  (∀ (next : Byte) (s : State), s.link.quiet = none →
    exec (.linkByteGap next) s =
      .next { s with link := { s.link with rx := if next = 0xA5 then .takingLength else .hunting } }) ∧
  (∀ (next : Byte) (s : State), s.link.quiet ≠ none →
    exec (.linkByteGap next) s = .next { s with link := { s.link with rx := .hunting } }) ∧
  (∀ (next : Byte) (s : State),
    exec (.loadByteGap next) s =
      .next { s with rope := { s.rope with rx := if next = 0x3C then .assembling 11 [next] else .hunting } }) ∧
  ∀ (why : LoadDiscard) (s : State),
    exec (.loadFrameDiscarded why) s = .next { s with rope := { s.rope with rx := .hunting } }

/-- Every dispatched request is answered by one reply with its code and tag; its arrival restarts the silence timer and
sets the link LIVE. A refusal other than INVALID carries no body (sections 9.1 to 9.3). -/
def Obligations.EveryDispatchedRequestGetsOneReply : Prop :=
  ∀ (code tag : Byte) (body : List Byte) (s : State), s.listening →
    ∃ result reply, Answers (requestOf code tag body) s (fun t => s.Answered t ⟨code, tag, result, reply⟩) ∧
      (result ≠ .done → result ≠ .invalid → reply = [])

/-- What a valid frame meets before its owner sees it (R164). A code that names no request is refused with UNKNOWN, whatever
its body, and an open load is abandoned; the reply carries the received code with its most significant bit set (R166). A
body of another length than the request carries is refused with LENGTH; an open load is abandoned, but a POLL or TABLE-CLOSE
leaves it as it stood. Between the acceptance of a RESTART and its restart proper a request of the right length is refused
with BUSY and does not reach its owner (R160). That a POLL so refused clears no reports-lost flag is read from R174 by the
model (log entry 35). -/
def Obligations.RequestsAreScreenedBeforeTheirOwner : Prop :=
  (∀ (code tag : Byte) (body : List Byte) (s : State), s.listening → isRequestCode code = false →
    (Answers (.unknownRequest code tag body) s fun t => s.OnlyReplied t ⟨code, tag, .unknown, []⟩) ∧
    Reply.payload ⟨code, tag, .unknown, []⟩ = [code ||| 0x80#8, tag, 1]) ∧
  (∀ (code tag : Byte) (body : List Byte) (n : Nat) (s : State),
    s.listening → fixedLength code.toNat = some n → body.length ≠ n →
      (code.toNat ∉ [0x01, 0x0A] →
        Answers (requestOf code tag body) s fun t => s.OnlyReplied t ⟨code, tag, .length, []⟩) ∧
      (code.toNat ∈ [0x01, 0x0A] →
        Answers (requestOf code tag body) s fun t => s.RepliedWithLoad t ⟨code, tag, .length, []⟩)) ∧
  ∀ (code tag : Byte) (body : List Byte) (s : State),
    s.listening → s.link.restartDue = true →
    fixedLength code.toNat = some body.length ∨ (code.toNat = 0x09 ∧ 2 ≤ body.length) →
      (code.toNat ∉ [0x01, 0x09, 0x0A] →
        Answers (requestOf code tag body) s fun t => s.OnlyReplied t ⟨code, tag, .busy, []⟩) ∧
      (code.toNat ∈ [0x01, 0x09, 0x0A] →
        Answers (requestOf code tag body) s fun t => s.RepliedWithLoad t ⟨code, tag, .busy, []⟩)

/-- While a load is open, any request but POLL, TABLE-RECORD and TABLE-CLOSE first abandons it: the staged table is
emptied, the load closed and the ABANDONED report queued with the number of records staged and the declared count; the
request is then handled as though no load had been open (R12). -/
def Obligations.OtherRequestsAbandonTheLoad : Prop :=
  ∀ (code tag : Byte) (body : List Byte) (s : State) (l : TableLoad),
    s.listening → s.link.load = some l → code.toNat ∉ [0x01, 0x09, 0x0A] →
      exec (requestOf code tag body) s = exec (requestOf code tag body)
        ({ s with
            table := { s.table with staged := [] }
            link := { s.link with load := none } }.report
          (.table .abandoned s.table.staged.length l.declared l.check))


/-! ## The receivers and the transmitter -/

/-- At the end of a frame that is neither an ECHO-PROBE nor the DONE of an accepted RESTART, the transmitter takes the
oldest reply, otherwise the report at the head of the queue, otherwise nothing; nothing else changes. An ECHO-PROBE that
is still awaited becomes outstanding and the echo timer is restarted at 1 s; then the transmitter chooses likewise. That a
probe is known as the awaited one by its pattern and its time stamp together is the model's choice (log entry 31). An idle
transmitter has no frame to end (R157, R168). -/
def Obligations.FrameEndsChooseTheNextFrame : Prop :=
  (∀ s : State, s.link.tx = none → exec .transmitFrameEnd s = .next s) ∧
  ∀ (s : State) (f : Frame), s.link.tx = some f → s.link.quiet = none →
    (∀ r, f = .reply r → r.code = 0x0F → r.result = .done → s.link.restartDue = false) →
    Answers .transmitFrameEnd s fun t =>
      t.link = { s.link with
        tx := match s.link.replies, s.link.reports with
          | r :: _, _ => some (.reply r)
          | [], r :: _ => some (.report r)
          | [], [] => none
        replies := s.link.replies.tail
        reports := if s.link.replies = [] then s.link.reports.tail else s.link.reports } ∧
      t.proof = (match f, s.proof.readiness with
        | .report ⟨.echoProbe pattern, stamp⟩, .proving (.echo awaited made outstanding timer) =>
          if pattern = awaited ∧ stamp = made then
            { s.proof with readiness := .proving (.echo awaited made true (some 1000)) }
          else { s.proof with readiness := .proving (.echo awaited made outstanding timer) }
        | _, _ => s.proof) ∧
      t = { s with link := t.link, proof := t.proof }

/-- When the quiet period has run out the RESTARTED report is placed at the head of the queue, ahead of every report
created during the period; a full queue loses its newest report and sets the reports-lost flag. Receiving and
transmission then resume. Before it has run out its expiry does nothing (log entry 2; R161). -/
def Obligations.QuietPeriodEndsWithRestarted : Prop :=
  (∀ s : State, s.link.quiet ≠ some 0 → exec .quietPeriodExpiry s = .next s) ∧
  ∀ s : State, s.link.quiet = some 0 → s.link.tx = none →
    Answers .quietPeriodExpiry s fun t =>
      t.reportsOut =
        ⟨.restarted s.link.resetKind s.proof.readiness.ready s.hasTable, s.clock.stamp⟩ :: s.link.reports.take 15 ∧
      t.repliesOut = s.link.replies ∧
      t.link = { s.link with
        quiet := none
        lost := s.link.lost || decide (16 ≤ s.link.reports.length)
        tx := t.link.tx
        replies := t.link.replies
        reports := t.link.reports } ∧
      t = { s with link := t.link }

/-- At the expiry of the silence timer the link is SILENT and the timer stays stopped. In IDLE and STOPPING nothing is
raised. In RUNNING and CREEP the raise of LINK SILENT latches stage 1, opens both its channels, and takes the wind to
STOPPING; an ACCEPTED wind closes TRIPPED. With the timer restarted by a frame taken first, or stopped, the expiry does
not happen (log entry 2; R121, R134, R144). -/
def Obligations.SilenceTripsOnlyAWindUnderWay : Prop :=
  (∀ s : State, s.link.silence ≠ some 0 → exec .linkSilenceExpiry s = .next s) ∧
  ∀ s : State, s.link.silence = some 0 → s.Coherent →
    Answers .linkSilenceExpiry s fun t =>
      t.link.silence = none ∧ t.link.status = .silent ∧ t.repliesOut = s.repliesOut ∧ t.link.load = s.link.load ∧
      (s.phase = none ∨ s.phase = some .stopping → s.Reported t [] ∧ t = { s with link := t.link }) ∧
      (∀ w, s.wind.current = some w → w.phase ≠ .stopping →
        (w.phase ≠ .accepted ∨ w.inRecovery = false → t.latches = ⟨true, false, false⟩) ∧ t.latched .s1 = true ∧
        t.trip.latch.s1 = .latched .linkSilent ∧ 16 ∈ t.trip.causes ∧
        (t.channel .s1 .x).commanded = false ∧ (t.channel .s1 .y).commanded = false) ∧
      (∀ w, s.wind.current = some w → w.phase = .running ∨ w.phase = .creep →
        s.Reported t [.tripLatch .s1 .linkSilent ⟨true, false, false⟩,
          .wind w.number (some .stopping) none w.destination] ∧
        t.phase = some .stopping ∧ t.wind.current.bind OpenWind.stop = some .trip) ∧
      (∀ w, s.wind.current = some w → w.phase = .accepted → t.phase = none ∧
        (w.inRecovery = false → s.Reported t [.tripLatch .s1 .linkSilent ⟨true, false, false⟩,
          .wind w.number none (some .tripped) w.destination]))

/-! ## The requests of the link port and the reads -/

/-- POLL is answered with the 47 bytes of its layout as the state stands at its arrival. Its flags byte carries the
reports-lost flag, which the arrival clears, and the link status as it stood before. An open load stands as it stood
(R12, R169, R174). -/
def Obligations.PollGathersAndClearsTheLostFlag : Prop :=
  ∀ (tag : Byte) (s : State), s.ready →
    let body := s.pollBody (decide (s.link.status = .silent))
    Answers (.poll tag []) s (fun t =>
      s.Answered t ⟨0x01, tag, .done, body⟩ ∧ t.reportsOut = s.reportsOut ∧ t.link.lost = false ∧
      t.link.load = s.link.load ∧ t.link.restartDue = false ∧ t = { s with link := t.link }) ∧
    body.length = 47 ∧ byteAt body 0 = s.proof.readiness.ready.code ∧ byteAt body 1 = phaseCode s.phase ∧
    [2, 3].map (byteAt body) = (be16 s.wind.number).map BitVec.toNat ∧
    [0, 1, 2].map (bitAt body 5) = [s.latched .s1, s.latched .s2, s.latched .s3] ∧
    [3, 4, 5, 6, 7].map (bitAt body 5) =
      [s.wind.recovery.isSome, s.inputs.clutch, decide (s.link.status = .silent), s.link.lost, s.hasTable]

/-- RESTART is refused with MOVING while a drum moves, then with BUSY while a wind is open; otherwise it is answered DONE
and the restart proper waits for the end of that reply. Either way an open load is abandoned (R160). -/
def Obligations.RestartIsJudgedAndAwaited : Prop :=
  ∀ (tag : Byte) (s : State), s.ready →
    let refusal := firstRefusal [(!s.bothStationary, .moving), (s.windOpen, .busy)]
    (∀ why, refusal = some why → Answers (.restart tag []) s fun t => s.OnlyReplied t ⟨0x0F, tag, why, []⟩) ∧
    (refusal = none → Answers (.restart tag []) s fun t =>
      s.Served t ⟨0x0F, tag, .done, []⟩ [] ∧ t.link.load = none ∧ t.link.restartDue = true ∧
      t = { s with link := t.link, table := { s.table with staged := s.stagedLeft } })

/-- READ-TABLE returns record i of the active table as it was loaded, with the table's count and check and the record's
own clamp count; EMPTY with no table active or no record i (R16). -/
def Obligations.ReadTableReturnsTheRecordAsLoaded : Prop :=
  ∀ (tag i : Byte) (s : State), s.ready →
    (∀ a, s.table.active = some a → ∀ r, a.records[i.toNat]? = some r → ∀ n, a.clamps[i.toNat]? = some n →
      Answers (.readTable tag [i]) s fun t => s.OnlyReplied t ⟨0x0B, tag, .done,
        [byteOf a.records.length] ++ be16 a.check ++ [r.kind, byteOf n] ++ r.body⟩) ∧
    ((s.table.active.all fun a => decide (a.records.length ≤ i.toNat)) = true →
      Answers (.readTable tag [i]) s fun t => s.OnlyReplied t ⟨0x0B, tag, .empty, []⟩)

/-- READ-HISTORY returns the 40 bytes of the completed wind record of an age, EMPTY when the ring holds none of that age
(R128, R170). -/
def Obligations.ReadHistoryReturnsTheRecordOfAnAge : Prop :=
  ∀ (tag age : Byte) (s : State), s.ready →
    (∀ r, s.wind.history[age.toNat]? = some r →
      r.bytes.length = 40 ∧
      Answers (.readHistory tag [age]) s fun t => s.OnlyReplied t ⟨0x0E, tag, .done, r.bytes⟩) ∧
    (s.wind.history.length ≤ age.toNat →
      Answers (.readHistory tag [age]) s fun t => s.OnlyReplied t ⟨0x0E, tag, .empty, []⟩)

/-- READ-FAULTS answers the fault record, its latches, commands, readbacks and time stamp at their places among it, and
changes nothing of the trip unit. CLEAR-FAULTS is refused with LATCHED while any stage is latched; else the capture slot is
emptied and the cause set holds the codes of the active entries alone, the active set being unchanged (R146, R147). -/
def Obligations.FaultsAreReadAndCleared : Prop :=
  ∀ (tag : Byte) (s : State), s.ready →
    (Answers (.readFaults tag []) s fun t => s.OnlyReplied t ⟨0x0C, tag, .done, s.faultsBody⟩) ∧
    (let body := s.faultsBody
     let all : List (Stage × Chan) := [(.s1, .x), (.s1, .y), (.s2, .x), (.s2, .y), (.s3, .x), (.s3, .y)]
     [0, 1, 2].map (bitAt body 0) = [s.latched .s1, s.latched .s2, s.latched .s3] ∧
     [0, 1, 2, 3, 4, 5].map (bitAt body 1) = all.map (fun c => (s.channel c.1 c.2).commanded) ∧
     [0, 1, 2, 3, 4, 5].map (bitAt body 2) = all.map (fun c => s.readback c.1 c.2) ∧
     [12, 13, 14, 15].map (fun i => body.getD i 0) = be32 s.clock.stamp) ∧
    (s.anyLatched = true →
      Answers (.clearFaults tag []) s fun t => s.OnlyReplied t ⟨0x0D, tag, .latched, []⟩) ∧
    (s.anyLatched = false → Answers (.clearFaults tag []) s fun t =>
      s.Served t ⟨0x0D, tag, .done, []⟩ [] ∧ s.PortKept t ∧ t.trip.capture = none ∧
      (∀ n, n ∈ t.trip.causes ↔ ∃ c ∈ s.trip.active, c.code = n) ∧
      t = { s with
        link := t.link
        table := { s.table with staged := s.stagedLeft }
        trip := { s.trip with capture := none, causes := t.trip.causes } })

/-! ## The trip unit -/

/-- A latching cause as the trip unit takes it: the cause set gains its code; every stage up to its own is latched, a
stage newly latched records it and one already latched keeps its first cause; a TRIP report is queued for each stage newly
latched, the highest first, with the latches after the raise; a condition joins the active set unless its entry stands;
and the capture holds it if the slot was empty or held a lower rank, an administrative cause never (R131, R134, R136,
R138). -/
def Obligations.RaisesAreTakenWhole : Prop :=
  ∀ (s : State) (c : Cause), c.stage ≠ none → s.ChannelsFollow → s.inTripTest = false →
    let t := s.raiseRecord c
    (∀ n, n ∈ t.trip.causes ↔ n = c.code ∨ n ∈ s.trip.causes) ∧
    (∀ k, t.trip.latch.get k = if s.latched k = false ∧ c.reaches k = true then .latched c else s.trip.latch.get k) ∧
    t.ChannelsFollow ∧
    s.Reported t (([Stage.s3, .s2, .s1].filter fun k => c.reaches k && !s.latched k).map
      fun k => .tripLatch k c t.latches) ∧
    (∀ x, (∀ k h, x ≠ .tripPath k h) →
      (x ∈ t.trip.active ↔ x ∈ s.trip.active ∨
        x = c ∧ c.isCondition = true ∧ ∀ y ∈ s.trip.active, sameEntry c y = false)) ∧
    t.trip.capture = (if c.kind = .administrative then s.trip.capture
      else match s.trip.capture with
        | none => some (s.captureOf c)
        | some held => if held.rank < c.rank then some (s.captureOf c) else some held) ∧
    t = { s with link := t.link, trip := t.trip }

/-- TRIP-RESET: the five checks in their order. Accepted with stage k clear it has no effect; with stage k latched, the
stages k down to 1 are clear, their channels energised and compared, one TRIP report queued, the rest payouts marked and
the flags of unintended motion and drum 2 creep cleared, while cause set, active set and capture stand; recovery is
entered when the recover flag passed a LIMIT. Its offending sides are those beyond a limit, each with the outward sense
last handed and its recovery point at its payout (R125, R139, R140, R142). -/
def Obligations.TripResetIsJudgedAndUnlatches : Prop :=
  ∀ (tag b0 b1 : Byte) (s : State), s.ready → s.Coherent →
    (stageOfCode b0.toNat = none ∨ 1 < b1.toNat →
      Answers (.tripReset tag [b0, b1]) s fun t => s.OnlyReplied t ⟨0x05, tag, .range, []⟩) ∧
    ∀ k, stageOfCode b0.toNat = some k → b1.toNat ≤ 1 →
      let recovers := k = .s3 ∧ b1 = 1 ∧ ∀ c ∈ s.trip.active, c.isCondition = true → c.isLimit = true
      let refusal := firstRefusal
        [(!s.bothStationary, .moving),
         (decide (∃ j ∈ [Stage.s1, .s2, .s3], stageCode k < stageCode j ∧ s.latched j = true), .higherStage),
         (decide (k = .s3 ∧ ∃ c ∈ s.trip.active, c.isCondition = true) && !decide recovers, .causePresent),
         (decide (k ≠ .s1 ∧ s.proof.readiness ≠ .proven), .notProven),
         (decide (k = .s3 ∧ s.inputs.permissive = false), .noPermissive)]
      (∀ why, refusal = some why →
        Answers (.tripReset tag [b0, b1]) s fun t => s.OnlyReplied t ⟨0x05, tag, why, []⟩) ∧
      (refusal = none → s.latched k = false →
        Answers (.tripReset tag [b0, b1]) s fun t => s.OnlyReplied t ⟨0x05, tag, .done, []⟩) ∧
      (refusal = none → s.latched k = true → Answers (.tripReset tag [b0, b1]) s fun t =>
        s.Served t ⟨0x05, tag, .done, []⟩ [.tripReset k ⟨false, false, false⟩] ∧ s.PortKept t ∧
        t.latches = ⟨false, false, false⟩ ∧
        (∀ j h, (t.channel j h).commanded = true) ∧
        (∀ j h, stageCode j ≤ stageCode k → (t.channel j h).mismatch =
          if s.readback j h then none else (s.channel j h).mismatch.or (some 20)) ∧
        t.trip = { s.trip with latch := t.trip.latch, chan := t.trip.chan } ∧
        t.drums = { s.drums with
          drum := ⟨{ s.drums.drum.one with restDue := true }, { s.drums.drum.two with restDue := true }⟩
          holdDue := !s.inputs.clutch || s.drums.holdDue } ∧
        t.wind = { s.wind with unintended := ⟨false, false⟩, creepFlag := false, recovery := t.wind.recovery } ∧
        (recovers ∧ (∃ c ∈ s.trip.active, c.isLimit = true) → ∃ r, t.wind.recovery = some r ∧ ∀ d,
          (s.env.limit.get d = .inside → r.get d = none) ∧
          ∀ o, s.env.limit.get d ≠ .inside → s.wind.outward.get d = some o →
            r.get d = some ⟨o, (s.drums.drum.get d).payoutMm⟩) ∧
        (¬ (recovers ∧ ∃ c ∈ s.trip.active, c.isLimit = true) → t.wind.recovery = s.wind.recovery) ∧
        t = { s with
          link := t.link
          table := { s.table with staged := s.stagedLeft }
          drums := t.drums
          wind := t.wind
          trip := t.trip })

/-- A change of a readback outside step 5 of the proof: agreement stops the mismatch timer and ends TRIP PATH of the
channel, disagreement starts a stopped timer at 20 ms. In step 5 the readback that shows the channel under test in the
state its half expects passes the half, and the readback of another channel passes nothing. After an energise half the
channel is commanded de-energised with a new test timer of 20 ms. After a de-energise half the next channel is commanded
energised, or is in its de-energise half already when its readback shows energised. After the sixth channel's the step
passes: the commands follow the latches, each channel is compared afresh, and step 6 queues its first probe, or, with the
echo step omitted, the proof has passed (R131, R132, R152, R156, R157). -/
def Obligations.ReadbacksAreCompared : Prop :=
  ∀ (k : Stage) (h : Chan) (level : Bool) (s : State),
    (s.readback k h = level → exec (.readbackChange k h level) s = .next s) ∧
    (s.readback k h ≠ level → s.inTripTest = false → Answers (.readbackChange k h level) s fun t =>
      s.Told t [] ∧ t.readback k h = level ∧
      (t.channel k h).commanded = (s.channel k h).commanded ∧
      ((s.channel k h).commanded = level → (t.channel k h).mismatch = none ∧
        ∀ x, x ∈ t.trip.active ↔ x ∈ s.trip.active ∧ x ≠ .tripPath k h) ∧
      ((s.channel k h).commanded ≠ level → t.trip.active = s.trip.active ∧
        (t.channel k h).mismatch = ((s.channel k h).mismatch.or (some 20))) ∧
      t = { s with link := t.link, pins := t.pins, trip := { s.trip with chan := t.trip.chan, active := t.trip.active } }) ∧
    (∀ timer, s.readback k h ≠ level → s.proof.readiness = .proving (.tripPaths k h level timer) →
      let next := match h, k with
        | .x, _ => some (k, Chan.y)
        | .y, .s1 => some (.s2, .x)
        | .y, .s2 => some (.s3, .x)
        | .y, .s3 => none
      Answers (.readbackChange k h level) s fun t =>
        t.readback k h = level ∧
        t = { s with link := t.link, pins := t.pins, proof := t.proof
                     trip := { s.trip with chan := t.trip.chan, active := t.trip.active } } ∧
        (level = true → s.Told t [] ∧ t.trip.active = s.trip.active ∧
          t.proof = { s.proof with readiness := .proving (.tripPaths k h false (some 20)) } ∧
          ∀ j c, t.channel j c = ⟨false, none⟩) ∧
        (∀ k1 h1, level = false → next = some (k1, h1) → s.Told t [] ∧ t.trip.active = s.trip.active ∧
          t.proof = { s.proof with
            readiness := .proving (.tripPaths k1 h1 (!s.readback k1 h1) (some 20)) } ∧
          ∀ j c, t.channel j c = ⟨decide (j = k1 ∧ c = h1 ∧ s.readback k1 h1 = false), none⟩) ∧
        (level = false → next = none →
          s.Told t [.proofStep 5, if s.winder.echoOmitted then .proofPass else .echoProbe 1] ∧
          t.proof = (if s.winder.echoOmitted then { readiness := .proven, lastFailure := none }
            else { s.proof with readiness := .proving (.echo 1 s.clock.stamp false (some 1000)) }) ∧
          (∀ j c, t.channel j c = ⟨!s.latched j, if t.readback j c = !s.latched j then none else some 20⟩) ∧
          ∀ x, x ∈ t.trip.active ↔ x ∈ s.trip.active ∧
            ∀ j c, t.readback j c = (!s.latched j) → x ≠ .tripPath j c)) ∧
    (∀ k1 h1 energise timer, s.readback k h ≠ level → ¬ (k = k1 ∧ h = h1 ∧ level = energise) →
      s.proof.readiness = .proving (.tripPaths k1 h1 energise timer) → Answers (.readbackChange k h level) s fun t =>
        s.Told t [] ∧ t.readback k h = level ∧ t = { s with link := t.link, pins := t.pins })

/-- At the expiry of a channel's mismatch timer TRIP PATH is raised at stage 3 with the stage and channel. Every stage
is latched then, one that was latched keeps its first cause, and a TRIP report is queued for each stage newly latched. A
channel stuck energised under its own latched stage keeps the condition, and its timer stays stopped; one stuck
de-energised under a clear stage agrees as soon as its command falls, and its condition ends. A timer that is stopped or
has time left raises nothing (log entry 2; R132, R134). -/
def Obligations.MismatchRaisesTripPath : Prop :=
  ∀ (k : Stage) (h : Chan) (s : State),
    ((s.channel k h).mismatch ≠ some 0 → exec (.mismatchTimerExpiry k h) s = .next s) ∧
    ((s.channel k h).mismatch = some 0 → Answers (.mismatchTimerExpiry k h) s fun t =>
      17 ∈ t.trip.causes ∧ (∀ j, t.latched j = true) ∧
      (∀ j c, s.trip.latch.get j = .latched c → t.trip.latch.get j = .latched c) ∧
      (∀ j, s.trip.latch.get j = .clear → t.trip.latch.get j = .latched (.tripPath k h)) ∧
      (s.latched k = true → (t.channel k h).mismatch = none ∧ .tripPath k h ∈ t.trip.active) ∧
      (s.latched k = false → s.ChannelsFollow → s.inTripTest = false → s.readback k h = false →
        (t.channel k h).commanded = false ∧ (t.channel k h).mismatch = none ∧ .tripPath k h ∉ t.trip.active) ∧
      (s.wind.current = none → s.Told t (([Stage.s3, .s2, .s1].filter fun j => !s.latched j).map
        fun j => .tripLatch j (.tripPath k h) ⟨true, true, true⟩)) ∧
      (s.latched .s1 = true → s.latched .s2 = true → s.latched .s3 = true →
        (∀ x, x ∈ t.trip.active ↔ x ∈ s.trip.active ∨ x = .tripPath k h) ∧
        s.Told t [] ∧ t = { s with link := t.link, trip := t.trip }))

/-! ## The wind controller -/

/-- WIND: the fourteen checks in their order, after RANGE for a mode or a side that is none; a refused WIND changes no
state. An accepted one opens a wind in ACCEPTED under the next wind number, toward the target, with its start timer at
30 s, its counters at 0 and its payouts at the lead drum's; the degrade state starts from speed 0 when a drum in play is
not DUAL or a side in play has both channels BAD (R96, R110, R111). -/
def Obligations.WindIsJudgedAndAccepted : Prop :=
  ∀ (tag station b1 b2 : Byte) (s : State), s.ready →
    (modeOfCode b1.toNat = none ∨ sideOfCode b2.toNat = none →
      Answers (.wind tag [station, b1, b2]) s fun t => s.OnlyReplied t ⟨0x02, tag, .range, []⟩) ∧
    ∀ mode lead, modeOfCode b1.toNat = some mode → sideOfCode b2.toNat = some lead →
      let stop := s.stopDepth station.toNat lead
      let depth := (s.depth.get lead).D
      let full := decide (mode ≠ .inspect)
      let refusal := firstRefusal
        [(s.windOpen, .busy),
         (s.anyLatched, .tripped),
         (!s.hasTable, .noTable),
         (decide (s.proof.readiness ≠ .proven), .notProven),
         (stop.isNone, .noStation),
         (!mode.allows (s.sideData lead).kind, .mode),
         (!s.inputs.clutch && !(decide (mode = .inspect) && decide (lead = .one)), .clutch),
         (!(s.stationary .one && (!s.inputs.clutch || s.stationary .two)), .moving),
         (s.wind.recovery.isSome && (full || !stop.all fun x => s.isInward lead x), .recovery),
         (full && !(s.depth.one.sampledLock.referenced &&
           (!s.inputs.clutch || s.depth.two.sampledLock.referenced)), .notReferenced),
         (full && (decide (s.drums.drum.one.sampledState = .diverged) ||
           (s.inputs.clutch && decide (s.drums.drum.two.sampledState = .diverged))), .degraded),
         (decide (mode = .man) && (s.rope.side.one.bothBad || (s.inputs.clutch && s.rope.side.two.bothBad)), .load),
         (decide ((s.sideData lead).payloadLimit < (s.rope.side.get lead).payload), .overload),
         (stop.any fun x => decide (mag (x - depth) ≤ s.winder.landingTol), .alreadyThere)]
      (∀ why, refusal = some why →
        Answers (.wind tag [station, b1, b2]) s fun t => s.OnlyReplied t ⟨0x02, tag, why, []⟩) ∧
      ∀ target, refusal = none → stop = some target → target ≠ depth →
        Answers (.wind tag [station, b1, b2]) s fun t =>
          s.Served t ⟨0x02, tag, .done, be16 (s.wind.number + 1)⟩
            [.wind (s.wind.number + 1) (some .accepted) none station.toNat] ∧ s.PortKept t ∧
          t.wind = { s.wind with
            number := s.wind.number + 1
            current := some
              { phase := .accepted, number := s.wind.number + 1, mode := mode, lead := lead
                destination := station.toNat, target := target
                dir := if depth < target then .descending else .ascending
                startPayout := s.payout lead, furthest := s.payout lead
                start := some 30000, dwell := none, stop := none, inRecovery := s.wind.recovery.isSome
                origin := s.wind.lastLanded.get lead, duration := 0, peakSpeed := 0, peakUsage := 0
                counts := ⟨⟨0, 0, 0, 0, 0⟩, ⟨0, 0, 0, 0, 0⟩⟩, firstTrip := none } } ∧
          t.env = { s.env with
            degrade := if s.playDegraded then s.env.degrade.or (some ⟨0, 0⟩) else s.env.degrade } ∧
          t = { s with link := t.link, table := { s.table with staged := s.stagedLeft }, wind := t.wind, env := t.env }

/-- REDIRECT: NO WIND in IDLE, STOPPING in STOPPING, then NO STATION and RECOVERY; in ACCEPTED ALREADY THERE; in RUNNING
and CREEP TOO LATE when the station does not lie ahead or the reach is less than the lead drum's speed. A refused one
changes nothing. An accepted one replaces the destination and target, queues one WIND report, and in ACCEPTED sets the
intended direction and the payouts anew, the start timer running on; under way the wind is RUNNING beyond the creep
distance and CREEP otherwise (R118). That RECOVERY is judged by the direction from the depth to the new target is the
model's choice (log entry 29). -/
def Obligations.RedirectIsJudgedByThePhase : Prop :=
  ∀ (tag station : Byte) (s : State), s.ready →
    (s.wind.current = none → Answers (.redirect tag [station]) s fun t => s.OnlyReplied t ⟨0x03, tag, .noWind, []⟩) ∧
    ∀ w, s.wind.current = some w →
      let stop := s.stopDepth station.toNat w.lead
      let depth := (s.depth.get w.lead).D
      let ahead (x : Int) := (x - depth) * w.dir.sign
      let waiting := decide (w.phase = .accepted)
      let p := s.mode w.mode
      let refusal := firstRefusal
        [(decide (w.phase = .stopping), .stopping),
         (stop.isNone, .noStation),
         (stop.any fun x => s.wind.recovery.isSome && (decide (w.mode ≠ .inspect) || !s.isInward w.lead x), .recovery),
         (waiting && stop.any fun x => decide (mag (x - depth) ≤ s.winder.landingTol), .alreadyThere),
         (!waiting && stop.any fun x => decide (ahead x ≤ 0), .tooLate),
         (!waiting && stop.any fun x => decide (approachTerm p (ahead x) < mag (s.speed w.lead)), .tooLate)]
      (∀ why, refusal = some why →
        Answers (.redirect tag [station]) s fun t => s.OnlyReplied t ⟨0x03, tag, why, []⟩) ∧
      ∀ target, refusal = none → stop = some target →
        (w.phase = .accepted → target ≠ depth → Answers (.redirect tag [station]) s fun t =>
          s.Served t ⟨0x03, tag, .done, []⟩ [.wind w.number (some .accepted) none station.toNat] ∧ s.PortKept t ∧
          t = { s with
            link := t.link
            table := { s.table with staged := s.stagedLeft }
            wind := { s.wind with current := some { w with
              destination := station.toNat, target := target
              dir := if depth < target then .descending else .ascending
              startPayout := s.payout w.lead, furthest := s.payout w.lead } } }) ∧
        (w.phase ≠ .accepted → Answers (.redirect tag [station]) s fun t =>
          let phase := if p.dCreep < ahead target then Phase.running else .creep
          s.Served t ⟨0x03, tag, .done, []⟩ [.wind w.number (some phase) none station.toNat] ∧ s.PortKept t ∧
          t = { s with
            link := t.link
            table := { s.table with staged := s.stagedLeft }
            wind := { s.wind with current := some { w with
              phase := phase, destination := station.toNat, target := target } } })

/-- ABORT: NO WIND in IDLE; an ACCEPTED wind closes ABORTED with its park write, and with nothing more unless its
closure ends recovery, when each LIMIT that stands is raised anew; from RUNNING and CREEP the wind enters STOPPING with
the stop cause ABORT; in STOPPING the wind is unchanged (R117, R119, R120, R126, R143). -/
def Obligations.AbortActsByThePhase : Prop :=
  ∀ (tag : Byte) (s : State), s.ready →
    (s.wind.current = none → Answers (.abort tag []) s fun t => s.OnlyReplied t ⟨0x04, tag, .noWind, []⟩) ∧
    ∀ w, s.wind.current = some w →
      (w.phase = .accepted → Answers (.abort tag []) s fun t =>
        (∃ more, s.Served t ⟨0x04, tag, .done, []⟩ (.wind w.number none (some .aborted) w.destination :: more) ∧ s.EndsRecovery t more) ∧
        s.PortKept t ∧ s.Closes t w .aborted ∧
        { s with table := { s.table with staged := s.stagedLeft } }.ParkRequested t ∧
        t = { s with link := t.link, table := t.table, wind := t.wind, drums := t.drums, env := t.env, rope := t.rope
                     trip := t.trip }) ∧
      (w.phase = .running ∨ w.phase = .creep → Answers (.abort tag []) s fun t =>
        s.Served t ⟨0x04, tag, .done, []⟩ [.wind w.number (some .stopping) none w.destination] ∧ s.PortKept t ∧
        s.Stops t w .abort ∧
        t = { s with
          link := t.link, table := { s.table with staged := s.stagedLeft }, wind := t.wind, rope := t.rope }) ∧
      (w.phase = .stopping → Answers (.abort tag []) s fun t => s.OnlyReplied t ⟨0x04, tag, .done, []⟩)

/-- The start timer closes an ACCEPTED wind LAPSED. The dwell timer closes a wind TRIPPED or ABORTED by its stop cause;
with none, LANDED when the lead side stands within the landing tolerance of its target, SHORT otherwise. One WIND report
is queued, and nothing more unless the closure ends recovery, when each LIMIT that stands is raised anew. A timer that
is stopped or has time left does nothing (log entry 2; R114, R116, R117, R126, R143). That the landing is judged on the
target less the depth of the latest drum sample is the model's reading (log entry 33). -/
def Obligations.WindTimersCloseTheWind : Prop :=
  (∀ s : State, s.startTimer ≠ some 0 → exec .startTimerExpiry s = .next s) ∧
  (∀ s : State, s.dwellTimer ≠ some 0 → exec .dwellTimerExpiry s = .next s) ∧
  ∀ (s : State) (w : OpenWind), s.wind.current = some w →
    let closes (t : State) (outcome : WindOutcome) :=
      (∃ more, s.Told t (.wind w.number none (some outcome) w.destination :: more) ∧ s.EndsRecovery t more) ∧
      s.Closes t w outcome ∧ s.ParkRequested t ∧
      t = { s with link := t.link, table := t.table, wind := t.wind, drums := t.drums, env := t.env, rope := t.rope
                   trip := t.trip }
    (w.phase = .accepted → w.start = some 0 → Answers .startTimerExpiry s fun t => closes t .lapsed) ∧
    (w.dwell = some 0 → Answers .dwellTimerExpiry s fun t => closes t (match w.stop with
      | some .trip => .tripped
      | some .abort => .aborted
      | none => if mag (w.target - (s.depth.get w.lead).D) ≤ s.winder.landingTol then .landed else .short))

/-! ## The proof unit -/

/-- PROOF: BUSY while proving or while a wind is open, then NO TABLE, then MOVING. An accepted one latches every stage
with PROOF, leaving first causes that stood, offers nothing to the capture, and judges step 1 at once: the check
recomputed over the active records either begins step 2 or fails the proof with 0x81 (R145, R151, R154). -/
def Obligations.ProofIsJudgedAndBegun : Prop :=
  ∀ (tag : Byte) (s : State), s.ready → s.ChannelsFollow →
    let refusal := firstRefusal
      [(s.isProving, .busy), (s.windOpen, .busy), (!s.hasTable, .noTable), (!s.bothStationary, .moving)]
    (∀ why, refusal = some why → Answers (.proof tag []) s fun t => s.OnlyReplied t ⟨0x06, tag, why, []⟩) ∧
    ∀ a, refusal = none → s.table.active = some a → Answers (.proof tag []) s fun t =>
      let sound := decide (tableCheck a.records = a.check)
      s.Served t ⟨0x06, tag, .done, []⟩
        ((([Stage.s3, .s2, .s1].filter fun k => !s.latched k).map fun k => .tripLatch k .proof ⟨true, true, true⟩) ++
          [if sound then .proofStep 1 else .proofFail 1 0x81 0]) ∧ s.PortKept t ∧
      (∀ k, t.trip.latch.get k = if s.latched k then s.trip.latch.get k else .latched .proof) ∧
      (∀ k h, (t.channel k h).commanded = false) ∧
      (∀ n, n ∈ t.trip.causes ↔ n = 2 ∨ n ∈ s.trip.causes) ∧ t.trip.capture = s.trip.capture ∧
      t.proof = (if sound then { s.proof with readiness := .proving .encoders }
        else { readiness := .proofFailed, lastFailure := some (0x81, 0) }) ∧
      t = { s with
        link := t.link, table := { s.table with staged := s.stagedLeft }, trip := t.trip, proof := t.proof }

/-- ECHO-RETURN: NOT EXPECTED outside step 6. In step 6 it is answered DONE: with no probe outstanding the proof fails
with 0x89, with another pattern than the probe's with 0x88; the probe's own pattern passes the exchange, and the next
probe with the doubled pattern is queued with the echo timer at 1 s, or after 0x8000 the proof has passed (R157, R158). -/
def Obligations.EchoReturnsAreJudged : Prop :=
  ∀ (tag hi lo : Byte) (s : State), s.ready →
    ((∀ p m o n, s.proof.readiness ≠ .proving (.echo p m o n)) →
      Answers (.echoReturn tag [hi, lo]) s fun t => s.OnlyReplied t ⟨0x07, tag, .notExpected, []⟩) ∧
    ∀ (awaited : Half) (made : Word) (outstanding : Bool) (timer : Timer),
      s.proof.readiness = .proving (.echo awaited made outstanding timer) →
      Answers (.echoReturn tag [hi, lo]) s fun t =>
        let got : Half := hi ++ lo
        let fails (code : Nat) := s.Served t ⟨0x07, tag, .done, []⟩ [.proofFail 6 code got.toNat] ∧
          t.proof = { readiness := .proofFailed, lastFailure := some (code, got.toNat) }
        (outstanding = false → fails 0x89) ∧
        (outstanding = true → got ≠ awaited → fails 0x88) ∧
        (outstanding = true → got = awaited → awaited ≠ 0x8000 →
          s.Served t ⟨0x07, tag, .done, []⟩ [.echoProbe (awaited <<< 1)] ∧
          t.proof = { s.proof with
            readiness := .proving (.echo (awaited <<< 1) s.clock.stamp false (some 1000)) }) ∧
        (outstanding = true → got = awaited → awaited = 0x8000 →
          s.Served t ⟨0x07, tag, .done, []⟩ [.proofStep 6, .proofPass] ∧
          t.proof = { readiness := .proven, lastFailure := none }) ∧
        s.PortKept t ∧
        t = { s with link := t.link, table := { s.table with staged := s.stagedLeft }, proof := t.proof }

/-- Proof steps 2, 3 and 4. At a drum sample a moving drum fails the proof with 0x8A, drum 1 when both move, before a step
is judged; out of step 5 the commands return to the latches. Step 2 passes when both drums have healthy encoders, are not
DIVERGED and agree within the agree band, else 0x82 or 0x83. Step 3 passes when every active marker line has a marker within
the capture band of its side's depth, else 0x84 with the lowest failing line. At a load evaluation step 4 passes when every
channel is GOOD and each side's tension lies from half to one and a half times its expected empty tension, else 0x85 with
the channel or the side; its pass begins step 5 at stage 1 channel X (R48, R152 to R156). -/
def Obligations.ProofStepsAreJudged : Prop :=
  (∀ (s : State) (step : ProofStep), s.proof.readiness = .proving step →
    Answers .drumSample s fun t =>
      let still (d : Side) := mag (t.speed d) < 50
      let fails (code detail : Nat) := s.atProof.Told t [.proofFail step.number code detail] ∧
        t.proof = { readiness := .proofFailed, lastFailure := some (code, detail) }
      let passes (n : Nat) (next : ProofStep) := s.atProof.Told t [.proofStep n] ∧
        t.proof = { s.proof with readiness := .proving next }
      let sound (d : Side) :=
        let x := t.drums.drum.get d
        x.enc.a.failed = false ∧ x.enc.b.failed = false ∧ x.state ≠ .diverged ∧
          mag (x.enc.a.count - x.enc.b.count).toInt ≤ s.sup.agree
      let near (n : Fin 16) := s.pins.lines[n] = true → ∃ m ∈ s.markers, m.line = n.val ∧
        (mag (m.desc - (t.depth.get m.side).D) ≤ s.sup.capture ∨ mag (m.asc - (t.depth.get m.side).D) ≤ s.sup.capture)
      (¬ still .one → fails 0x8A 1) ∧
      (still .one → ¬ still .two → fails 0x8A 2) ∧
      (s.inTripTest = true → ¬ still .one ∨ ¬ still .two → ∀ k h, t.channel k h =
        ⟨!t.latched k, if s.readback k h = !t.latched k then none else some 20⟩) ∧
      (still .one → still .two →
        (step = .encoders → ¬ sound .one → fails 0x82 1) ∧
        (step = .encoders → sound .one → ¬ sound .two → fails 0x83 2) ∧
        (step = .encoders → sound .one → sound .two → passes 2 .markers) ∧
        (step = .markers → (∀ n, near n) → passes 3 .loads) ∧
        (∀ n, step = .markers → ¬ near n → (∀ i < n, near i) → fails 0x84 n.val) ∧
        (step ≠ .encoders → step ≠ .markers → t.proof = s.proof))) ∧
  ∀ (s : State) (c : Instr), s.proof.readiness = .proving .loads →
    (c = .frameTimerExpiry ∧ s.rope.frame = some 0) ∨ (∃ f, c = .loadSample f ∧ s.rope.lastSeq ≠ some f.seq) →
    Answers c s fun t =>
      let bad (d : Side) (r : Twin) := (t.loadChan d r).health ≠ .good
      let outside (d : Side) :=
        let lim := s.sideData d
        let empty := lim.weight + lim.ropeWeight * max ((s.depth.get d).D0 - s.winder.sheave.get d) 0 / 1000
        (t.rope.side.get d).tension < 500 * empty / 1000 ∨ 1500 * empty / 1000 < (t.rope.side.get d).tension
      let failure := if bad .one .a then some 1 else if bad .one .b then some 2 else if bad .two .a then some 3
        else if bad .two .b then some 4 else if outside .one then some 0x11 else if outside .two then some 0x12 else none
      (∀ n, failure = some n →
        t.proof = { readiness := .proofFailed, lastFailure := some (0x85, n) } ∧
        s.Sends t (.proofFail 4 0x85 n)) ∧
      (failure = none →
        t.proof = { s.proof with
          readiness := .proving (.tripPaths .s1 .x (!s.readback .s1 .x) (some 20)) } ∧
        (∀ k h, t.channel k h = ⟨decide (k = .s1 ∧ h = .x ∧ s.readback .s1 .x = false), none⟩) ∧
        s.Sends t (.proofStep 4))

/-- The echo timer fails the proof with 0x87 and the pattern awaited. The test timer fails step 5 with 0x86 and the
stage and channel, and the commands return to the latches, each channel compared afresh. With no such step under way, or
the timer restarted by a return or a readback taken first, nothing happens (log entry 2; R156, R157, R158). -/
def Obligations.ProofTimersFailTheProof : Prop :=
  (∀ s : State, s.echoTimer ≠ some 0 → exec .echoTimerExpiry s = .next s) ∧
  (∀ s : State, s.testTimer ≠ some 0 → exec .testTimerExpiry s = .next s) ∧
  (∀ (s : State) (p : Half) (m : Word) (o : Bool), s.proof.readiness = .proving (.echo p m o (some 0)) →
    Answers .echoTimerExpiry s fun t =>
      s.Told t [.proofFail 6 0x87 p.toNat] ∧
      t = { s with
        link := t.link, proof := { readiness := .proofFailed, lastFailure := some (0x87, p.toNat) } }) ∧
  ∀ (s : State) (k : Stage) (h : Chan) (e : Bool), s.proof.readiness = .proving (.tripPaths k h e (some 0)) →
    Answers .testTimerExpiry s fun t =>
      s.Told t [.proofFail 5 0x86 (16 * stageCode k + chanCode h)] ∧
      t.proof = { readiness := .proofFailed, lastFailure := some (0x86, 16 * stageCode k + chanCode h) } ∧
      (∀ j c, t.channel j c = ⟨!s.latched j, if s.readback j c = !s.latched j then none else some 20⟩) ∧
      (∀ x, x ∈ t.trip.active ↔ x ∈ s.trip.active ∧
        ∀ j c, s.readback j c = (!s.latched j) → x ≠ .tripPath j c) ∧
      t = { s with
        link := t.link, proof := t.proof, trip := { s.trip with chan := t.trip.chan, active := t.trip.active } }

/-! ## The shaft table -/

/-- TABLE-OPEN: RANGE for a count outside 1 to 152, BUSY while a wind is open or a proof runs, MOVING while a drum moves;
otherwise the staged table is empty and the load open with the declared count and check at index 0. An open load is
abandoned first (R10, R12). -/
def Obligations.TableOpenIsJudged : Prop :=
  ∀ (tag count hi lo : Byte) (s : State), s.ready →
    let refusal := firstRefusal
      [(decide (count.toNat < 1 ∨ 152 < count.toNat), .range), (s.windOpen, .busy), (s.isProving, .busy),
       (!s.bothStationary, .moving)]
    (∀ why, refusal = some why →
      Answers (.tableOpen tag [count, hi, lo]) s fun t => s.OnlyReplied t ⟨0x08, tag, why, []⟩) ∧
    (refusal = none → Answers (.tableOpen tag [count, hi, lo]) s fun t =>
      s.Served t ⟨0x08, tag, .done, []⟩ [] ∧ t.link.load = some ⟨count.toNat, hi ++ lo, 0⟩ ∧
      t.link.restartDue = false ∧ t = { s with link := t.link, table := { s.table with staged := [] } })

/-- TABLE-RECORD with no load open: SEQUENCE, or LENGTH for a body too short to hold an index and a kind, and no other
effect. With a load open, the record under the expected index, of a known kind and of its length, is appended and the new
next index replied; every failure abandons the load with its report. The order in which two failures of one record are
judged is the model's choice (log entry 25; R11, R164). -/
def Obligations.TableRecordStagesOrEndsTheLoad : Prop :=
  ∀ (tag index kind : Byte) (body : List Byte) (s : State), s.ready →
    (s.link.load = none →
      (∀ b, b.length < 2 → Answers (.tableRecord tag b) s fun t => s.RepliedWithLoad t ⟨0x09, tag, .length, []⟩) ∧
      Answers (.tableRecord tag (index :: kind :: body)) s fun t => s.RepliedWithLoad t ⟨0x09, tag, .sequence, []⟩) ∧
    ∀ l, s.link.load = some l →
      let abandoned (t : State) (why : Result) :=
        s.Answered t ⟨0x09, tag, why, []⟩ ∧
        s.Reported t [.table .abandoned s.table.staged.length l.declared l.check] ∧ s.PortKept t ∧
        t = { s with link := t.link, table := { s.table with staged := [] } }
      let refusal := firstRefusal
        [(decide (index.toNat ≠ l.next ∨ l.declared ≤ l.next), .sequence),
         ((recordKindOf kind).isNone, .range),
         ((recordKindOf kind).any fun k => decide (body.length ≠ bodyLength k), .length)]
      (∀ b, b.length < 2 → Answers (.tableRecord tag b) s fun t => abandoned t .length) ∧
      (∀ why, refusal = some why →
        Answers (.tableRecord tag (index :: kind :: body)) s fun t => abandoned t why) ∧
      (refusal = none → Answers (.tableRecord tag (index :: kind :: body)) s fun t =>
        s.Answered t ⟨0x09, tag, .done, [byteOf (l.next + 1)]⟩ ∧ s.Reported t [] ∧
        t.link.load = some { l with next := l.next + 1 } ∧ t.link.restartDue = false ∧
        t = { s with link := t.link, table := { s.table with staged := s.table.staged ++ [⟨kind, body⟩] } })

/-- TABLE-CLOSE: SEQUENCE with no load open and no other effect; MOVING with the load abandoned while a drum moves;
INVALID with the detail and index of the first failing check, the load closed and no report. Otherwise the staged table
is active with its check and the reply carries the clamp count: both sides are UNREFERENCED with their K clamped to the
new authority, readiness is UNPROVEN, the rest payouts are marked, the histories are empty, and the store write has
begun. A LOCK report is queued for each side whose lock changed; that it carries the counts after the change is the
model's choice (log entry 30). A recovery ends, and each LIMIT that stands is raised anew; that the LOCK reports join
before its TRIP reports is the model's choice too (log entry 13). With no recovery to end, the trip unit, the wind record
and the counts are untouched (R13, R14, R15, R17, R81, R83, R126, R143). -/
def Obligations.TableCloseValidatesAndActivates : Prop :=
  ∀ (tag : Byte) (s : State), s.ready →
    (s.link.load = none →
      Answers (.tableClose tag []) s fun t => s.RepliedWithLoad t ⟨0x0A, tag, .sequence, []⟩) ∧
    ∀ l, s.link.load = some l →
      (s.bothStationary = false → Answers (.tableClose tag []) s fun t =>
        s.Answered t ⟨0x0A, tag, .moving, []⟩ ∧
        s.Reported t [.table .abandoned s.table.staged.length l.declared l.check] ∧ s.PortKept t ∧
        t = { s with link := t.link, table := { s.table with staged := [] } }) ∧
      (∀ f, s.bothStationary = true → closeFault l.declared l.check s.table.staged = some f →
        Answers (.tableClose tag []) s fun t =>
          s.Answered t ⟨0x0A, tag, .invalid, [byteOf f.detail, byteOf (f.index.getD 0xFF)]⟩ ∧ s.Reported t [] ∧
          s.PortKept t ∧ t = { s with link := t.link, table := { s.table with staged := [] } }) ∧
      (s.bothStationary = true → closeFault l.declared l.check s.table.staged = none →
        Answers (.tableClose tag []) s fun t =>
          let staged := s.table.staged
          let bound := (effective staged).sup.authority
          let locks := [Side.one, .two].filterMap fun d =>
            if (s.depth.get d).lock = .unreferenced then none
            else some (.lock d (s.depth.get d).lock .unreferenced (clamp (-bound) bound (s.depth.get d).K)
              (effective staged).sup.search 0 (s.depth.get d).searches none)
          s.Answered t ⟨0x0A, tag, .done, be16 (BitVec.ofNat 16 (tableClamps staged).sum)⟩ ∧ s.PortKept t ∧
          t.table = { s.table with
            active := some ⟨staged, l.check, tableClamps staged, effective staged⟩
            staged := []
            stored := none
            storeWrite := some ⟨staged, l.check⟩ } ∧
          (∀ d, (t.depth.get d).lock = .unreferenced ∧
            (t.depth.get d).K = clamp (-bound) bound (s.depth.get d).K ∧ (t.depth.get d).next = none) ∧
          t.proof = { s.proof with readiness := .unproven } ∧
          (∀ d, t.drums.drum.get d = { s.drums.drum.get d with history := [], restDue := true }) ∧
          (s.wind.recovery = none → s.Reported t locks) ∧
          (s.wind.recovery ≠ none → ∃ more, s.Reported t (locks ++ more) ∧ s.LimitsRaisedAnew t more) ∧
          t.wind.recovery = none ∧ t.wind.current = s.wind.current ∧ t.wind.history = s.wind.history ∧
          (s.wind.recovery = none → t.trip = s.trip) ∧ t.pins = s.pins ∧ t.clock = s.clock ∧ t.inputs = s.inputs ∧
          t.env = s.env)

/-- The end of a table store write: the stored copy is valid with what was read back when the check recomputed over it is
the table check, invalid otherwise, and one TABLE report says which. The end of a park write: with contents pending their
write begins at once, else the record is valid if it reads back as written. With no write in flight nothing happens (R17,
R18). -/
def Obligations.StoreWritesEnd : Prop :=
  (∀ (r : ReadBack) (s : State), s.table.storeWrite = none → exec (.tableStoreWriteEnd r) s = .next s) ∧
  (∀ (agrees : Bool) (s : State), s.table.parkWrite = none → exec (.parkWriteEnd agrees) s = .next s) ∧
  (∀ (r : ReadBack) (s : State) (w : StoredTable), s.table.storeWrite = some w →
    Answers (.tableStoreWriteEnd r) s fun t =>
      let found := match r with
        | .asWritten => w.records
        | .found records => records
      let good := decide (tableCheck found = w.check)
      s.Told t [.table (if good then .stored else .storeFailed) w.records.length w.records.length w.check] ∧
      t = { s with
        link := t.link
        table := { s.table with storeWrite := none, stored := if good then some ⟨found, w.check⟩ else none } }) ∧
  ∀ (agrees : Bool) (s : State) (w : Park), s.table.parkWrite = some w →
    (∀ q, s.table.parkPending = some q → exec (.parkWriteEnd agrees) s =
      .next { s with table := { s.table with park := none, parkWrite := some q, parkPending := none } }) ∧
    (s.table.parkPending = none → exec (.parkWriteEnd agrees) s =
      .next { s with table := { s.table with park := if agrees then some w else none, parkWrite := none } })

/-! ## The frames on the lines -/

/-- Every request a host can send is framed in 6 to 64 bytes, and the bytes of its frame are read back as the same
request with the same tag and body: sync byte, length, payload and CRC. A hunting receiver drops every byte that is no sync
byte, takes such a frame whole and hunts again. A load sample frame is twelve bytes, and they are read back as the same
frame: sequence number, status flags and tensions, a channel flagged invalid carrying no value (R41, R42, R162, R164). -/
def Obligations.FramesRoundTrip : Prop :=
  (∀ (c : Instr) (bytes : List Byte), wellFormed c = true → hostFrame c = some bytes →
    6 ≤ bytes.length ∧ bytes.length ≤ 64 ∧ hostFrameCommand bytes = some c ∧
    ∀ junk : List Byte, (0xA5 : Byte) ∉ junk → linkRxBytes .hunting (junk ++ bytes) = (.hunting, [bytes])) ∧
  ∀ f : LoadFrame, (loadFrameBytes f).length = 12 ∧ loadFrameCommand (loadFrameBytes f) = some (.loadSample f)

/-! ## The furthest point of a wind -/

/-- Every step keeps the furthest point of the open wind at or beyond its start payout before STOPPING, and less than 100
mm beyond it in ACCEPTED: WIND and a REDIRECT in ACCEPTED set both to one payout, the furthest point follows the lead
drum, and at 100 mm the wind leaves ACCEPTED (R111, R112, R118). -/
def Obligations.StepsKeepTheFurthestPointFitting : Prop :=
  ∀ s t : State, s.FurthestFits → step s = .next t → t.FurthestFits

/-! ## The drum measurement unit -/

/-- A step changes the count of a healthy encoder by its sense, +1 for a forward step with a sense of +1, wrapping, and
nothing else; with no table the sense is +1; the count of a FAILED encoder stays (R21). -/
def Obligations.StepsCountByTheSense : Prop :=
  ∀ (d : Side) (e : Twin) (forward : Bool) (s : State),
    let x := s.drums.drum.get d
    let sense := (s.table.active.map fun a => (a.eff.winder.sense.get d).get e).getD true
    ((x.enc.get e).failed = true → exec (.encoderStep d e forward) s = .next s) ∧
    ((x.enc.get e).failed = false → exec (.encoderStep d e forward) s =
      .next { s with drums := { s.drums with drum := s.drums.drum.set d { x with
        enc := x.enc.set e
          ⟨(x.enc.get e).count + (if sense = forward then 1#32 else BitVec.ofInt 32 (-1)), false⟩ } } })

/-- A quadrature error or an inactive line monitor fails its encoder at once. From DUAL and DIVERGED the drum goes on with
the other encoder, its history emptied, its disagreement flag and advisory cleared, one DRUM report queued, and with a
wind open the degrade state starts when a drum in play left DUAL. A second failure leaves LOST, DRUM LOST active and every
stage latched. An encoder already FAILED fails again without effect (R22, R24, R26, R28, R32, R96). That the ALARM report of
the cleared advisory goes before the DRUM report is the model's choice (log entry 13). -/
def Obligations.FailuresChangeTheDrumAtOnce : Prop :=
  ∀ (d : Side) (e : Twin) (s : State) (c : Instr),
    c = .quadratureError d e ∨ c = .lineMonitorInactive d e → (s.drums.drum.get d).Fits →
    let x := s.drums.drum.get d
    let pins (t : State) := t.pins = if c = .quadratureError d e then s.pins
      else { s.pins with monitors := s.pins.monitors.set d ((s.pins.monitors.get d).set e false) }
    let enc := x.enc.set e ⟨(x.enc.get e).count, true⟩
    ((x.enc.get e).failed = true → Answers c s fun t =>
      s.Told t [] ∧ pins t ∧ t = { s with link := t.link, pins := t.pins }) ∧
    (x.state = .dual ∨ x.state = .diverged → Answers c s fun t =>
      let new := if e = .a then DrumState.singleB else .singleA
      s.Told t ((if x.disagree then [.alarm (.encoderDisagreement d) false] else []) ++
        [.drum d x.state new (decide (e = .a)) (decide (e = .b)) x.theta]) ∧ pins t ∧
      t.drums = { s.drums with drum := s.drums.drum.set d { x with
        enc := enc, state := new, disagree := false, agreeing := 0, history := [] } } ∧
      t.trip = (if x.disagree then
        { s.trip with active := s.trip.active.filter fun y => decide (y ≠ .encoderDisagreement d) } else s.trip) ∧
      t.env = (if x.state = .dual ∧ s.inPlay d = true ∧ s.windOpen = true ∧ s.env.degrade = none then
        { s.env with degrade := some ⟨s.playSpeed, 0⟩ } else s.env) ∧
      t = { s with link := t.link, pins := t.pins, drums := t.drums, env := t.env, trip := t.trip }) ∧
    (x.state = .singleA ∧ e = .a ∨ x.state = .singleB ∧ e = .b → Answers c s fun t =>
      pins t ∧ (t.drums.drum.get d).state = .lost ∧ (t.drums.drum.get d).enc = enc ∧
      (t.drums.drum.get d).theta = x.theta ∧ (t.drums.drum.get d).history = [] ∧
      11 ∈ t.trip.causes ∧ .drumLost d ∈ t.trip.active ∧ t.latches = ⟨true, true, true⟩ ∧ t.rope.side = s.rope.side ∧
      t.depth = s.depth ∧ t.inputs = s.inputs ∧ t.clock = s.clock)

/-- At a drum sample each drum forms its angle by its state, a drum in DUAL whose counts lie further apart than the
divergence limit enters DIVERGED with its DRUM report and raises ENCODER DIVERGENCE, which latches stage 1; payout,
history and speed follow from the angle: v is the change over the window divided by its milliseconds and rounded toward
zero, 0 in LOST, and kept with no earlier entry. A marked rest payout and a marked hold payout are taken; an agreeing or
disagreeing sample moves the flag and the count of DUAL, the advisory ENCODER DISAGREEMENT is set and cleared with the
flag, and a disagreeing sample counts in the open wind record (R23 to R26, R28 to R32, R36, R38, R127, R137). -/
def Obligations.DrumSamplesMeasureBothDrums : Prop :=
  ∀ s : State, Answers .drumSample s fun t =>
    t.drums.sampled = true ∧ t.drums.hold = (if s.drums.holdDue then some t.drums.drum.two.payoutMm else s.drums.hold) ∧
    ∀ d,
      let x := s.drums.drum.get d
      let y := t.drums.drum.get d
      let gap := mag (x.enc.a.count - x.enc.b.count).toInt
      y.theta = (match x.state with
        | .singleA => x.enc.a.count.toInt
        | .singleB => x.enc.b.count.toInt
        | .lost => x.theta
        | _ => (x.enc.a.count.toInt + x.enc.b.count.toInt) / 2) ∧
      y.state = (if x.state = .dual ∧ s.sup.diverge < gap then .diverged else x.state) ∧
      y.enc = x.enc ∧ y.payoutUm = s.payoutOf d y.theta ∧ y.payoutMm = (y.payoutUm + 500) / 1000 ∧
      (x.state = .lost → y.v = 0 ∧ y.history = []) ∧
      (x.state ≠ .lost → y.history = y.payoutUm :: x.history.take 8 ∧
        y.v = match (x.history.take 8).getLast? with
          | none => x.v
          | some oldest => Int.tdiv (y.payoutUm - oldest) (2 * ((x.history.take 8).length : Int))) ∧
      y.rest = (if x.restDue then y.payoutMm else x.rest) ∧
      (x.state = .dual → s.sup.diverge < gap → y.disagree = false ∧ y.agreeing = 0 ∧
        10 ∈ t.trip.causes ∧ t.latched .s1 = true ∧
        s.Sends t (.drum d .dual .diverged x.enc.a.failed x.enc.b.failed y.theta)) ∧
      (x.disagree = false → y.disagree = true → 32 ∈ t.trip.causes ∧ .encoderDisagreement d ∈ t.trip.active ∧
        s.Sends t (.alarm (.encoderDisagreement d) true)) ∧
      (x.disagree = true → y.disagree = false → .encoderDisagreement d ∉ t.trip.active ∧
        s.Sends t (.alarm (.encoderDisagreement d) false)) ∧
      (s.WindRuns t fun w v => (v.counts.get d).disagreements =
        if x.state = .dual ∧ gap ≤ s.sup.diverge ∧ s.sup.agree < gap then
          min Config.max16 ((w.counts.get d).disagreements + 1) else (w.counts.get d).disagreements) ∧
      (x.state = .dual → gap ≤ s.sup.diverge → s.sup.agree < gap → y.disagree = true ∧ y.agreeing = 0) ∧
      (x.state = .dual → gap ≤ s.sup.diverge → gap ≤ s.sup.agree → x.agreeing ≤ 50 →
        y.agreeing = min 50 (x.agreeing + 1) ∧ y.disagree = (x.disagree && decide (x.agreeing + 1 < 50)))

/-! ## Depth and envelope at a drum sample -/

/-- At a drum sample with a table active the unstretched depth of each side is its hang-off depth plus the sample's payout
plus K as it stood, and the depth adds the stretch; the uncertainty and the lock handed on are those the side had. With no
table both depths are 0 (R62, R63). The limit state follows the depth strictly; a side that comes to lie beyond a limit
raises LIMIT, which latches every stage. A lead side past its station by more than the overtravel band, in RUNNING or CREEP,
raises STATION OVERTRAVEL (R103, R104). That the sample's own lock changes come after the hand-over is the model's reading
(log entry 16). -/
def Obligations.DrumSamplesFormTheDepths : Prop :=
  ∀ s : State, Answers .drumSample s fun t =>
    (∀ d,
      let x := s.depth.get d
      let y := t.depth.get d
      y.sampledLock = x.lock ∧
      y.u = (match x.lock with
        | .locked => 0
        | .suspect => s.sup.capture
        | _ => s.sup.search) ∧
      (s.table.active = none → y.D0 = 0 ∧ y.D = 0 ∧ t.env.limit.get d = .inside) ∧
      (∀ a, s.table.active = some a →
        y.D0 = (a.eff.side.get d).hangOff + (t.drums.drum.get d).payoutMm + x.K ∧
        y.D = y.D0 + (s.rope.side.get d).stretch ∧
        t.env.limit.get d = (if y.D < (a.eff.side.get d).top then .beyondTop
          else if (a.eff.side.get d).bottom < y.D then .beyondBottom else .inside)) ∧
      (t.env.limit.get d ≠ .inside → t.env.limit.get d ≠ s.env.limit.get d →
        4 ∈ t.trip.causes ∧ t.latches = ⟨true, true, true⟩)) ∧
    ∀ w, s.atEnvelope.wind.current = some w → s.hasTable = true → w.phase = .running ∨ w.phase = .creep →
      (w.target - (t.depth.get w.lead).D) * w.dir.sign < -s.winder.overtravel →
        5 ∈ t.trip.causes ∧ t.latched .s1 = true ∧ t.latched .s2 = true

/-- What the lock of each side makes of a drum sample, once its depth is formed. A side whose drum is LOST is LOST, and
its entry leaves no direction, expected marker or rejection, raises POSITION LOST and latches stage 1; an UNREFERENCED
side enters SEARCHING on motion, a LOST one too when stage 1 is clear. The last direction of every other side is that of
its motion, and stays at rest; a change of it in LOCKED or SUSPECT sets the next expected marker anew from the depth.
Each marker such a side has passed by more than the capture band, the expected one and then the next one beyond it, is a
miss, counted in the open wind record, and counts as a rejection, which makes LOCKED SUSPECT and the third of SUSPECT
LOST; there no more are counted, and nothing is expected. A side in SEARCHING or ALIGNING adds the change of payout to
its search distance, and each search distance travelled advances the search counter modulo 64 and sets REFERENCE SEARCH
(R67, R72 to R77, R82). That the distance counts from the sample before the entry is the model's choice (log entry 21);
which of two markers at one depth is expected is a free value (log entry 28). -/
def Obligations.LocksFollowTheDrumSamples : Prop :=
  ∀ s : State, Answers .drumSample s fun t => ∀ d,
    let x := s.depth.get d
    let y := t.depth.get d
    let drumLost := (t.drums.drum.get d).state = .lost
    let moves := 50 ≤ mag (t.speed d)
    let dir := if moves then some (if 0 < t.speed d then Dir.descending else .ascending) else x.lastDir
    (drumLost → y.lock = .lost ∧ (x.lock ≠ .lost → y.next = none ∧ y.lastDir = none ∧ y.rejects = 0 ∧
      12 ∈ t.trip.causes ∧ t.latched .s1 = true)) ∧
    (¬ drumLost → x.lock = .unreferenced → y.lock = if moves then .searching else .unreferenced) ∧
    (¬ drumLost → x.lock = .lost → ¬ moves ∨ s.latched .s1 = true → y.lock = .lost) ∧
    (¬ drumLost → x.lock = .lost → moves → t.latched .s1 = false → y.lock = .searching) ∧
    (¬ drumLost → y.lastDir = if y.lock = .lost ∧ x.lock ≠ .lost then none else dir) ∧
    (¬ drumLost → x.lock.referenced = false → y.next = x.next) ∧
    (¬ drumLost → x.lock.referenced = true →
      let start := if dir = x.lastDir then x.next else dir.bind fun r => s.expectBeyond d r y.D
      let beyond (e : Marker) := dir.bind fun r => s.expectBeyond d r (e.depth r)
      let passed := (dir.map fun r => s.passedFrom d r y.D ((s.markersOf d).length + 1) start).getD []
      let after (n : Nat) := Nat.repeat charged n (x.lock, x.rejects)
      ∃ n, n ≤ passed.length ∧ (∀ k, k < n → (after k).1 ≠ .lost) ∧ (n < passed.length → (after n).1 = .lost) ∧
        (y.lock, y.rejects) = after n ∧
        y.next = (if y.lock = .lost then none else (passed.take n).foldl (fun _ e => beyond e) start) ∧
        (y.lock = .lost → 12 ∈ t.trip.causes ∧ t.latched .s1 = true) ∧
        s.WindRuns t fun w v => (v.counts.get d).missed =
          if n = 0 then (w.counts.get d).missed else min Config.max16 ((w.counts.get d).missed + n)) ∧
    (¬ drumLost → x.lock = .searching ∨ x.lock = .aligning → 0 < s.sup.searchDistance →
      let far := x.travelled + mag ((t.drums.drum.get d).payoutMm - x.lastPayout)
      let laps := (far / s.sup.searchDistance).toNat
      y.lock = x.lock ∧ y.K = x.K ∧ y.travelled = far % s.sup.searchDistance ∧
      y.searches = (x.searches + laps) % 64 ∧ y.searchFlag = (x.searchFlag || decide (0 < laps)) ∧
      (0 < laps → x.searchFlag = false → 36 ∈ t.trip.causes ∧ .referenceSearch d ∈ t.trip.active))

/-- At a drum sample with a wind open and a table active, as the envelope computer finds them, the permitted speed is
the least of 20,000 mm/s, the mode's v_max, the target term, the limit term and the zone terms of each side in play, and
the caps that apply: the lock cap, the degrade cap and the recovery cap. Each braking distance is shortened by the
side's uncertainty, and each side's direction is that of its motion, or at rest its intended one. With no wind open, and
with no table, the permitted speed is 0. The three thresholds stand above it by the greater of the margin and the floor,
or at the default floors with no table (R86 to R100). That uncertainty and lock cap follow the lock states handed on
before the sample's own lock changes is the model's reading (log entry 16). -/
def Obligations.PermittedSpeedIsTheLeastTerm : Prop :=
  ∀ s t : State, exec .drumSample s = .next t →
    let e := s.atEnvelope
    (e.wind.current = none ∨ s.hasTable = false → t.env.vp = 0) ∧
    (s.hasTable = false → t.env.thr = ⟨150, 300, 500⟩) ∧
    (s.hasTable = true → ∀ k,
      t.env.thr.get k = t.env.vp + max (t.env.vp * s.sup.margin.get k / 1000) (s.sup.floor.get k)) ∧
    ∀ w, e.wind.current = some w → s.hasTable = true →
      let p := s.mode w.mode
      let dir (d : Side) := if 50 ≤ mag (t.speed d) then (if 0 < t.speed d then Dir.descending else .ascending)
        else if d = w.lead then w.dir else w.dir.opposite
      let depth (d : Side) := (t.depth.get d).D
      let u (d : Side) := (t.depth.get d).u
      let limit (d : Side) := brakingSpeed 0 p.aRet ((match dir d with
        | .descending => (s.sideData d).bottom - depth d
        | .ascending => depth d - (s.sideData d).top) - u d)
      let zone (d : Side) (z : Zone) := if z.upper ≤ depth d ∧ depth d ≤ z.lower then some z.cap
        else match dir d with
          | .descending => if depth d < z.upper then some (brakingSpeed z.cap p.aRet (z.upper - depth d - u d)) else none
          | .ascending => if z.lower < depth d then some (brakingSpeed z.cap p.aRet (depth d - z.lower - u d)) else none
      let ahead := (w.target - depth w.lead) * w.dir.sign
      let target := if w.phase = .stopping then brakingSpeed 0 p.aRet ahead
        else if p.dCreep < ahead then brakingSpeed p.vCreep p.aRet (ahead - p.dCreep)
        else if 0 ≤ ahead then p.vCreep else 0
      let inPlay := if s.inputs.clutch then [Side.one, .two] else [.one]
      let unlocked := inPlay.any fun d => !(t.depth.get d).sampledLock.referenced
      let terms := [20000, p.vMax, target] ++ inPlay.map limit ++
        inPlay.flatMap (fun d => (s.zonesOf d).filterMap (zone d)) ++
        (if unlocked then [(s.mode .inspect).vMax] else []) ++
        (match e.env.degrade with
          | some g => [max s.winder.degradedCap (g.v0 - p.aRet * (g.elapsed : Int) / 1000)]
          | none => []) ++
        (if e.wind.recovery.isSome then [Config.recoveryCap] else [])
      t.env.vp ∈ terms ∧ ∀ x ∈ terms, t.env.vp ≤ x

/-- Braking speeds: the integer square root of an unsigned 64-bit value is the largest whole number whose square does not
exceed it; a braking speed is that root of v² + 2·a·s with the distance made non-negative, so it never exceeds the exact
one; and the stopping distance is v²/(2·a) rounded upward (R90, R119). -/
def Obligations.BrakingSpeedsNeverRoundUp : Prop :=
  (∀ x : Nat, x < 2 ^ 64 → isqrt x * isqrt x ≤ x ∧ x < (isqrt x + 1) * (isqrt x + 1)) ∧
  (∀ v a dist : Int, 0 ≤ a → v * v + 2 * a * max dist 0 < 2 ^ 64 →
    let b := brakingSpeed v a dist
    0 ≤ b ∧ b * b ≤ v * v + 2 * a * max dist 0 ∧ v * v + 2 * a * max dist 0 < (b + 1) * (b + 1)) ∧
  ∀ v a : Int, 0 < a → v * v ≤ stopDistance v a * (2 * a) ∧ stopDistance v a * (2 * a) < v * v + 2 * a

/-- Overspeed of one stage at a judged sample: with no side in play above the threshold the counter is 0; the first
exceeding sample counts one; the second raises OVERSPEED of that stage with the sides at fault and returns the counter to
0, the stage and every lower one then latched (R101). A drum sample judges each stage so, on the speeds and thresholds it
has formed, while the wind is in RUNNING, CREEP or STOPPING; in IDLE and ACCEPTED the counters are 0 (R101, R102). -/
def Obligations.OverspeedNeedsTwoSamples : Prop :=
  (∀ (s : State) (k : Stage),
    let thr := s.env.thr.get k
    let exceeds (d : Side) := s.inPlay d = true ∧ thr < mag (s.speed d)
    let t := s.judgeStageSpeed k
    t.env.overCount.get k = (if (exceeds .one ∨ exceeds .two) ∧ s.env.overCount.get k = 0 then 1 else 0) ∧
    (¬ (exceeds .one ∨ exceeds .two) ∨ s.env.overCount.get k = 0 → t.trip = s.trip ∧ t.wind = s.wind ∧ t.link = s.link) ∧
    ((exceeds .one ∨ exceeds .two) → 1 ≤ s.env.overCount.get k →
      3 ∈ t.trip.causes ∧ (∀ j, stageCode j ≤ stageCode k → t.latched j = true) ∧
      (∀ j, s.latched j = true → t.trip.latch.get j = s.trip.latch.get j) ∧
      ∀ c, s.trip.latch.get k = .clear → t.trip.latch.get k = .latched c →
        c = .overspeed k (if ¬ exceeds .one then .two else if ¬ exceeds .two then .one else .both))) ∧
  ∀ s : State, s.hasTable = true → Answers .drumSample s fun t => ∀ k,
    let phase := s.atEnvelope.phase
    let exceeds (d : Side) := s.inPlay d = true ∧ t.env.thr.get k < mag (t.speed d)
    (phase = none ∨ phase = some .accepted → t.env.overCount.get k = 0) ∧
    (phase ≠ none → phase ≠ some .accepted →
      t.env.overCount.get k = (if (exceeds .one ∨ exceeds .two) ∧ s.env.overCount.get k = 0 then 1 else 0) ∧
      (exceeds .one ∨ exceeds .two → 1 ≤ s.env.overCount.get k →
        3 ∈ t.trip.causes ∧ (∀ j, stageCode j ≤ stageCode k → t.latched j = true) ∧
        (s.latched k = false → t.phase = some .stopping)))

/-! ## The wind controller at a drum sample -/

/-- What a drum sample makes of the wind it finds open, while it latches no stage: the wind follows the payout of its
lead drum. 100 mm from the start in the intended direction it enters RUNNING and its start timer stops; from RUNNING it
enters CREEP when the target distance is at most the creep distance; the furthest point follows, the dwell timer runs
while every drum in play is stationary and stops when one moves, and the peaks are kept. Each change of state queues a
WIND report. A MAN wind that enters RUNNING with both channels BAD on a side in play raises LOAD LOST and stops. 300 mm
against the intended direction, in ACCEPTED and RUNNING, raises WRONG DIRECTION: the wind stops, or closes if it has not
started. That last is said of a wind whose furthest point, in ACCEPTED, is less than 100 mm from its start, as every step
keeps it (StepsKeepTheFurthestPointFitting; R57, R112, R113, R115, R116, R127). The mechanisms act in the order of R109's
list (log entry 19). -/
def Obligations.WindsFollowTheirLeadDrum : Prop :=
  ∀ (s : State) (w : OpenWind), s.atWind.wind.current = some w →
    Answers .drumSample s fun t =>
      let m := s.atWind
      let p := (t.drums.drum.get w.lead).payoutMm
      let early := w.phase = .accepted ∨ w.phase = .running
      let furthest := if early ∧ 0 < (p - w.furthest) * w.dir.sign then p else w.furthest
      let starts := w.phase = .accepted ∧ 100 ≤ (p - w.startPayout) * w.dir.sign
      let creeps := (starts ∨ w.phase = .running) ∧
        (w.target - (t.depth.get w.lead).D) * w.dir.sign ≤ (s.mode w.mode).dCreep
      let phase := if creeps then Phase.creep else if starts then .running else w.phase
      let resting := mag (t.speed .one) < 50 ∧ (s.inputs.clutch = true → mag (t.speed .two) < 50)
      let v := mag (t.speed w.lead)
      let usage := if phase = .running ∨ phase = .creep then min 65535 (v * 1000 / max t.env.vp 1).toNat else 0
      (t.latches = m.latches → t.wind.current = some { w with
        phase := phase
        furthest := furthest
        start := if starts then none else w.start
        dwell := if phase = .accepted then w.dwell else if resting then w.dwell.or (some 2000) else none
        peakSpeed := max w.peakSpeed v
        peakUsage := max w.peakUsage usage }) ∧
      (t.latches = m.latches → s.isProving = false → m.Told t
        ((if starts then [.wind w.number (some .running) none w.destination] else []) ++
          if creeps then [.wind w.number (some .creep) none w.destination] else [])) ∧
      (starts → w.mode = .man → m.rope.loadLost = false →
        (s.rope.side.one.bothBad = true ∨ s.inputs.clutch = true ∧ s.rope.side.two.bothBad = true) →
          15 ∈ t.trip.causes ∧ t.latched .s1 = true ∧ (m.latched .s1 = false → t.phase = some .stopping)) ∧
      ((w.phase = .accepted → (w.furthest - w.startPayout) * w.dir.sign < 100) →
        early → 300 ≤ (furthest - p) * w.dir.sign → 6 ∈ t.trip.causes ∧ t.latched .s1 = true ∧
        (m.latched .s1 = false → t.phase = if w.phase = .accepted ∧ ¬ starts then none else some .stopping))

/-- What a drum sample watches beside the wind. In IDLE a drum further than the creep allowance from its rest payout,
its flag clear, raises UNINTENDED MOTION once and sets the flag; a drum whose rest payout waits to be taken is not
judged (log entry 20). With the clutch disengaged a drum 2 further than that from its hold payout raises DRUM 2 CREEP
once, whatever the wind. In recovery the point of each offending side follows its inward motion, and 100 mm outward of
it raises RECOVERY MOTION, in every wind state; an ACCEPTED wind that another cause of the sample has closed may have
ended recovery before (R123, R124, R126). -/
def Obligations.RestingDrumsAreWatched : Prop :=
  ∀ s : State, Answers .drumSample s fun t =>
    let m := s.atWind
    let p (d : Side) := (t.drums.drum.get d).payoutMm
    let allowance := s.winder.creepAllowance
    let strays (d : Side) := (m.drums.drum.get d).restDue = false ∧ allowance < mag (p d - (m.drums.drum.get d).rest)
    let slips := s.inputs.clutch = false ∧ ∃ h, m.drums.hold = some h ∧ allowance < mag (p .two - h)
    (∀ d, m.wind.current = none →
      t.wind.unintended.get d = (m.wind.unintended.get d || decide (strays d)) ∧
      (m.wind.unintended.get d = false → strays d →
        7 ∈ t.trip.causes ∧ t.latched .s1 = true ∧ t.latched .s2 = true)) ∧
    (∀ d, m.wind.current ≠ none → t.wind.unintended.get d = true → m.wind.unintended.get d = true) ∧
    (slips → t.wind.creepFlag = true ∧
      (m.wind.creepFlag = false → 8 ∈ t.trip.causes ∧ t.latches = ⟨true, true, true⟩)) ∧
    (¬ slips → t.wind.creepFlag = m.wind.creepFlag) ∧
    (m.wind.recovery = none → t.wind.recovery = none) ∧
    ∀ r, m.wind.recovery = some r → ∀ d o, r.get d = some o →
      let point := match o.outward with
        | .descending => min o.point (p d)
        | .ascending => max o.point (p d)
      (∀ r1, t.wind.recovery = some r1 → r1.get d = some { o with point := point }) ∧
      (m.phase ≠ some .accepted ∨ m.offendersInside r = false → t.wind.recovery.isSome = true) ∧
      (m.phase ≠ some .accepted ∨ m.offendersInside r = false ∨ 6 ∉ t.trip.causes ∧ 8 ∉ t.trip.causes →
        100 < (p d - point) * o.outward.sign → 18 ∈ t.trip.causes ∧ t.latches = ⟨true, true, true⟩ ∧
          (m.latched .s1 = false → t.phase = none ∨ t.phase = some .stopping))

/-! ## The rope load unit -/

/-- A load frame that repeats the last sequence number changes nothing. Any other is valid: its number becomes the last
one, the frame timer is restarted at 25 ms, a channel with a value is GOOD with the value in its filter, alone in all
eight slots unless it was GOOD, and a channel flagged invalid falls from GOOD to HELD with its hold timer at 500 ms. A
channel that returns with its alarm flag set clears LOAD CHANNEL (R42 to R46). -/
def Obligations.LoadSamplesUpdateTheChannels : Prop :=
  ∀ (f : LoadFrame) (s : State),
    (s.rope.lastSeq = some f.seq →
      exec (.loadSample f) s = .next { s with rope := { s.rope with rx := .hunting } }) ∧
    (s.rope.lastSeq ≠ some f.seq → Answers (.loadSample f) s fun t =>
      t.rope.lastSeq = some f.seq ∧ t.rope.frame = some 25 ∧ t.rope.rx = .hunting ∧ t.drums.drum.one.enc = s.drums.drum.one.enc ∧
      (∀ d r, (s.loadChan d r).alarm = true → (t.loadChan d r).alarm = false →
        .loadChannel d r ∉ t.trip.active ∧ s.Sends t (.alarm (.loadChannel d r) false)) ∧
      ∀ d r, t.loadChan d r = match (f.value.get d).get r with
        | none => if (s.loadChan d r).health = .good then
            { s.loadChan d r with health := .held, hold := some 500 } else s.loadChan d r
        | some v =>
          { health := .good, hold := none, alarm := false
            slots := if (s.loadChan d r).health = .good then (s.loadChan d r).slots.drop 1 ++ [v.toNat]
              else [v.toNat, v.toNat, v.toNat, v.toNat, v.toNat, v.toNat, v.toNat, v.toNat] })

/-- A load evaluation, at a valid frame or at an expiry of the frame timer, forms each side's tension from its usable
channels, twice the one when the other is BAD, the nominal tension with both BAD, and from it the stretch, always
between 0 and 20,000 mm, and the payload. Before the first drum sample after a reset none of the three changes. Each
side's both-BAD status is formed anew, and an expiry that finds it true for a side in play, over a MAN wind under way
not yet judged so, raises LOAD LOST. The expiry of the frame timer sends every GOOD channel to HELD and restarts the
timer at 10 ms; with the timer restarted by a frame taken first the expiry does not happen (log entry 2; R43, R44, R47
to R51, R56, R57). -/
def Obligations.LoadEvaluationsWeighBothSides : Prop :=
  (∀ s : State, s.rope.frame ≠ some 0 → exec .frameTimerExpiry s = .next s) ∧
  ∀ (s : State) (c : Instr),
    (c = .frameTimerExpiry ∧ s.rope.frame = some 0) ∨ (∃ f, c = .loadSample f ∧ s.rope.lastSeq ≠ some f.seq) →
    Answers c s fun t =>
      (c = .frameTimerExpiry → t.rope.frame = some 10 ∧ t.rope.lastSeq = s.rope.lastSeq ∧ ∀ d r,
        t.loadChan d r = if (s.loadChan d r).health = .good then
          { s.loadChan d r with health := .held, hold := some 500 } else s.loadChan d r) ∧
      (s.drums.sampled = true → ∀ d, (t.rope.side.get d).bothBad =
        decide ((t.loadChan d .a).health = .bad ∧ (t.loadChan d .b).health = .bad)) ∧
      (∀ w, s.wind.current = some w → c = .frameTimerExpiry → s.drums.sampled = true → w.mode = .man →
        w.phase = .running ∨ w.phase = .creep → s.rope.loadLost = false →
        (t.rope.side.one.bothBad = true ∨ s.inputs.clutch = true ∧ t.rope.side.two.bothBad = true) →
          15 ∈ t.trip.causes ∧ t.latched .s1 = true ∧ (s.latched .s1 = false → t.phase = some .stopping)) ∧
      ∀ d,
        let p := t.rope.side.get d
        let lim := s.sideData d
        let L := (s.depth.get d).D0 - s.winder.sheave.get d
        let empty := lim.weight + lim.ropeWeight * max L 0 / 1000
        let fits (x : Int) : Prop := -(2 ^ 63) ≤ x ∧ x < 2 ^ 63
        let fa : Int := (p.chan.a.slots.sum / 8 * 10 : Nat)
        let fb : Int := (p.chan.b.slots.sum / 8 * 10 : Nat)
        (s.drums.sampled = false → p.tension = (s.rope.side.get d).tension ∧
          p.stretch = (s.rope.side.get d).stretch ∧ p.payload = (s.rope.side.get d).payload) ∧
        (s.drums.sampled = true →
          p.tension = (match p.chan.a.health, p.chan.b.health with
            | .bad, .bad => if s.hasTable then empty + lim.payloadLimit / 2 else 0
            | .bad, _ => 2 * fb
            | _, .bad => 2 * fa
            | _, _ => fa + fb) ∧
          0 ≤ p.stretch ∧ p.stretch ≤ 20000 ∧
          (s.hasTable = false ∨ L ≤ 0 → p.stretch = 0) ∧
          (s.hasTable = true → 0 < L → fits (p.tension * L) → fits (lim.ropeWeight * (L * L)) →
            fits (p.tension * L - lim.ropeWeight * (L * L) / 2000) →
            p.stretch = clamp 0 20000
              ((p.tension * L - lim.ropeWeight * (L * L) / 2000 + lim.stiffness * 500) / (lim.stiffness * 1000))) ∧
          p.payload = (if s.hasTable then max 0 (p.tension - empty) else 0))

/-- At a load sample with a table active and a drum sample taken, each side with both channels usable is judged on its
imbalance in per-mille: above the alarm limit counts toward the BALANCE advisory, set at four, at or below the clear limit
counts toward its clearing, at eight, and above the trip limit counts toward ROPE IMBALANCE, raised at four. A side with a
usable channel, paying out faster than 50 mm/s under less than its slack limit, counts toward SLACK ROPE, raised at three. An
expiry of the frame timer, and a sample before the first drum sample or with no table, moves none of these counts (R52 to
R55). -/
def Obligations.RopesAreSupervised : Prop :=
  ∀ (s : State) (c : Instr),
    (c = .frameTimerExpiry ∧ s.rope.frame = some 0) ∨ (∃ f, c = .loadSample f ∧ s.rope.lastSeq ≠ some f.seq) →
    Answers c s fun t => ∀ d,
      let p := s.rope.side.get d
      let q := t.rope.side.get d
      let lim := s.sideData d
      let judged := c ≠ .frameTimerExpiry ∧ s.drums.sampled = true ∧ s.hasTable = true
      let usable (r : Twin) := (t.loadChan d r).health ≠ .bad
      let fa : Int := (q.chan.a.slots.sum / 8 * 10 : Nat)
      let fb : Int := (q.chan.b.slots.sum / 8 * 10 : Nat)
      let i := if fa + fb = 0 then 0 else mag (fa - fb) * 1000 / (fa + fb)
      let empty := lim.weight + lim.ropeWeight * max ((s.depth.get d).D0 - s.winder.sheave.get d) 0 / 1000
      let slack := (usable .a ∨ usable .b) ∧ 50 < s.speed d ∧ q.tension < lim.slack * empty / 1000
      (¬ judged → q.alarms = p.alarms ∧ q.clears = p.clears ∧ q.trips = p.trips ∧ q.slacks = p.slacks ∧
        q.balance = p.balance) ∧
      (judged → usable .a → usable .b → p.alarms ≤ 8 → p.clears ≤ 8 →
        (lim.alarm < i → q.alarms = min 8 (p.alarms + 1) ∧ q.clears = 0 ∧
          q.balance = (p.balance || decide (3 ≤ p.alarms))) ∧
        (i ≤ lim.alarm → lim.clear < i → q.alarms = 0 ∧ q.clears = 0 ∧ q.balance = p.balance) ∧
        (i ≤ lim.alarm → i ≤ lim.clear → q.alarms = 0 ∧ q.clears = min 8 (p.clears + 1) ∧
          q.balance = (p.balance && decide (p.clears < 7))) ∧
        (p.balance = false → q.balance = true → 33 ∈ t.trip.causes ∧ .balance d ∈ t.trip.active) ∧
        (p.balance = true → q.balance = false → .balance d ∉ t.trip.active) ∧
        (i ≤ lim.trip → q.trips = 0) ∧
        (lim.trip < i → p.trips < 3 → q.trips = p.trips + 1) ∧
        (lim.trip < i → 3 ≤ p.trips →
          q.trips = 0 ∧ 14 ∈ t.trip.causes ∧ t.latched .s1 = true ∧ t.latched .s2 = true)) ∧
      (judged → ¬ (usable .a ∧ usable .b) → q.alarms = p.alarms ∧ q.clears = p.clears ∧ q.trips = p.trips ∧
        q.balance = p.balance) ∧
      (judged → ¬ slack → q.slacks = 0) ∧
      (judged → slack → p.slacks < 2 → q.slacks = p.slacks + 1) ∧
      (judged → slack → 2 ≤ p.slacks →
        q.slacks = 0 ∧ 13 ∈ t.trip.causes ∧ t.latches = ⟨true, true, true⟩)

/-- The expiry of a channel's hold timer leaves the channel BAD with its alarm flag set; LOAD CHANNEL is set and
reported when the flag was clear, and the side's both-BAD status is formed anew. A side in play that becomes both-BAD
over an open wind starts the degrade state, and over a MAN wind in RUNNING or CREEP not yet judged so it raises LOAD
LOST with the sides at fault, latches stage 1 and stops the wind. Otherwise nothing else happens. A timer that is
stopped or has time left does nothing (log entry 2; R44, R45, R56, R57, R96, R119). -/
def Obligations.HoldTimersEndInBad : Prop :=
  ∀ (d : Side) (r : Twin) (s : State),
    ((s.loadChan d r).hold ≠ some 0 → exec (.holdTimerExpiry d r) s = .next s) ∧
    ((s.loadChan d r).hold = some 0 → Answers (.holdTimerExpiry d r) s fun t =>
      let advisory := Cause.loadChannel d r
      let both := (t.loadChan d .a).health = .bad ∧ (t.loadChan d .b).health = .bad
      let changes := decide both ≠ (s.rope.side.get d).bothBad
      let fault (x : Side) := (t.rope.side.get x).bothBad = true ∧ s.inPlay x = true
      let underWay := ∃ w, s.wind.current = some w ∧ w.mode = .man ∧ (w.phase = .running ∨ w.phase = .creep)
      let loses := changes ∧ underWay ∧ (fault .one ∨ fault .two) ∧ s.rope.loadLost = false
      t.loadChan d r = { s.loadChan d r with health := .bad, hold := none, alarm := true } ∧
      (∀ d1 r1, d1 ≠ d ∨ r1 ≠ r → t.loadChan d1 r1 = s.loadChan d1 r1) ∧
      (t.rope.side.get d).bothBad = decide both ∧ (t.rope.side.get d.other).bothBad = (s.rope.side.get d.other).bothBad ∧
      ((s.loadChan d r).alarm = false → 34 ∈ t.trip.causes ∧ advisory ∈ t.trip.active ∧ s.Sends t (.alarm advisory true)) ∧
      t.env = (if both ∧ changes ∧ s.inPlay d = true ∧ s.windOpen = true then
        { s.env with degrade := s.env.degrade.or (some ⟨s.playSpeed, 0⟩) } else s.env) ∧
      (loses → 15 ∈ t.trip.causes ∧ t.latched .s1 = true ∧
        (s.latched .s1 = true → t.trip.latch.get .s1 = s.trip.latch.get .s1) ∧
        (s.latched .s1 = false → t.phase = some .stopping ∧ t.wind.current.bind OpenWind.stop = some .trip ∧
          t.trip.latch.get .s1 = .latched
            (.loadLost (if ¬ fault .one then .two else if ¬ fault .two then .one else .both)))) ∧
      (¬ loses → s.Told t (if (s.loadChan d r).alarm then [] else [.alarm advisory true]) ∧ t.latches = s.latches ∧
        t = { s with link := t.link, rope := t.rope, env := t.env, trip := t.trip }))

/-! ## Marker edges -/

/-- A marker edge makes its line active. With no table it does nothing more. A side at rest (its drum may be LOST, log
entry 22) keeps K, lock and counts, and its expected marker, if it lies on the line, is satisfied: the next one expected
is the one beyond it. With both sides at rest nothing else happens. A side that moves and claims the edge moves K by the
residual within the correction authority, whatever the other side does: UNREFERENCED and SEARCHING become ALIGNING, and
ALIGNING, LOCKED and SUSPECT become LOCKED with the reject count 0 and the next expected marker beyond the candidate. At
the entry to LOCKED the search counter and the distance travelled return to 0 and REFERENCE SEARCH clears. CORRECTION
LIMIT is set when the clamp has acted and cleared when it has not, and the open wind record counts the accepted edge, the
markers passed over (those at one depth as log entry 45 says) and the change of K. With the other side at rest no encoder
fails. That the command is judged as an edge whatever level the line had is the model's choice (log entry 8; R35, R61,
R64 to R71, R75, R77, R82, R127). -/
def Obligations.MarkerEdgesCorrectTheDepth : Prop :=
  ∀ (line : Fin 16) (s : State),
    let pins := { s.pins with lines := s.pins.lines.set line true }
    let rest (d : Side) := s.stationary d = true ∨ (s.drums.drum.get d).state = .lost
    let beyond (d : Side) : Option Nat :=
      match (s.depth.get d).lastDir, s.expected d with
      | some dir, some e => if e.line = line.val then s.expectBeyond d dir (e.depth dir) else (s.depth.get d).next
      | _, _ => (s.depth.get d).next
    (s.hasTable = false → exec (.markerEdge line) s = .next { s with pins := pins }) ∧
    (s.hasTable = true → rest .one → rest .two → Answers (.markerEdge line) s fun t =>
      s.Told t [] ∧ t.pins = pins ∧ t = { s with link := t.link, pins := t.pins, depth := t.depth }) ∧
    (∀ d, s.hasTable = true → rest d → Answers (.markerEdge line) s fun t =>
      t.depth.get d = { s.depth.get d with next := beyond d }) ∧
    ∀ d, s.hasTable = true → ¬ rest d → s.arbitrates d = false →
      let x := s.depth.get d
      let dir := if 0 < s.speed d then Dir.descending else .ascending
      let depth := (s.sideData d).hangOff + toMm (s.payoutOf d (s.drums.drum.get d).formTheta) + x.K +
        (s.rope.side.get d).stretch
      ∀ m, candidate dir depth (s.markersOn d line) = some m →
      let r := m.depth dir - depth
      let K := clamp (-s.authority) s.authority (x.K + r)
      let clamped := K ≠ x.K + r
      let taken (t : State) (missed : Nat) :=
        (t.depth.get d).K = K ∧ t.pins = pins ∧ (rest d.other → t.drums = s.drums) ∧
        (t.depth.get d).limitFlag = decide clamped ∧
        (clamped → x.limitFlag = false → 35 ∈ t.trip.causes ∧ .correctionLimit d ∈ t.trip.active) ∧
        (¬ clamped → x.limitFlag = true → .correctionLimit d ∉ t.trip.active) ∧
        s.WindRuns t fun w v =>
          let n := w.counts.get d
          v.counts.get d = { n with
            accepted := min Config.max16 (n.accepted + 1)
            missed := if missed = 0 then n.missed else min Config.max16 (n.missed + missed)
            correction := clamp (-Config.maxCorrection) Config.maxCorrection (n.correction + (K - x.K)) }
      (x.lock = .searching ∨ x.lock = .unreferenced → mag r ≤ s.sup.search → Answers (.markerEdge line) s fun t =>
        taken t 0 ∧ (t.depth.get d).lock = .aligning) ∧
      (x.lock = .aligning ∨ x.lock.referenced = true → mag r ≤ s.sup.capture → Answers (.markerEdge line) s fun t =>
        let y := t.depth.get d
        taken t (if x.lock = .aligning then 0 else s.passedOver d dir m) ∧ y.lock = .locked ∧ y.rejects = 0 ∧
        y.next = s.expectBeyond d dir (m.depth dir) ∧
        (x.lock = .locked → y.travelled = x.travelled ∧ y.searches = x.searches ∧ y.searchFlag = x.searchFlag) ∧
        (x.lock ≠ .locked → y.travelled = 0 ∧ y.searches = 0 ∧ y.searchFlag = false ∧
          (x.searchFlag = true → .referenceSearch d ∉ t.trip.active ∧
            s.Sends t (.alarm (.referenceSearch d) false))))

/-- A marker edge that a moving side does not claim. When nobody claims it, the candidate of the side is rejected: LOCKED
becomes SUSPECT, SUSPECT counts on and at the third rejection is LOST with POSITION LOST raised and stage 1 latched,
ALIGNING falls back to SEARCHING with K at 0, and SEARCHING stays; each rejection counts in the open wind record, with
the change of K. An edge on a line with no marker of any side taking part is stray and counts so in LOCKED and SUSPECT
alone. A claim of the other side, or a candidate of the other side alone, costs nothing. UNREFERENCED is SEARCHING by its
motion, LOST is left alone. A DIVERGED drum of a side that is ALIGNING, LOCKED or SUSPECT is arbitrated: the encoder
whose candidate lies closer is kept, A on a tie; within the capture band the other one fails and the side is LOCKED on
the kept residual, with the search counter and distance at 0 if it was not, beyond it, with no claim of the other side,
both fail and DRUM LOST latches every stage (R27, R66 to R69, R72, R73, R77 to R79, R82). That the verdict goes before
the side's own handling, and with the other side at rest the count in the LOCK report, are the model's choices (log
entries 14 and 30). -/
def Obligations.UnclaimedEdgesCountAgainstTheSide : Prop :=
  ∀ (line : Fin 16) (s : State) (d : Side),
    let x := s.depth.get d
    let restOther := s.stationary d.other = true ∨ (s.drums.drum.get d.other).state = .lost
    s.hasTable = true → s.stationary d = false → (s.drums.drum.get d).state ≠ .lost →
      let other := (((s.meetEdge .one line).meetEdge .two line).edgePart d.other line)
      let dir := if 0 < s.speed d then Dir.descending else .ascending
      let depth (payout : Int) := (s.sideData d).hangOff + payout + x.K + (s.rope.side.get d).stretch
      let markers := s.markersOn d line
      let kept := if x.lock = .unreferenced then { x with lock := .searching, travelled := 0 } else x
      let charged := if x.lock = .suspect ∧ 2 ≤ x.rejects then
          { x with lock := .lost, next := none, lastDir := none, rejects := 0 }
        else { x with lock := .suspect, rejects := x.rejects + 1 }
      let counted (n : SideCounts) := { n with rejected := min Config.max16 (n.rejected + 1) }
      let costs (t : State) := t.depth.get d = charged ∧
        (s.WindRuns t fun w v => v.counts.get d = counted (w.counts.get d)) ∧
        (charged.lock = .lost → 12 ∈ t.trip.causes ∧ t.latched .s1 = true)
      (s.arbitrates d = false → Answers (.markerEdge line) s fun t =>
        (∀ m, x.lock ≠ .lost → candidate dir (depth (toMm (s.payoutOf d (s.drums.drum.get d).formTheta))) markers = some m →
          let r := m.depth dir - depth (toMm (s.payoutOf d (s.drums.drum.get d).formTheta))
          let band := if kept.lock = .searching then s.sup.search else s.sup.capture
          band < mag r →
            (other.claims = true ∨ kept.lock = .searching → t.depth.get d = kept) ∧
            (other.claims = true → s.WindRuns t fun w v => v.counts.get d = w.counts.get d) ∧
            (other.claims = false → kept.lock = .searching →
              s.WindRuns t fun w v => v.counts.get d = counted (w.counts.get d)) ∧
            (other.claims = false → x.lock = .aligning → t.depth.get d = { x with K := 0, lock := .searching } ∧
              s.WindRuns t fun w v => v.counts.get d = { counted (w.counts.get d) with
                correction := clamp (-Config.maxCorrection) Config.maxCorrection
                  ((w.counts.get d).correction - x.K) }) ∧
            (other.claims = false → x.lock.referenced = true → costs t ∧
              (x.lock = .locked → restOther →
                s.Told t [.lock d .locked .suspect x.K s.sup.capture (x.rejects + 1) x.searches (some m.id)] ∧
                t.drums = s.drums ∧ t.trip = s.trip))) ∧
        (x.lock ≠ .lost → markers = [] →
          (other.isJudged = true ∨ x.lock.referenced = false → t.depth.get d = kept) ∧
          (other.isJudged = false → x.lock.referenced = true → costs t)) ∧
        (x.lock = .lost → t.depth.get d = x)) ∧
      (s.arbitrates d = true → (s.drums.drum.get d).Fits →
        let depthOf (e : Twin) := depth (toMm (s.payoutOf d ((s.drums.drum.get d).enc.get e).count.toInt))
        ∀ mA, candidate dir (depthOf .a) markers = some mA → ∀ mB, candidate dir (depthOf .b) markers = some mB →
        let rA := mA.depth dir - depthOf .a
        let rB := mB.depth dir - depthOf .b
        let keepA := mag rA ≤ mag rB
        let r := if keepA then rA else rB
        Answers (.markerEdge line) s fun t =>
          let y := t.drums.drum.get d
          (mag r ≤ s.sup.capture → (t.depth.get d).K = clamp (-s.authority) s.authority (x.K + r) ∧
            (t.depth.get d).lock = .locked ∧ (t.depth.get d).rejects = 0 ∧
            (x.lock ≠ .locked → (t.depth.get d).travelled = 0 ∧ (t.depth.get d).searches = 0 ∧
              (t.depth.get d).searchFlag = false) ∧
            y.state = (if keepA then .singleA else .singleB) ∧
            y.enc.a.failed = !decide keepA ∧ y.enc.b.failed = decide keepA ∧ y.history = []) ∧
          (s.sup.capture < mag r → other.claims = false → y.state = .lost ∧ y.enc.a.failed = true ∧
            y.enc.b.failed = true ∧ .drumLost d ∈ t.trip.active ∧ t.latches = ⟨true, true, true⟩) ∧
          (s.sup.capture < mag r → other.claims = true → t.depth.get d = x ∧ y = s.drums.drum.get d))

/-! ## The wired inputs -/

/-- A change of level of the clutch, drum-2-held or reset permissive input starts its settling timer at 20 ms when the
level differs from the settled state and stops it otherwise; a level the input already has changes nothing. The release
of a marker line makes its level inactive, a monitor that becomes active again makes its level active, and nothing else
changes; that both are operands of this command is the model's choice (log entry 8). While a level has not held its 20
ms it does not settle (log entry 2). A settled change of drum-2-held to inactive while the clutch is disengaged raises
DRUM 2 CREEP whatever the flag; with the clutch engaged, or to active, and for the reset permissive, the settled state
alone changes (R22, R35, R37, R124, R139). -/
def Obligations.WiredInputsSettle : Prop :=
  ∀ s : State,
    (∀ level, s.pins.clutch = level → exec (.inputLevelChange (.clutch level)) s = .next s) ∧
    (∀ level, s.pins.held = level → exec (.inputLevelChange (.held level)) s = .next s) ∧
    (∀ level, s.pins.permissive = level → exec (.inputLevelChange (.permissive level)) s = .next s) ∧
    (∀ level, s.pins.clutch ≠ level → exec (.inputLevelChange (.clutch level)) s = .next { s with
      pins := { s.pins with clutch := level }
      inputs := { s.inputs with clutchTimer := if level = s.inputs.clutch then none else some 20 } }) ∧
    (∀ level, s.pins.held ≠ level → exec (.inputLevelChange (.held level)) s = .next { s with
      pins := { s.pins with held := level }
      inputs := { s.inputs with heldTimer := if level = s.inputs.held then none else some 20 } }) ∧
    (∀ level, s.pins.permissive ≠ level → exec (.inputLevelChange (.permissive level)) s = .next { s with
      pins := { s.pins with permissive := level }
      inputs := { s.inputs with permissiveTimer := if level = s.inputs.permissive then none else some 20 } }) ∧
    (∀ line, exec (.inputLevelChange (.lineReleased line)) s =
      .next { s with pins := { s.pins with lines := s.pins.lines.set line false } }) ∧
    (∀ d e, exec (.inputLevelChange (.monitorActive d e)) s = .next { s with
      pins := { s.pins with monitors := s.pins.monitors.set d ((s.pins.monitors.get d).set e true) } }) ∧
    (s.inputs.heldTimer ≠ some 0 ∨ s.pins.held = s.inputs.held → exec .drum2HeldSettledChange s = .next s) ∧
    (s.inputs.heldTimer = some 0 → s.pins.held ≠ s.inputs.held → Answers .drum2HeldSettledChange s fun t =>
      t.inputs = { s.inputs with held := s.pins.held, heldTimer := none } ∧
      (s.pins.held = false → s.inputs.clutch = false → 8 ∈ t.trip.causes ∧ t.latches = ⟨true, true, true⟩) ∧
      (s.pins.held = true ∨ s.inputs.clutch = true →
        s.Told t [] ∧ t = { s with link := t.link, inputs := t.inputs })) ∧
    (s.inputs.permissiveTimer ≠ some 0 ∨ s.pins.permissive = s.inputs.permissive →
      exec .resetPermissiveSettledChange s = .next s) ∧
    (s.inputs.permissiveTimer = some 0 → s.pins.permissive ≠ s.inputs.permissive →
      exec .resetPermissiveSettledChange s = .next { s with
        inputs := { s.inputs with permissive := s.pins.permissive, permissiveTimer := none } })

/-- A settled change of the clutch while a drum moves raises CLUTCH IN MOTION, every stage latched. With both drums at
rest nothing is raised: an ACCEPTED wind closes ABORTED with its park write, which holds the new clutch state, and with
nothing more unless its closure ends recovery, when each LIMIT that stands is raised anew; a wind in RUNNING or CREEP
stops with the cause ABORT; an idle or stopping one is left. Drum 2's hold payout is marked on disengaging and discarded,
with the creep flag, on engaging. While a wind stays open, side 2 coming into play with its drum not DUAL or both
channels BAD starts the degrade state; that drum 2, in play from this event on, counts for its start speed is the model's
choice (log entry 46). While the level has not held its 20 ms nothing happens (log entry 2; R18, R37, R38, R96, R117,
R122, R124, R126, R143). -/
def Obligations.ClutchChangesActOnTheWind : Prop :=
  ∀ s : State,
    (s.inputs.clutchTimer ≠ some 0 ∨ s.pins.clutch = s.inputs.clutch → exec .clutchSettledChange s = .next s) ∧
    (s.inputs.clutchTimer = some 0 → s.pins.clutch ≠ s.inputs.clutch →
      let settled := { s with
        inputs := { s.inputs with clutch := s.pins.clutch, clutchTimer := none }
        drums := { s.drums with
          hold := if s.pins.clutch then none else s.drums.hold, holdDue := !s.pins.clutch }
        wind := { s.wind with creepFlag := !s.pins.clutch && s.wind.creepFlag } }
      Answers .clutchSettledChange s fun t =>
        t.inputs = settled.inputs ∧ t.drums.hold = settled.drums.hold ∧ t.drums.holdDue = settled.drums.holdDue ∧
        t.wind.creepFlag = settled.wind.creepFlag ∧
        (t.windOpen = true → t.env.degrade =
          if s.pins.clutch = true ∧ (s.drums.drum.two.state ≠ .dual ∨ s.rope.side.two.bothBad = true) then
            s.env.degrade.or (some ⟨max (mag (s.speed .one)) (mag (s.speed .two)), 0⟩)
          else s.env.degrade) ∧
        (s.bothStationary = false → 9 ∈ t.trip.causes ∧ t.latches = ⟨true, true, true⟩) ∧
        (s.bothStationary = true → s.wind.current = none → s.Told t [] ∧ t.trip = s.trip ∧ t.wind.current = none) ∧
        (s.bothStationary = true → s.phase = some .stopping →
          s.Told t [] ∧ t.trip = s.trip ∧ t.wind.current = s.wind.current) ∧
        ∀ w, s.wind.current = some w → s.bothStationary = true →
          (w.phase = .running ∨ w.phase = .creep →
            s.Told t [.wind w.number (some .stopping) none w.destination] ∧ t.trip = s.trip ∧
            t.phase = some .stopping ∧ t.wind.current.bind OpenWind.stop = some .abort) ∧
          (w.phase = .accepted →
            (∃ more, s.Told t (.wind w.number none (some .aborted) w.destination :: more) ∧ s.EndsRecovery t more) ∧
            settled.Closes t w .aborted ∧ settled.ParkRequested t))

/-! ## Resets -/

/-- The restart proper follows the end of the DONE of an accepted RESTART. The link port is as after a reset with a quiet
period of 100 ms; the park write is requested and the staged table empty; both encoders of every drum are re-admitted at the
angle the drum had, and one whose line monitor is inactive fails at once, which leaves its drum on the other or LOST; LOCKED
and SUSPECT sides are SUSPECT, others UNREFERENCED, with their K; every stage is latched, with RESET where it was clear; the
cause set gains RESET; the wind number and history are kept, recovery ends, and readiness is UNPROVEN or NO TABLE. With every
line monitor active every drum is DUAL, no report waits, the capture stays, and of the active set the advisories but
ENCODER DISAGREEMENT stay (R18, R20, R22, R40, R60, R85, R107, R130, R149, R159, R160, R161, R172). That v is 0, and that
payouts, rest payouts and outward senses are kept, until the first drum sample is the model's choice (log entry 32). -/
def Obligations.RestartProperResetsTheBlocks : Prop :=
  ∀ (s : State) (r : Reply), s.link.tx = some (.reply r) → r.code = 0x0F → r.result = .done →
    s.link.restartDue = true →
    Answers .transmitFrameEnd s fun t =>
      t.link = { rx := .hunting, load := none, silence := some 500, status := .live, quiet := some 100
                 resetKind := .restart, restartDue := false, replies := [], reports := t.link.reports
                 lost := t.link.lost, tx := none } ∧
      t.clock.stamp = 0 ∧ t.pins = s.pins ∧
      { s with table := { s.table with staged := [] } }.ParkRequested t ∧
      t.inputs = ⟨s.pins.clutch, s.pins.held, s.pins.permissive, none, none, none⟩ ∧
      (∀ d,
        let x := s.drums.drum.get d
        let monitor := s.pins.monitors.get d
        t.drums.drum.get d = { x with
          enc := ⟨⟨BitVec.ofInt 32 x.theta, !monitor.a⟩, ⟨BitVec.ofInt 32 x.theta, !monitor.b⟩⟩
          state := match monitor.a, monitor.b with
            | true, true => .dual
            | true, false => .singleA
            | false, true => .singleB
            | false, false => .lost
          sampledState := .dual, disagree := false, agreeing := 0, history := [], v := 0, restDue := true } ∧
        (monitor = ⟨false, false⟩ → 11 ∈ t.trip.causes ∧ .drumLost d ∈ t.trip.active)) ∧
      (∀ d, (t.depth.get d).K = (s.depth.get d).K ∧ (t.depth.get d).rejects = 0 ∧ (t.depth.get d).next = none ∧
        (t.depth.get d).lock = if (s.depth.get d).lock.referenced then .suspect else .unreferenced) ∧
      (∀ d r, (t.loadChan d r).health = .bad ∧ (t.loadChan d r).slots = [] ∧ (t.loadChan d r).hold = some 500 ∧
        (t.loadChan d r).alarm = (s.loadChan d r).alarm) ∧
      (∀ k, t.trip.latch.get k =
        if s.latched k then s.trip.latch.get k else .latched (.reset .restart)) ∧
      (∀ k h, t.channel k h = ⟨false, if s.readback k h then some 20 else none⟩) ∧
      (∀ n, n = 1 ∨ n ∈ s.trip.causes → n ∈ t.trip.causes) ∧
      t.wind = { s.wind with
        current := none, recovery := none, unintended := ⟨false, false⟩, creepFlag := false } ∧
      t.proof = { s.proof with readiness := if s.hasTable then .unproven else .noTable } ∧
      t.env.vp = 0 ∧ t.env.degrade = none ∧ t.env.overCount = ⟨0, 0, 0⟩ ∧ t.env.limit = ⟨.inside, .inside⟩ ∧
      (s.pins.monitors = ⟨⟨true, true⟩, ⟨true, true⟩⟩ →
        t.link.reports = [] ∧ t.link.lost = false ∧ t.trip.capture = s.trip.capture ∧
        (∀ n, n ∈ t.trip.causes ↔ n = 1 ∨ n ∈ s.trip.causes) ∧
        ∀ c, c ∈ t.trip.active ↔ c ∈ s.trip.active ∧ c.kind = .advisory ∧ ∀ d, c ≠ .encoderDisagreement d)

/-- Power-on: the stored table becomes the active one when its recomputed check agrees, else none is; the park record,
if valid, gives the angles and the offsets, side 2's only under the same clutch state; every stage is latched with RESET
and every channel de-energised and compared; nothing of winds, history, replies or reports is kept, and a write in
flight is gone. An encoder whose line monitor is inactive fails at once. With every monitor active no drum leaves DUAL.
That the levels of the inputs come with the command, and that the outward senses are absent, are the model's choices
(log entries 9 and 32; R19, R39, R59, R84, R130, R148, R159, R161). -/
def Obligations.PowerOnStartsFromTheStore : Prop :=
  ∀ (p : Pins) (s : State), Answers (.powerOn p) s fun t =>
    let active := s.table.stored.bind fun c =>
      if tableCheck c.records = c.check then some (ActiveTable.of c.records c.check) else none
    let bound := (active.map fun a => a.eff.sup.authority).getD 5000
    t.pins = p ∧ t.clock.stamp = 0 ∧
    t.table = { active := active, staged := [], stored := s.table.stored, storeWrite := none
                park := s.table.park, parkWrite := none, parkPending := none } ∧
    t.proof = { readiness := if active.isSome then .unproven else .noTable, lastFailure := none } ∧
    t.inputs = ⟨p.clutch, p.held, p.permissive, none, none, none⟩ ∧
    t.wind = { current := none, number := 0, recovery := none, outward := ⟨none, none⟩, lastLanded := ⟨none, none⟩
               history := [], unintended := ⟨false, false⟩, creepFlag := false } ∧
    t.link.replies = [] ∧ t.link.tx = none ∧ t.link.load = none ∧ t.link.quiet = some 100 ∧
    t.link.silence = some 500 ∧ t.link.resetKind = .powerOn ∧
    (∀ d,
      let theta := (s.table.park.map fun q => q.theta.get d).getD 0
      (t.drums.drum.get d).theta = theta ∧ (t.drums.drum.get d).history = [] ∧
      (t.drums.drum.get d).restDue = true ∧
      (∀ e, (t.drums.drum.get d).enc.get e = ⟨BitVec.ofInt 32 theta, !(p.monitors.get d).get e⟩) ∧
      (t.depth.get d).lock = .unreferenced ∧
      (t.depth.get d).K = (s.table.park.map fun q =>
        if d = .two ∧ q.clutch ≠ p.clutch then 0 else clamp (-bound) bound (q.K.get d)).getD 0) ∧
    (∀ d, t.rope.side.get d = RopeSide.atPowerOn) ∧
    (∀ k, t.trip.latch.get k = .latched (.reset .powerOn)) ∧
    (∀ k h, t.channel k h = ⟨false, if (p.readbacks.get k).get h then some 20 else none⟩) ∧ 1 ∈ t.trip.causes ∧
    (p.monitors = ⟨⟨true, true⟩, ⟨true, true⟩⟩ →
      t.drums.drum.one.state = .dual ∧ t.drums.drum.two.state = .dual ∧ t.link.reports = [] ∧ t.link.lost = false ∧
      t.trip.causes = [1] ∧ t.trip.active = [] ∧ t.trip.capture = none)

/-! ## The machine over time -/

/-- On an empty queue one millisecond passes: the time stamp rises by one and wraps; every running timer counts down by one,
one at its end waits there, and a stopped one stays stopped; the open wind's duration counts up to its bound and the degrade
state's milliseconds count; and the commands of the timers that reach their end join the queue, with the drum sample every
second millisecond, and no others. Nothing else changes. That an idle step is a millisecond is the model's choice (log
entries 1 to 4; R175, R179). -/
def Obligations.IdleStepIsOneMillisecond : Prop :=
  ∀ s : State, s.pending = [] →
    ∃ t, step s = .next t ∧ t.clock = ⟨s.clock.stamp + 1, !s.clock.oddMs⟩ ∧
      (∀ c, c ∈ t.pending ↔
        c = .drumSample ∧ s.clock.oddMs = true ∨
        c = .quietPeriodExpiry ∧ s.link.quiet = some 1 ∨
        c = .linkSilenceExpiry ∧ s.link.silence = some 1 ∨
        c = .clutchSettledChange ∧ s.inputs.clutchTimer = some 1 ∨
        c = .drum2HeldSettledChange ∧ s.inputs.heldTimer = some 1 ∨
        c = .resetPermissiveSettledChange ∧ s.inputs.permissiveTimer = some 1 ∨
        c = .frameTimerExpiry ∧ s.rope.frame = some 1 ∨
        (∃ d r, c = .holdTimerExpiry d r ∧ (s.loadChan d r).hold = some 1) ∨
        (∃ k h, c = .mismatchTimerExpiry k h ∧ (s.channel k h).mismatch = some 1) ∨
        c = .startTimerExpiry ∧ s.startTimer = some 1 ∨
        c = .dwellTimerExpiry ∧ s.dwellTimer = some 1 ∨
        c = .echoTimerExpiry ∧ s.echoTimer = some 1 ∨
        c = .testTimerExpiry ∧ s.testTimer = some 1) ∧
      (let down (x : Timer) : Timer := x.map fun n => n - 1
       t.link = { s.link with quiet := down s.link.quiet, silence := down s.link.silence } ∧
       t.inputs = { s.inputs with
         clutchTimer := down s.inputs.clutchTimer
         heldTimer := down s.inputs.heldTimer
         permissiveTimer := down s.inputs.permissiveTimer } ∧
       t.rope = { s.rope with frame := down s.rope.frame, side := t.rope.side } ∧
       (∀ d, t.rope.side.get d = { s.rope.side.get d with chan := (t.rope.side.get d).chan }) ∧
       (∀ d r, t.loadChan d r = { s.loadChan d r with hold := down (s.loadChan d r).hold }) ∧
       t.trip = { s.trip with chan := t.trip.chan } ∧
       (∀ k h, t.channel k h = { s.channel k h with mismatch := down (s.channel k h).mismatch }) ∧
       t.wind = { s.wind with current := t.wind.current } ∧
       t.wind.current = (s.wind.current.map fun w => { w with
         start := down w.start, dwell := down w.dwell
         duration := if w.duration < 4294967295 then w.duration + 1 else 4294967295 }) ∧
       t.env = { s.env with degrade := s.env.degrade.map fun g => { g with elapsed := g.elapsed + 1 } } ∧
       t.proof = { s.proof with readiness := match s.proof.readiness with
         | .proving (.tripPaths k h e x) => .proving (.tripPaths k h e (down x))
         | .proving (.echo pattern made o x) => .proving (.echo pattern made o (down x))
         | r => r }) ∧
      t.table = s.table ∧ t.drums = s.drums ∧ t.depth = s.depth ∧ t.pins = s.pins

/-- The state right after reset is that of a power-on with an empty store and quiet inputs (log entries 5 and 6), and it
meets every invariant stated below. -/
def Obligations.ResetIsSound : Prop :=
  exec (.powerOn Pins.quiet) State.reset = .next State.reset ∧ State.reset.Coherent ∧ State.reset.WithinCapacity ∧
    State.reset.TransmitterServes ∧ State.reset.TracksBounded ∧ State.reset.DrumsFit ∧ State.reset.FurthestFits

/-- The trip latches stand in one of four combinations and outside proof step 5 the channels follow them; no wind is under
way while a stage is latched; no load is open with a wind or a proof; a proof runs only with every stage latched; readiness
is NO TABLE exactly with no table; and an active condition other than LIMIT holds stage 3. Every step keeps all of it
(R10, R12, R121, R131, R133, R139, R145, R150). -/
def Obligations.StepsKeepTheBlocksCoherent : Prop :=
  ∀ s t : State, s.Coherent → step s = .next t → t.Coherent

/-- Every step keeps the capacities of the reply list, the report queue and the history ring, and leaves the transmitter
idle outside the quiet period only when nothing waits (R128, R167, R168, R173). -/
def Obligations.StepsKeepTheCapacities : Prop :=
  ∀ s t : State, s.WithinCapacity → s.TransmitterServes → step s = .next t →
    t.WithinCapacity ∧ t.TransmitterServes

/-- Every step keeps each side's K within the correction authority, itself within 5,000 mm, the search counter within 63,
the reject count below 3 and 0 outside SUSPECT, and the next expected marker absent from every side not LOCKED or SUSPECT
(R3, R61, R68 to R73, R83). -/
def Obligations.StepsKeepTheTracksBounded : Prop :=
  ∀ s t : State, s.TracksBounded → step s = .next t → t.TracksBounded

/-- Every step keeps each drum's state fitting the health of its encoders, its history within nine entries and empty in
LOST (R23, R26, R31, R32). -/
def Obligations.StepsKeepTheDrumsFitting : Prop :=
  ∀ s t : State, s.DrumsFit → step s = .next t → t.DrumsFit

/-- Only TRIP-RESET clears a latch; only WIND opens a wind or moves the wind number, the two resets apart; readiness
becomes PROVEN only out of a running proof (R111, R131, R140, R152). -/
def Obligations.OnlyItsOwnCommandGrants : Prop :=
  ∀ (c : Instr) (s t : State), exec c s = .next t →
    (∀ k, s.latched k = true → t.latched k = false → ∃ tag body, c = .tripReset tag body) ∧
    (s.wind.current = none → t.wind.current ≠ none → ∃ tag body, c = .wind tag body) ∧
    (t.wind.number ≠ s.wind.number → (∃ tag body, c = .wind tag body) ∨ ∃ p, c = .powerOn p) ∧
    (t.proof.readiness = .proven → s.proof.readiness = .proven ∨ s.isProving = true)
end

