-- ==== Sys2Proof/Laws/State.lean ====
section
/-! SUPPORT. One lemma for each field under each update of one block of the state, and the small lemmas of the families
of values (a value for each side, encoder, stage, channel). -/

namespace Sys2Proof

@[simp] theorem PerSide.get_one {α : Type} (p : PerSide α) : p.get .one = p.one := rfl
@[simp] theorem PerSide.get_two {α : Type} (p : PerSide α) : p.get .two = p.two := rfl
@[simp] theorem PerSide.set_one {α : Type} (p : PerSide α) (v : α) : p.set .one v = ⟨v, p.two⟩ := rfl
@[simp] theorem PerSide.set_two {α : Type} (p : PerSide α) (v : α) : p.set .two v = ⟨p.one, v⟩ := rfl
@[simp] theorem PerSide.get_set_self {α : Type} (p : PerSide α) (d : Side) (v : α) : (p.set d v).get d = v := by
  cases d <;> rfl
theorem PerSide.get_set_ne {α : Type} (p : PerSide α) (d e : Side) (v : α) (h : e ≠ d) : (p.set d v).get e = p.get e := by
  cases d <;> cases e <;> first | rfl | exact absurd rfl h
@[simp] theorem PerSide.set_get {α : Type} (p : PerSide α) (d : Side) : p.set d (p.get d) = p := by
  cases d <;> rfl

@[simp] theorem PerTwin.get_a {α : Type} (p : PerTwin α) : p.get .a = p.a := rfl
@[simp] theorem PerTwin.get_b {α : Type} (p : PerTwin α) : p.get .b = p.b := rfl
@[simp] theorem PerTwin.set_a {α : Type} (p : PerTwin α) (v : α) : p.set .a v = ⟨v, p.b⟩ := rfl
@[simp] theorem PerTwin.set_b {α : Type} (p : PerTwin α) (v : α) : p.set .b v = ⟨p.a, v⟩ := rfl
@[simp] theorem PerTwin.get_set_self {α : Type} (p : PerTwin α) (d : Twin) (v : α) : (p.set d v).get d = v := by
  cases d <;> rfl
theorem PerTwin.get_set_ne {α : Type} (p : PerTwin α) (d e : Twin) (v : α) (h : e ≠ d) : (p.set d v).get e = p.get e := by
  cases d <;> cases e <;> first | rfl | exact absurd rfl h
@[simp] theorem PerTwin.set_get {α : Type} (p : PerTwin α) (d : Twin) : p.set d (p.get d) = p := by
  cases d <;> rfl

@[simp] theorem PerChan.get_x {α : Type} (p : PerChan α) : p.get .x = p.x := rfl
@[simp] theorem PerChan.get_y {α : Type} (p : PerChan α) : p.get .y = p.y := rfl
@[simp] theorem PerChan.set_x {α : Type} (p : PerChan α) (v : α) : p.set .x v = ⟨v, p.y⟩ := rfl
@[simp] theorem PerChan.set_y {α : Type} (p : PerChan α) (v : α) : p.set .y v = ⟨p.x, v⟩ := rfl
@[simp] theorem PerChan.get_set_self {α : Type} (p : PerChan α) (d : Chan) (v : α) : (p.set d v).get d = v := by
  cases d <;> rfl
theorem PerChan.get_set_ne {α : Type} (p : PerChan α) (d e : Chan) (v : α) (h : e ≠ d) : (p.set d v).get e = p.get e := by
  cases d <;> cases e <;> first | rfl | exact absurd rfl h
@[simp] theorem PerChan.set_get {α : Type} (p : PerChan α) (d : Chan) : p.set d (p.get d) = p := by
  cases d <;> rfl

@[simp] theorem PerStage.get_s1 {α : Type} (p : PerStage α) : p.get .s1 = p.s1 := rfl
@[simp] theorem PerStage.get_s2 {α : Type} (p : PerStage α) : p.get .s2 = p.s2 := rfl
@[simp] theorem PerStage.get_s3 {α : Type} (p : PerStage α) : p.get .s3 = p.s3 := rfl
@[simp] theorem PerStage.set_s1 {α : Type} (p : PerStage α) (v : α) : p.set .s1 v = ⟨v, p.s2, p.s3⟩ := rfl
@[simp] theorem PerStage.set_s2 {α : Type} (p : PerStage α) (v : α) : p.set .s2 v = ⟨p.s1, v, p.s3⟩ := rfl
@[simp] theorem PerStage.set_s3 {α : Type} (p : PerStage α) (v : α) : p.set .s3 v = ⟨p.s1, p.s2, v⟩ := rfl
@[simp] theorem PerStage.get_set_self {α : Type} (p : PerStage α) (k : Stage) (v : α) : (p.set k v).get k = v := by
  cases k <;> rfl
theorem PerStage.get_set_ne {α : Type} (p : PerStage α) (k j : Stage) (v : α) (h : j ≠ k) :
    (p.set k v).get j = p.get j := by
  cases k <;> cases j <;> first | rfl | exact absurd rfl h

end Sys2Proof

namespace Sys2Proof.Machine

/-- A timer that is stopped or has time left has not ended. -/
@[simp] theorem ended_iff (t : Timer) : ended t = true ↔ t = some 0 := by simp [ended]

@[simp] theorem State.setPending_pending (s : State) (x : (List Instr)) : (s.setPending x).pending = x := rfl
@[simp] theorem State.setPending_pins (s : State) (x : (List Instr)) : (s.setPending x).pins = s.pins := rfl
@[simp] theorem State.setPending_clock (s : State) (x : (List Instr)) : (s.setPending x).clock = s.clock := rfl
@[simp] theorem State.setPending_link (s : State) (x : (List Instr)) : (s.setPending x).link = s.link := rfl
@[simp] theorem State.setPending_table (s : State) (x : (List Instr)) : (s.setPending x).table = s.table := rfl
@[simp] theorem State.setPending_drums (s : State) (x : (List Instr)) : (s.setPending x).drums = s.drums := rfl
@[simp] theorem State.setPending_inputs (s : State) (x : (List Instr)) : (s.setPending x).inputs = s.inputs := rfl
@[simp] theorem State.setPending_rope (s : State) (x : (List Instr)) : (s.setPending x).rope = s.rope := rfl
@[simp] theorem State.setPending_depth (s : State) (x : (List Instr)) : (s.setPending x).depth = s.depth := rfl
@[simp] theorem State.setPending_env (s : State) (x : (List Instr)) : (s.setPending x).env = s.env := rfl
@[simp] theorem State.setPending_wind (s : State) (x : (List Instr)) : (s.setPending x).wind = s.wind := rfl
@[simp] theorem State.setPending_trip (s : State) (x : (List Instr)) : (s.setPending x).trip = s.trip := rfl
@[simp] theorem State.setPending_proof (s : State) (x : (List Instr)) : (s.setPending x).proof = s.proof := rfl

@[simp] theorem State.setPins_pending (s : State) (x : Pins) : (s.setPins x).pending = s.pending := rfl
@[simp] theorem State.setPins_pins (s : State) (x : Pins) : (s.setPins x).pins = x := rfl
@[simp] theorem State.setPins_clock (s : State) (x : Pins) : (s.setPins x).clock = s.clock := rfl
@[simp] theorem State.setPins_link (s : State) (x : Pins) : (s.setPins x).link = s.link := rfl
@[simp] theorem State.setPins_table (s : State) (x : Pins) : (s.setPins x).table = s.table := rfl
@[simp] theorem State.setPins_drums (s : State) (x : Pins) : (s.setPins x).drums = s.drums := rfl
@[simp] theorem State.setPins_inputs (s : State) (x : Pins) : (s.setPins x).inputs = s.inputs := rfl
@[simp] theorem State.setPins_rope (s : State) (x : Pins) : (s.setPins x).rope = s.rope := rfl
@[simp] theorem State.setPins_depth (s : State) (x : Pins) : (s.setPins x).depth = s.depth := rfl
@[simp] theorem State.setPins_env (s : State) (x : Pins) : (s.setPins x).env = s.env := rfl
@[simp] theorem State.setPins_wind (s : State) (x : Pins) : (s.setPins x).wind = s.wind := rfl
@[simp] theorem State.setPins_trip (s : State) (x : Pins) : (s.setPins x).trip = s.trip := rfl
@[simp] theorem State.setPins_proof (s : State) (x : Pins) : (s.setPins x).proof = s.proof := rfl

@[simp] theorem State.setClock_pending (s : State) (x : Clock) : (s.setClock x).pending = s.pending := rfl
@[simp] theorem State.setClock_pins (s : State) (x : Clock) : (s.setClock x).pins = s.pins := rfl
@[simp] theorem State.setClock_clock (s : State) (x : Clock) : (s.setClock x).clock = x := rfl
@[simp] theorem State.setClock_link (s : State) (x : Clock) : (s.setClock x).link = s.link := rfl
@[simp] theorem State.setClock_table (s : State) (x : Clock) : (s.setClock x).table = s.table := rfl
@[simp] theorem State.setClock_drums (s : State) (x : Clock) : (s.setClock x).drums = s.drums := rfl
@[simp] theorem State.setClock_inputs (s : State) (x : Clock) : (s.setClock x).inputs = s.inputs := rfl
@[simp] theorem State.setClock_rope (s : State) (x : Clock) : (s.setClock x).rope = s.rope := rfl
@[simp] theorem State.setClock_depth (s : State) (x : Clock) : (s.setClock x).depth = s.depth := rfl
@[simp] theorem State.setClock_env (s : State) (x : Clock) : (s.setClock x).env = s.env := rfl
@[simp] theorem State.setClock_wind (s : State) (x : Clock) : (s.setClock x).wind = s.wind := rfl
@[simp] theorem State.setClock_trip (s : State) (x : Clock) : (s.setClock x).trip = s.trip := rfl
@[simp] theorem State.setClock_proof (s : State) (x : Clock) : (s.setClock x).proof = s.proof := rfl

@[simp] theorem State.setLink_pending (s : State) (x : LinkPort) : (s.setLink x).pending = s.pending := rfl
@[simp] theorem State.setLink_pins (s : State) (x : LinkPort) : (s.setLink x).pins = s.pins := rfl
@[simp] theorem State.setLink_clock (s : State) (x : LinkPort) : (s.setLink x).clock = s.clock := rfl
@[simp] theorem State.setLink_link (s : State) (x : LinkPort) : (s.setLink x).link = x := rfl
@[simp] theorem State.setLink_table (s : State) (x : LinkPort) : (s.setLink x).table = s.table := rfl
@[simp] theorem State.setLink_drums (s : State) (x : LinkPort) : (s.setLink x).drums = s.drums := rfl
@[simp] theorem State.setLink_inputs (s : State) (x : LinkPort) : (s.setLink x).inputs = s.inputs := rfl
@[simp] theorem State.setLink_rope (s : State) (x : LinkPort) : (s.setLink x).rope = s.rope := rfl
@[simp] theorem State.setLink_depth (s : State) (x : LinkPort) : (s.setLink x).depth = s.depth := rfl
@[simp] theorem State.setLink_env (s : State) (x : LinkPort) : (s.setLink x).env = s.env := rfl
@[simp] theorem State.setLink_wind (s : State) (x : LinkPort) : (s.setLink x).wind = s.wind := rfl
@[simp] theorem State.setLink_trip (s : State) (x : LinkPort) : (s.setLink x).trip = s.trip := rfl
@[simp] theorem State.setLink_proof (s : State) (x : LinkPort) : (s.setLink x).proof = s.proof := rfl

@[simp] theorem State.setTable_pending (s : State) (x : ShaftTable) : (s.setTable x).pending = s.pending := rfl
@[simp] theorem State.setTable_pins (s : State) (x : ShaftTable) : (s.setTable x).pins = s.pins := rfl
@[simp] theorem State.setTable_clock (s : State) (x : ShaftTable) : (s.setTable x).clock = s.clock := rfl
@[simp] theorem State.setTable_link (s : State) (x : ShaftTable) : (s.setTable x).link = s.link := rfl
@[simp] theorem State.setTable_table (s : State) (x : ShaftTable) : (s.setTable x).table = x := rfl
@[simp] theorem State.setTable_drums (s : State) (x : ShaftTable) : (s.setTable x).drums = s.drums := rfl
@[simp] theorem State.setTable_inputs (s : State) (x : ShaftTable) : (s.setTable x).inputs = s.inputs := rfl
@[simp] theorem State.setTable_rope (s : State) (x : ShaftTable) : (s.setTable x).rope = s.rope := rfl
@[simp] theorem State.setTable_depth (s : State) (x : ShaftTable) : (s.setTable x).depth = s.depth := rfl
@[simp] theorem State.setTable_env (s : State) (x : ShaftTable) : (s.setTable x).env = s.env := rfl
@[simp] theorem State.setTable_wind (s : State) (x : ShaftTable) : (s.setTable x).wind = s.wind := rfl
@[simp] theorem State.setTable_trip (s : State) (x : ShaftTable) : (s.setTable x).trip = s.trip := rfl
@[simp] theorem State.setTable_proof (s : State) (x : ShaftTable) : (s.setTable x).proof = s.proof := rfl

@[simp] theorem State.setDrums_pending (s : State) (x : DrumUnit) : (s.setDrums x).pending = s.pending := rfl
@[simp] theorem State.setDrums_pins (s : State) (x : DrumUnit) : (s.setDrums x).pins = s.pins := rfl
@[simp] theorem State.setDrums_clock (s : State) (x : DrumUnit) : (s.setDrums x).clock = s.clock := rfl
@[simp] theorem State.setDrums_link (s : State) (x : DrumUnit) : (s.setDrums x).link = s.link := rfl
@[simp] theorem State.setDrums_table (s : State) (x : DrumUnit) : (s.setDrums x).table = s.table := rfl
@[simp] theorem State.setDrums_drums (s : State) (x : DrumUnit) : (s.setDrums x).drums = x := rfl
@[simp] theorem State.setDrums_inputs (s : State) (x : DrumUnit) : (s.setDrums x).inputs = s.inputs := rfl
@[simp] theorem State.setDrums_rope (s : State) (x : DrumUnit) : (s.setDrums x).rope = s.rope := rfl
@[simp] theorem State.setDrums_depth (s : State) (x : DrumUnit) : (s.setDrums x).depth = s.depth := rfl
@[simp] theorem State.setDrums_env (s : State) (x : DrumUnit) : (s.setDrums x).env = s.env := rfl
@[simp] theorem State.setDrums_wind (s : State) (x : DrumUnit) : (s.setDrums x).wind = s.wind := rfl
@[simp] theorem State.setDrums_trip (s : State) (x : DrumUnit) : (s.setDrums x).trip = s.trip := rfl
@[simp] theorem State.setDrums_proof (s : State) (x : DrumUnit) : (s.setDrums x).proof = s.proof := rfl

@[simp] theorem State.setInputs_pending (s : State) (x : Inputs) : (s.setInputs x).pending = s.pending := rfl
@[simp] theorem State.setInputs_pins (s : State) (x : Inputs) : (s.setInputs x).pins = s.pins := rfl
@[simp] theorem State.setInputs_clock (s : State) (x : Inputs) : (s.setInputs x).clock = s.clock := rfl
@[simp] theorem State.setInputs_link (s : State) (x : Inputs) : (s.setInputs x).link = s.link := rfl
@[simp] theorem State.setInputs_table (s : State) (x : Inputs) : (s.setInputs x).table = s.table := rfl
@[simp] theorem State.setInputs_drums (s : State) (x : Inputs) : (s.setInputs x).drums = s.drums := rfl
@[simp] theorem State.setInputs_inputs (s : State) (x : Inputs) : (s.setInputs x).inputs = x := rfl
@[simp] theorem State.setInputs_rope (s : State) (x : Inputs) : (s.setInputs x).rope = s.rope := rfl
@[simp] theorem State.setInputs_depth (s : State) (x : Inputs) : (s.setInputs x).depth = s.depth := rfl
@[simp] theorem State.setInputs_env (s : State) (x : Inputs) : (s.setInputs x).env = s.env := rfl
@[simp] theorem State.setInputs_wind (s : State) (x : Inputs) : (s.setInputs x).wind = s.wind := rfl
@[simp] theorem State.setInputs_trip (s : State) (x : Inputs) : (s.setInputs x).trip = s.trip := rfl
@[simp] theorem State.setInputs_proof (s : State) (x : Inputs) : (s.setInputs x).proof = s.proof := rfl

@[simp] theorem State.setRope_pending (s : State) (x : RopeUnit) : (s.setRope x).pending = s.pending := rfl
@[simp] theorem State.setRope_pins (s : State) (x : RopeUnit) : (s.setRope x).pins = s.pins := rfl
@[simp] theorem State.setRope_clock (s : State) (x : RopeUnit) : (s.setRope x).clock = s.clock := rfl
@[simp] theorem State.setRope_link (s : State) (x : RopeUnit) : (s.setRope x).link = s.link := rfl
@[simp] theorem State.setRope_table (s : State) (x : RopeUnit) : (s.setRope x).table = s.table := rfl
@[simp] theorem State.setRope_drums (s : State) (x : RopeUnit) : (s.setRope x).drums = s.drums := rfl
@[simp] theorem State.setRope_inputs (s : State) (x : RopeUnit) : (s.setRope x).inputs = s.inputs := rfl
@[simp] theorem State.setRope_rope (s : State) (x : RopeUnit) : (s.setRope x).rope = x := rfl
@[simp] theorem State.setRope_depth (s : State) (x : RopeUnit) : (s.setRope x).depth = s.depth := rfl
@[simp] theorem State.setRope_env (s : State) (x : RopeUnit) : (s.setRope x).env = s.env := rfl
@[simp] theorem State.setRope_wind (s : State) (x : RopeUnit) : (s.setRope x).wind = s.wind := rfl
@[simp] theorem State.setRope_trip (s : State) (x : RopeUnit) : (s.setRope x).trip = s.trip := rfl
@[simp] theorem State.setRope_proof (s : State) (x : RopeUnit) : (s.setRope x).proof = s.proof := rfl

@[simp] theorem State.setDepth_pending (s : State) (x : (PerSide Track)) : (s.setDepth x).pending = s.pending := rfl
@[simp] theorem State.setDepth_pins (s : State) (x : (PerSide Track)) : (s.setDepth x).pins = s.pins := rfl
@[simp] theorem State.setDepth_clock (s : State) (x : (PerSide Track)) : (s.setDepth x).clock = s.clock := rfl
@[simp] theorem State.setDepth_link (s : State) (x : (PerSide Track)) : (s.setDepth x).link = s.link := rfl
@[simp] theorem State.setDepth_table (s : State) (x : (PerSide Track)) : (s.setDepth x).table = s.table := rfl
@[simp] theorem State.setDepth_drums (s : State) (x : (PerSide Track)) : (s.setDepth x).drums = s.drums := rfl
@[simp] theorem State.setDepth_inputs (s : State) (x : (PerSide Track)) : (s.setDepth x).inputs = s.inputs := rfl
@[simp] theorem State.setDepth_rope (s : State) (x : (PerSide Track)) : (s.setDepth x).rope = s.rope := rfl
@[simp] theorem State.setDepth_depth (s : State) (x : (PerSide Track)) : (s.setDepth x).depth = x := rfl
@[simp] theorem State.setDepth_env (s : State) (x : (PerSide Track)) : (s.setDepth x).env = s.env := rfl
@[simp] theorem State.setDepth_wind (s : State) (x : (PerSide Track)) : (s.setDepth x).wind = s.wind := rfl
@[simp] theorem State.setDepth_trip (s : State) (x : (PerSide Track)) : (s.setDepth x).trip = s.trip := rfl
@[simp] theorem State.setDepth_proof (s : State) (x : (PerSide Track)) : (s.setDepth x).proof = s.proof := rfl

@[simp] theorem State.setEnv_pending (s : State) (x : Envelope) : (s.setEnv x).pending = s.pending := rfl
@[simp] theorem State.setEnv_pins (s : State) (x : Envelope) : (s.setEnv x).pins = s.pins := rfl
@[simp] theorem State.setEnv_clock (s : State) (x : Envelope) : (s.setEnv x).clock = s.clock := rfl
@[simp] theorem State.setEnv_link (s : State) (x : Envelope) : (s.setEnv x).link = s.link := rfl
@[simp] theorem State.setEnv_table (s : State) (x : Envelope) : (s.setEnv x).table = s.table := rfl
@[simp] theorem State.setEnv_drums (s : State) (x : Envelope) : (s.setEnv x).drums = s.drums := rfl
@[simp] theorem State.setEnv_inputs (s : State) (x : Envelope) : (s.setEnv x).inputs = s.inputs := rfl
@[simp] theorem State.setEnv_rope (s : State) (x : Envelope) : (s.setEnv x).rope = s.rope := rfl
@[simp] theorem State.setEnv_depth (s : State) (x : Envelope) : (s.setEnv x).depth = s.depth := rfl
@[simp] theorem State.setEnv_env (s : State) (x : Envelope) : (s.setEnv x).env = x := rfl
@[simp] theorem State.setEnv_wind (s : State) (x : Envelope) : (s.setEnv x).wind = s.wind := rfl
@[simp] theorem State.setEnv_trip (s : State) (x : Envelope) : (s.setEnv x).trip = s.trip := rfl
@[simp] theorem State.setEnv_proof (s : State) (x : Envelope) : (s.setEnv x).proof = s.proof := rfl

@[simp] theorem State.setWind_pending (s : State) (x : WindUnit) : (s.setWind x).pending = s.pending := rfl
@[simp] theorem State.setWind_pins (s : State) (x : WindUnit) : (s.setWind x).pins = s.pins := rfl
@[simp] theorem State.setWind_clock (s : State) (x : WindUnit) : (s.setWind x).clock = s.clock := rfl
@[simp] theorem State.setWind_link (s : State) (x : WindUnit) : (s.setWind x).link = s.link := rfl
@[simp] theorem State.setWind_table (s : State) (x : WindUnit) : (s.setWind x).table = s.table := rfl
@[simp] theorem State.setWind_drums (s : State) (x : WindUnit) : (s.setWind x).drums = s.drums := rfl
@[simp] theorem State.setWind_inputs (s : State) (x : WindUnit) : (s.setWind x).inputs = s.inputs := rfl
@[simp] theorem State.setWind_rope (s : State) (x : WindUnit) : (s.setWind x).rope = s.rope := rfl
@[simp] theorem State.setWind_depth (s : State) (x : WindUnit) : (s.setWind x).depth = s.depth := rfl
@[simp] theorem State.setWind_env (s : State) (x : WindUnit) : (s.setWind x).env = s.env := rfl
@[simp] theorem State.setWind_wind (s : State) (x : WindUnit) : (s.setWind x).wind = x := rfl
@[simp] theorem State.setWind_trip (s : State) (x : WindUnit) : (s.setWind x).trip = s.trip := rfl
@[simp] theorem State.setWind_proof (s : State) (x : WindUnit) : (s.setWind x).proof = s.proof := rfl

@[simp] theorem State.setTrip_pending (s : State) (x : TripUnit) : (s.setTrip x).pending = s.pending := rfl
@[simp] theorem State.setTrip_pins (s : State) (x : TripUnit) : (s.setTrip x).pins = s.pins := rfl
@[simp] theorem State.setTrip_clock (s : State) (x : TripUnit) : (s.setTrip x).clock = s.clock := rfl
@[simp] theorem State.setTrip_link (s : State) (x : TripUnit) : (s.setTrip x).link = s.link := rfl
@[simp] theorem State.setTrip_table (s : State) (x : TripUnit) : (s.setTrip x).table = s.table := rfl
@[simp] theorem State.setTrip_drums (s : State) (x : TripUnit) : (s.setTrip x).drums = s.drums := rfl
@[simp] theorem State.setTrip_inputs (s : State) (x : TripUnit) : (s.setTrip x).inputs = s.inputs := rfl
@[simp] theorem State.setTrip_rope (s : State) (x : TripUnit) : (s.setTrip x).rope = s.rope := rfl
@[simp] theorem State.setTrip_depth (s : State) (x : TripUnit) : (s.setTrip x).depth = s.depth := rfl
@[simp] theorem State.setTrip_env (s : State) (x : TripUnit) : (s.setTrip x).env = s.env := rfl
@[simp] theorem State.setTrip_wind (s : State) (x : TripUnit) : (s.setTrip x).wind = s.wind := rfl
@[simp] theorem State.setTrip_trip (s : State) (x : TripUnit) : (s.setTrip x).trip = x := rfl
@[simp] theorem State.setTrip_proof (s : State) (x : TripUnit) : (s.setTrip x).proof = s.proof := rfl

@[simp] theorem State.setProof_pending (s : State) (x : ProofUnit) : (s.setProof x).pending = s.pending := rfl
@[simp] theorem State.setProof_pins (s : State) (x : ProofUnit) : (s.setProof x).pins = s.pins := rfl
@[simp] theorem State.setProof_clock (s : State) (x : ProofUnit) : (s.setProof x).clock = s.clock := rfl
@[simp] theorem State.setProof_link (s : State) (x : ProofUnit) : (s.setProof x).link = s.link := rfl
@[simp] theorem State.setProof_table (s : State) (x : ProofUnit) : (s.setProof x).table = s.table := rfl
@[simp] theorem State.setProof_drums (s : State) (x : ProofUnit) : (s.setProof x).drums = s.drums := rfl
@[simp] theorem State.setProof_inputs (s : State) (x : ProofUnit) : (s.setProof x).inputs = s.inputs := rfl
@[simp] theorem State.setProof_rope (s : State) (x : ProofUnit) : (s.setProof x).rope = s.rope := rfl
@[simp] theorem State.setProof_depth (s : State) (x : ProofUnit) : (s.setProof x).depth = s.depth := rfl
@[simp] theorem State.setProof_env (s : State) (x : ProofUnit) : (s.setProof x).env = s.env := rfl
@[simp] theorem State.setProof_wind (s : State) (x : ProofUnit) : (s.setProof x).wind = s.wind := rfl
@[simp] theorem State.setProof_trip (s : State) (x : ProofUnit) : (s.setProof x).trip = s.trip := rfl
@[simp] theorem State.setProof_proof (s : State) (x : ProofUnit) : (s.setProof x).proof = x := rfl

@[simp] theorem State.setDrum_pending (s : State) (d : Side) (x : Drum) : (s.setDrum d x).pending = s.pending := rfl
@[simp] theorem State.setDrum_pins (s : State) (d : Side) (x : Drum) : (s.setDrum d x).pins = s.pins := rfl
@[simp] theorem State.setDrum_clock (s : State) (d : Side) (x : Drum) : (s.setDrum d x).clock = s.clock := rfl
@[simp] theorem State.setDrum_link (s : State) (d : Side) (x : Drum) : (s.setDrum d x).link = s.link := rfl
@[simp] theorem State.setDrum_table (s : State) (d : Side) (x : Drum) : (s.setDrum d x).table = s.table := rfl
@[simp] theorem State.setDrum_inputs (s : State) (d : Side) (x : Drum) : (s.setDrum d x).inputs = s.inputs := rfl
@[simp] theorem State.setDrum_rope (s : State) (d : Side) (x : Drum) : (s.setDrum d x).rope = s.rope := rfl
@[simp] theorem State.setDrum_depth (s : State) (d : Side) (x : Drum) : (s.setDrum d x).depth = s.depth := rfl
@[simp] theorem State.setDrum_env (s : State) (d : Side) (x : Drum) : (s.setDrum d x).env = s.env := rfl
@[simp] theorem State.setDrum_wind (s : State) (d : Side) (x : Drum) : (s.setDrum d x).wind = s.wind := rfl
@[simp] theorem State.setDrum_trip (s : State) (d : Side) (x : Drum) : (s.setDrum d x).trip = s.trip := rfl
@[simp] theorem State.setDrum_proof (s : State) (d : Side) (x : Drum) : (s.setDrum d x).proof = s.proof := rfl

@[simp] theorem State.setRopeSide_pending (s : State) (d : Side) (x : RopeSide) : (s.setRopeSide d x).pending = s.pending := rfl
@[simp] theorem State.setRopeSide_pins (s : State) (d : Side) (x : RopeSide) : (s.setRopeSide d x).pins = s.pins := rfl
@[simp] theorem State.setRopeSide_clock (s : State) (d : Side) (x : RopeSide) : (s.setRopeSide d x).clock = s.clock := rfl
@[simp] theorem State.setRopeSide_link (s : State) (d : Side) (x : RopeSide) : (s.setRopeSide d x).link = s.link := rfl
@[simp] theorem State.setRopeSide_table (s : State) (d : Side) (x : RopeSide) : (s.setRopeSide d x).table = s.table := rfl
@[simp] theorem State.setRopeSide_drums (s : State) (d : Side) (x : RopeSide) : (s.setRopeSide d x).drums = s.drums := rfl
@[simp] theorem State.setRopeSide_inputs (s : State) (d : Side) (x : RopeSide) : (s.setRopeSide d x).inputs = s.inputs := rfl
@[simp] theorem State.setRopeSide_depth (s : State) (d : Side) (x : RopeSide) : (s.setRopeSide d x).depth = s.depth := rfl
@[simp] theorem State.setRopeSide_env (s : State) (d : Side) (x : RopeSide) : (s.setRopeSide d x).env = s.env := rfl
@[simp] theorem State.setRopeSide_wind (s : State) (d : Side) (x : RopeSide) : (s.setRopeSide d x).wind = s.wind := rfl
@[simp] theorem State.setRopeSide_trip (s : State) (d : Side) (x : RopeSide) : (s.setRopeSide d x).trip = s.trip := rfl
@[simp] theorem State.setRopeSide_proof (s : State) (d : Side) (x : RopeSide) : (s.setRopeSide d x).proof = s.proof := rfl

@[simp] theorem State.setTrack_pending (s : State) (d : Side) (x : Track) : (s.setTrack d x).pending = s.pending := rfl
@[simp] theorem State.setTrack_pins (s : State) (d : Side) (x : Track) : (s.setTrack d x).pins = s.pins := rfl
@[simp] theorem State.setTrack_clock (s : State) (d : Side) (x : Track) : (s.setTrack d x).clock = s.clock := rfl
@[simp] theorem State.setTrack_link (s : State) (d : Side) (x : Track) : (s.setTrack d x).link = s.link := rfl
@[simp] theorem State.setTrack_table (s : State) (d : Side) (x : Track) : (s.setTrack d x).table = s.table := rfl
@[simp] theorem State.setTrack_drums (s : State) (d : Side) (x : Track) : (s.setTrack d x).drums = s.drums := rfl
@[simp] theorem State.setTrack_inputs (s : State) (d : Side) (x : Track) : (s.setTrack d x).inputs = s.inputs := rfl
@[simp] theorem State.setTrack_rope (s : State) (d : Side) (x : Track) : (s.setTrack d x).rope = s.rope := rfl
@[simp] theorem State.setTrack_env (s : State) (d : Side) (x : Track) : (s.setTrack d x).env = s.env := rfl
@[simp] theorem State.setTrack_wind (s : State) (d : Side) (x : Track) : (s.setTrack d x).wind = s.wind := rfl
@[simp] theorem State.setTrack_trip (s : State) (d : Side) (x : Track) : (s.setTrack d x).trip = s.trip := rfl
@[simp] theorem State.setTrack_proof (s : State) (d : Side) (x : Track) : (s.setTrack d x).proof = s.proof := rfl

@[simp] theorem State.setChannel_pending (s : State) (k : Stage) (c : Chan) (x : OutChannel) : (s.setChannel k c x).pending = s.pending := rfl
@[simp] theorem State.setChannel_pins (s : State) (k : Stage) (c : Chan) (x : OutChannel) : (s.setChannel k c x).pins = s.pins := rfl
@[simp] theorem State.setChannel_clock (s : State) (k : Stage) (c : Chan) (x : OutChannel) : (s.setChannel k c x).clock = s.clock := rfl
@[simp] theorem State.setChannel_link (s : State) (k : Stage) (c : Chan) (x : OutChannel) : (s.setChannel k c x).link = s.link := rfl
@[simp] theorem State.setChannel_table (s : State) (k : Stage) (c : Chan) (x : OutChannel) : (s.setChannel k c x).table = s.table := rfl
@[simp] theorem State.setChannel_drums (s : State) (k : Stage) (c : Chan) (x : OutChannel) : (s.setChannel k c x).drums = s.drums := rfl
@[simp] theorem State.setChannel_inputs (s : State) (k : Stage) (c : Chan) (x : OutChannel) : (s.setChannel k c x).inputs = s.inputs := rfl
@[simp] theorem State.setChannel_rope (s : State) (k : Stage) (c : Chan) (x : OutChannel) : (s.setChannel k c x).rope = s.rope := rfl
@[simp] theorem State.setChannel_depth (s : State) (k : Stage) (c : Chan) (x : OutChannel) : (s.setChannel k c x).depth = s.depth := rfl
@[simp] theorem State.setChannel_env (s : State) (k : Stage) (c : Chan) (x : OutChannel) : (s.setChannel k c x).env = s.env := rfl
@[simp] theorem State.setChannel_wind (s : State) (k : Stage) (c : Chan) (x : OutChannel) : (s.setChannel k c x).wind = s.wind := rfl
@[simp] theorem State.setChannel_proof (s : State) (k : Stage) (c : Chan) (x : OutChannel) : (s.setChannel k c x).proof = s.proof := rfl

@[simp] theorem State.setDrum_get (s : State) (d : Side) (x : Drum) : (s.setDrum d x).drums.drum.get d = x := by
  cases d <;> rfl
@[simp] theorem State.setDrum_drum (s : State) (d : Side) (x : Drum) :
    (s.setDrum d x).drums.drum = s.drums.drum.set d x := rfl
@[simp] theorem State.setDrum_hold (s : State) (d : Side) (x : Drum) : (s.setDrum d x).drums.hold = s.drums.hold := rfl
@[simp] theorem State.setDrum_holdDue (s : State) (d : Side) (x : Drum) :
    (s.setDrum d x).drums.holdDue = s.drums.holdDue := rfl
@[simp] theorem State.setDrum_sampled (s : State) (d : Side) (x : Drum) :
    (s.setDrum d x).drums.sampled = s.drums.sampled := rfl
@[simp] theorem State.setRopeSide_side (s : State) (d : Side) (x : RopeSide) :
    (s.setRopeSide d x).rope.side = s.rope.side.set d x := rfl
@[simp] theorem State.setRopeSide_rx (s : State) (d : Side) (x : RopeSide) : (s.setRopeSide d x).rope.rx = s.rope.rx := rfl
@[simp] theorem State.setRopeSide_lastSeq (s : State) (d : Side) (x : RopeSide) :
    (s.setRopeSide d x).rope.lastSeq = s.rope.lastSeq := rfl
@[simp] theorem State.setRopeSide_frame (s : State) (d : Side) (x : RopeSide) :
    (s.setRopeSide d x).rope.frame = s.rope.frame := rfl
@[simp] theorem State.setRopeSide_loadLost (s : State) (d : Side) (x : RopeSide) :
    (s.setRopeSide d x).rope.loadLost = s.rope.loadLost := rfl
@[simp] theorem State.setTrack_depth (s : State) (d : Side) (x : Track) : (s.setTrack d x).depth = s.depth.set d x := rfl
@[simp] theorem State.setChannel_latch (s : State) (k : Stage) (c : Chan) (x : OutChannel) :
    (s.setChannel k c x).trip.latch = s.trip.latch := rfl
@[simp] theorem State.setChannel_causes (s : State) (k : Stage) (c : Chan) (x : OutChannel) :
    (s.setChannel k c x).trip.causes = s.trip.causes := rfl
@[simp] theorem State.setChannel_active (s : State) (k : Stage) (c : Chan) (x : OutChannel) :
    (s.setChannel k c x).trip.active = s.trip.active := rfl
@[simp] theorem State.setChannel_capture (s : State) (k : Stage) (c : Chan) (x : OutChannel) :
    (s.setChannel k c x).trip.capture = s.trip.capture := rfl
@[simp] theorem State.setChannel_chan (s : State) (k : Stage) (c : Chan) (x : OutChannel) :
    (s.setChannel k c x).trip.chan = s.trip.chan.set k ((s.trip.chan.get k).set c x) := rfl
@[simp] theorem State.setCurrent_current (s : State) (w : OpenWind) : (s.setCurrent w).wind.current = some w := rfl
@[simp] theorem State.setCurrent_history (s : State) (w : OpenWind) : (s.setCurrent w).wind.history = s.wind.history := rfl
@[simp] theorem State.setCurrent_number (s : State) (w : OpenWind) : (s.setCurrent w).wind.number = s.wind.number := rfl
@[simp] theorem State.setCurrent_recovery (s : State) (w : OpenWind) :
    (s.setCurrent w).wind.recovery = s.wind.recovery := rfl
@[simp] theorem State.setCurrent_pending (s : State) (w : OpenWind) : (s.setCurrent w).pending = s.pending := rfl
@[simp] theorem State.setCurrent_pins (s : State) (w : OpenWind) : (s.setCurrent w).pins = s.pins := rfl
@[simp] theorem State.setCurrent_clock (s : State) (w : OpenWind) : (s.setCurrent w).clock = s.clock := rfl
@[simp] theorem State.setCurrent_link (s : State) (w : OpenWind) : (s.setCurrent w).link = s.link := rfl
@[simp] theorem State.setCurrent_table (s : State) (w : OpenWind) : (s.setCurrent w).table = s.table := rfl
@[simp] theorem State.setCurrent_drums (s : State) (w : OpenWind) : (s.setCurrent w).drums = s.drums := rfl
@[simp] theorem State.setCurrent_inputs (s : State) (w : OpenWind) : (s.setCurrent w).inputs = s.inputs := rfl
@[simp] theorem State.setCurrent_rope (s : State) (w : OpenWind) : (s.setCurrent w).rope = s.rope := rfl
@[simp] theorem State.setCurrent_depth (s : State) (w : OpenWind) : (s.setCurrent w).depth = s.depth := rfl
@[simp] theorem State.setCurrent_env (s : State) (w : OpenWind) : (s.setCurrent w).env = s.env := rfl
@[simp] theorem State.setCurrent_trip (s : State) (w : OpenWind) : (s.setCurrent w).trip = s.trip := rfl
@[simp] theorem State.setCurrent_proof (s : State) (w : OpenWind) : (s.setCurrent w).proof = s.proof := rfl

end Sys2Proof.Machine
end

