-- ==== Sys2Proof/Laws/Blocks.lean ====
section
/-! SUPPORT. Which blocks of the state each shared operation leaves as they were: reports and replies touch the link port
alone, channels, latches and the fault record the trip unit alone, a raise without its hand-over both of them, and so
on. -/

namespace Sys2Proof.Machine

/-! ## The link port -/

@[simp] theorem State.report_pending (s : State) (b : ReportBody) : (s.report b).pending = s.pending := by unfold State.report; split <;> rfl
@[simp] theorem State.report_pins (s : State) (b : ReportBody) : (s.report b).pins = s.pins := by unfold State.report; split <;> rfl
@[simp] theorem State.report_clock (s : State) (b : ReportBody) : (s.report b).clock = s.clock := by unfold State.report; split <;> rfl
@[simp] theorem State.report_table (s : State) (b : ReportBody) : (s.report b).table = s.table := by unfold State.report; split <;> rfl
@[simp] theorem State.report_drums (s : State) (b : ReportBody) : (s.report b).drums = s.drums := by unfold State.report; split <;> rfl
@[simp] theorem State.report_inputs (s : State) (b : ReportBody) : (s.report b).inputs = s.inputs := by unfold State.report; split <;> rfl
@[simp] theorem State.report_rope (s : State) (b : ReportBody) : (s.report b).rope = s.rope := by unfold State.report; split <;> rfl
@[simp] theorem State.report_depth (s : State) (b : ReportBody) : (s.report b).depth = s.depth := by unfold State.report; split <;> rfl
@[simp] theorem State.report_env (s : State) (b : ReportBody) : (s.report b).env = s.env := by unfold State.report; split <;> rfl
@[simp] theorem State.report_wind (s : State) (b : ReportBody) : (s.report b).wind = s.wind := by unfold State.report; split <;> rfl
@[simp] theorem State.report_trip (s : State) (b : ReportBody) : (s.report b).trip = s.trip := by unfold State.report; split <;> rfl
@[simp] theorem State.report_proof (s : State) (b : ReportBody) : (s.report b).proof = s.proof := by unfold State.report; split <;> rfl

@[simp] theorem State.answer_pending (s : State) (r : Reply) : (s.answer r).pending = s.pending := rfl
@[simp] theorem State.answer_pins (s : State) (r : Reply) : (s.answer r).pins = s.pins := rfl
@[simp] theorem State.answer_clock (s : State) (r : Reply) : (s.answer r).clock = s.clock := rfl
@[simp] theorem State.answer_table (s : State) (r : Reply) : (s.answer r).table = s.table := rfl
@[simp] theorem State.answer_drums (s : State) (r : Reply) : (s.answer r).drums = s.drums := rfl
@[simp] theorem State.answer_inputs (s : State) (r : Reply) : (s.answer r).inputs = s.inputs := rfl
@[simp] theorem State.answer_rope (s : State) (r : Reply) : (s.answer r).rope = s.rope := rfl
@[simp] theorem State.answer_depth (s : State) (r : Reply) : (s.answer r).depth = s.depth := rfl
@[simp] theorem State.answer_env (s : State) (r : Reply) : (s.answer r).env = s.env := rfl
@[simp] theorem State.answer_wind (s : State) (r : Reply) : (s.answer r).wind = s.wind := rfl
@[simp] theorem State.answer_trip (s : State) (r : Reply) : (s.answer r).trip = s.trip := rfl
@[simp] theorem State.answer_proof (s : State) (r : Reply) : (s.answer r).proof = s.proof := rfl

@[simp] theorem State.transmit_pending (s : State) : (s.transmit).pending = s.pending := by unfold State.transmit; split <;> rfl
@[simp] theorem State.transmit_pins (s : State) : (s.transmit).pins = s.pins := by unfold State.transmit; split <;> rfl
@[simp] theorem State.transmit_clock (s : State) : (s.transmit).clock = s.clock := by unfold State.transmit; split <;> rfl
@[simp] theorem State.transmit_table (s : State) : (s.transmit).table = s.table := by unfold State.transmit; split <;> rfl
@[simp] theorem State.transmit_drums (s : State) : (s.transmit).drums = s.drums := by unfold State.transmit; split <;> rfl
@[simp] theorem State.transmit_inputs (s : State) : (s.transmit).inputs = s.inputs := by unfold State.transmit; split <;> rfl
@[simp] theorem State.transmit_rope (s : State) : (s.transmit).rope = s.rope := by unfold State.transmit; split <;> rfl
@[simp] theorem State.transmit_depth (s : State) : (s.transmit).depth = s.depth := by unfold State.transmit; split <;> rfl
@[simp] theorem State.transmit_env (s : State) : (s.transmit).env = s.env := by unfold State.transmit; split <;> rfl
@[simp] theorem State.transmit_wind (s : State) : (s.transmit).wind = s.wind := by unfold State.transmit; split <;> rfl
@[simp] theorem State.transmit_trip (s : State) : (s.transmit).trip = s.trip := by unfold State.transmit; split <;> rfl
@[simp] theorem State.transmit_proof (s : State) : (s.transmit).proof = s.proof := by unfold State.transmit; split <;> rfl

/-! ## The trip unit -/

@[simp] theorem State.dropActive_pending (s : State) (p : Cause → Bool) : (s.dropActive p).pending = s.pending := rfl
@[simp] theorem State.dropActive_pins (s : State) (p : Cause → Bool) : (s.dropActive p).pins = s.pins := rfl
@[simp] theorem State.dropActive_clock (s : State) (p : Cause → Bool) : (s.dropActive p).clock = s.clock := rfl
@[simp] theorem State.dropActive_link (s : State) (p : Cause → Bool) : (s.dropActive p).link = s.link := rfl
@[simp] theorem State.dropActive_table (s : State) (p : Cause → Bool) : (s.dropActive p).table = s.table := rfl
@[simp] theorem State.dropActive_drums (s : State) (p : Cause → Bool) : (s.dropActive p).drums = s.drums := rfl
@[simp] theorem State.dropActive_inputs (s : State) (p : Cause → Bool) : (s.dropActive p).inputs = s.inputs := rfl
@[simp] theorem State.dropActive_rope (s : State) (p : Cause → Bool) : (s.dropActive p).rope = s.rope := rfl
@[simp] theorem State.dropActive_depth (s : State) (p : Cause → Bool) : (s.dropActive p).depth = s.depth := rfl
@[simp] theorem State.dropActive_env (s : State) (p : Cause → Bool) : (s.dropActive p).env = s.env := rfl
@[simp] theorem State.dropActive_wind (s : State) (p : Cause → Bool) : (s.dropActive p).wind = s.wind := rfl
@[simp] theorem State.dropActive_proof (s : State) (p : Cause → Bool) : (s.dropActive p).proof = s.proof := rfl

@[simp] theorem State.compareChannel_pending (s : State) (k : Stage) (c : Chan) : (s.compareChannel k c).pending = s.pending := by
  unfold State.compareChannel
  split
  · rfl
  · split
    · rfl
    · split <;> rfl
@[simp] theorem State.compareChannel_pins (s : State) (k : Stage) (c : Chan) : (s.compareChannel k c).pins = s.pins := by
  unfold State.compareChannel
  split
  · rfl
  · split
    · rfl
    · split <;> rfl
@[simp] theorem State.compareChannel_clock (s : State) (k : Stage) (c : Chan) : (s.compareChannel k c).clock = s.clock := by
  unfold State.compareChannel
  split
  · rfl
  · split
    · rfl
    · split <;> rfl
@[simp] theorem State.compareChannel_link (s : State) (k : Stage) (c : Chan) : (s.compareChannel k c).link = s.link := by
  unfold State.compareChannel
  split
  · rfl
  · split
    · rfl
    · split <;> rfl
@[simp] theorem State.compareChannel_table (s : State) (k : Stage) (c : Chan) : (s.compareChannel k c).table = s.table := by
  unfold State.compareChannel
  split
  · rfl
  · split
    · rfl
    · split <;> rfl
@[simp] theorem State.compareChannel_drums (s : State) (k : Stage) (c : Chan) : (s.compareChannel k c).drums = s.drums := by
  unfold State.compareChannel
  split
  · rfl
  · split
    · rfl
    · split <;> rfl
@[simp] theorem State.compareChannel_inputs (s : State) (k : Stage) (c : Chan) : (s.compareChannel k c).inputs = s.inputs := by
  unfold State.compareChannel
  split
  · rfl
  · split
    · rfl
    · split <;> rfl
@[simp] theorem State.compareChannel_rope (s : State) (k : Stage) (c : Chan) : (s.compareChannel k c).rope = s.rope := by
  unfold State.compareChannel
  split
  · rfl
  · split
    · rfl
    · split <;> rfl
@[simp] theorem State.compareChannel_depth (s : State) (k : Stage) (c : Chan) : (s.compareChannel k c).depth = s.depth := by
  unfold State.compareChannel
  split
  · rfl
  · split
    · rfl
    · split <;> rfl
@[simp] theorem State.compareChannel_env (s : State) (k : Stage) (c : Chan) : (s.compareChannel k c).env = s.env := by
  unfold State.compareChannel
  split
  · rfl
  · split
    · rfl
    · split <;> rfl
@[simp] theorem State.compareChannel_wind (s : State) (k : Stage) (c : Chan) : (s.compareChannel k c).wind = s.wind := by
  unfold State.compareChannel
  split
  · rfl
  · split
    · rfl
    · split <;> rfl
@[simp] theorem State.compareChannel_proof (s : State) (k : Stage) (c : Chan) : (s.compareChannel k c).proof = s.proof := by
  unfold State.compareChannel
  split
  · rfl
  · split
    · rfl
    · split <;> rfl

@[simp] theorem State.command_pending (s : State) (k : Stage) (c : Chan) (e : Bool) : (s.command k c e).pending = s.pending := by
  unfold State.command; split <;> simp
@[simp] theorem State.command_pins (s : State) (k : Stage) (c : Chan) (e : Bool) : (s.command k c e).pins = s.pins := by
  unfold State.command; split <;> simp
@[simp] theorem State.command_clock (s : State) (k : Stage) (c : Chan) (e : Bool) : (s.command k c e).clock = s.clock := by
  unfold State.command; split <;> simp
@[simp] theorem State.command_link (s : State) (k : Stage) (c : Chan) (e : Bool) : (s.command k c e).link = s.link := by
  unfold State.command; split <;> simp
@[simp] theorem State.command_table (s : State) (k : Stage) (c : Chan) (e : Bool) : (s.command k c e).table = s.table := by
  unfold State.command; split <;> simp
@[simp] theorem State.command_drums (s : State) (k : Stage) (c : Chan) (e : Bool) : (s.command k c e).drums = s.drums := by
  unfold State.command; split <;> simp
@[simp] theorem State.command_inputs (s : State) (k : Stage) (c : Chan) (e : Bool) : (s.command k c e).inputs = s.inputs := by
  unfold State.command; split <;> simp
@[simp] theorem State.command_rope (s : State) (k : Stage) (c : Chan) (e : Bool) : (s.command k c e).rope = s.rope := by
  unfold State.command; split <;> simp
@[simp] theorem State.command_depth (s : State) (k : Stage) (c : Chan) (e : Bool) : (s.command k c e).depth = s.depth := by
  unfold State.command; split <;> simp
@[simp] theorem State.command_env (s : State) (k : Stage) (c : Chan) (e : Bool) : (s.command k c e).env = s.env := by
  unfold State.command; split <;> simp
@[simp] theorem State.command_wind (s : State) (k : Stage) (c : Chan) (e : Bool) : (s.command k c e).wind = s.wind := by
  unfold State.command; split <;> simp
@[simp] theorem State.command_proof (s : State) (k : Stage) (c : Chan) (e : Bool) : (s.command k c e).proof = s.proof := by
  unfold State.command; split <;> simp

@[simp] theorem State.followLatch_pending (s : State) (k : Stage) : (s.followLatch k).pending = s.pending := by
  unfold State.followLatch; split <;> simp
@[simp] theorem State.followLatch_pins (s : State) (k : Stage) : (s.followLatch k).pins = s.pins := by
  unfold State.followLatch; split <;> simp
@[simp] theorem State.followLatch_clock (s : State) (k : Stage) : (s.followLatch k).clock = s.clock := by
  unfold State.followLatch; split <;> simp
@[simp] theorem State.followLatch_link (s : State) (k : Stage) : (s.followLatch k).link = s.link := by
  unfold State.followLatch; split <;> simp
@[simp] theorem State.followLatch_table (s : State) (k : Stage) : (s.followLatch k).table = s.table := by
  unfold State.followLatch; split <;> simp
@[simp] theorem State.followLatch_drums (s : State) (k : Stage) : (s.followLatch k).drums = s.drums := by
  unfold State.followLatch; split <;> simp
@[simp] theorem State.followLatch_inputs (s : State) (k : Stage) : (s.followLatch k).inputs = s.inputs := by
  unfold State.followLatch; split <;> simp
@[simp] theorem State.followLatch_rope (s : State) (k : Stage) : (s.followLatch k).rope = s.rope := by
  unfold State.followLatch; split <;> simp
@[simp] theorem State.followLatch_depth (s : State) (k : Stage) : (s.followLatch k).depth = s.depth := by
  unfold State.followLatch; split <;> simp
@[simp] theorem State.followLatch_env (s : State) (k : Stage) : (s.followLatch k).env = s.env := by
  unfold State.followLatch; split <;> simp
@[simp] theorem State.followLatch_wind (s : State) (k : Stage) : (s.followLatch k).wind = s.wind := by
  unfold State.followLatch; split <;> simp
@[simp] theorem State.followLatch_proof (s : State) (k : Stage) : (s.followLatch k).proof = s.proof := by
  unfold State.followLatch; split <;> simp

@[simp] theorem State.setLatch_pending (s : State) (k : Stage) (l : Latch) : (s.setLatch k l).pending = s.pending := by
  simp [State.setLatch]
@[simp] theorem State.setLatch_pins (s : State) (k : Stage) (l : Latch) : (s.setLatch k l).pins = s.pins := by
  simp [State.setLatch]
@[simp] theorem State.setLatch_clock (s : State) (k : Stage) (l : Latch) : (s.setLatch k l).clock = s.clock := by
  simp [State.setLatch]
@[simp] theorem State.setLatch_link (s : State) (k : Stage) (l : Latch) : (s.setLatch k l).link = s.link := by
  simp [State.setLatch]
@[simp] theorem State.setLatch_table (s : State) (k : Stage) (l : Latch) : (s.setLatch k l).table = s.table := by
  simp [State.setLatch]
@[simp] theorem State.setLatch_drums (s : State) (k : Stage) (l : Latch) : (s.setLatch k l).drums = s.drums := by
  simp [State.setLatch]
@[simp] theorem State.setLatch_inputs (s : State) (k : Stage) (l : Latch) : (s.setLatch k l).inputs = s.inputs := by
  simp [State.setLatch]
@[simp] theorem State.setLatch_rope (s : State) (k : Stage) (l : Latch) : (s.setLatch k l).rope = s.rope := by
  simp [State.setLatch]
@[simp] theorem State.setLatch_depth (s : State) (k : Stage) (l : Latch) : (s.setLatch k l).depth = s.depth := by
  simp [State.setLatch]
@[simp] theorem State.setLatch_env (s : State) (k : Stage) (l : Latch) : (s.setLatch k l).env = s.env := by
  simp [State.setLatch]
@[simp] theorem State.setLatch_wind (s : State) (k : Stage) (l : Latch) : (s.setLatch k l).wind = s.wind := by
  simp [State.setLatch]
@[simp] theorem State.setLatch_proof (s : State) (k : Stage) (l : Latch) : (s.setLatch k l).proof = s.proof := by
  simp [State.setLatch]

@[simp] theorem State.addCause_pending (s : State) (c : Cause) : (s.addCause c).pending = s.pending := rfl
@[simp] theorem State.addCause_pins (s : State) (c : Cause) : (s.addCause c).pins = s.pins := rfl
@[simp] theorem State.addCause_clock (s : State) (c : Cause) : (s.addCause c).clock = s.clock := rfl
@[simp] theorem State.addCause_link (s : State) (c : Cause) : (s.addCause c).link = s.link := rfl
@[simp] theorem State.addCause_table (s : State) (c : Cause) : (s.addCause c).table = s.table := rfl
@[simp] theorem State.addCause_drums (s : State) (c : Cause) : (s.addCause c).drums = s.drums := rfl
@[simp] theorem State.addCause_inputs (s : State) (c : Cause) : (s.addCause c).inputs = s.inputs := rfl
@[simp] theorem State.addCause_rope (s : State) (c : Cause) : (s.addCause c).rope = s.rope := rfl
@[simp] theorem State.addCause_depth (s : State) (c : Cause) : (s.addCause c).depth = s.depth := rfl
@[simp] theorem State.addCause_env (s : State) (c : Cause) : (s.addCause c).env = s.env := rfl
@[simp] theorem State.addCause_wind (s : State) (c : Cause) : (s.addCause c).wind = s.wind := rfl
@[simp] theorem State.addCause_proof (s : State) (c : Cause) : (s.addCause c).proof = s.proof := rfl

@[simp] theorem State.addActive_pending (s : State) (c : Cause) : (s.addActive c).pending = s.pending := by unfold State.addActive; split <;> rfl
@[simp] theorem State.addActive_pins (s : State) (c : Cause) : (s.addActive c).pins = s.pins := by unfold State.addActive; split <;> rfl
@[simp] theorem State.addActive_clock (s : State) (c : Cause) : (s.addActive c).clock = s.clock := by unfold State.addActive; split <;> rfl
@[simp] theorem State.addActive_link (s : State) (c : Cause) : (s.addActive c).link = s.link := by unfold State.addActive; split <;> rfl
@[simp] theorem State.addActive_table (s : State) (c : Cause) : (s.addActive c).table = s.table := by unfold State.addActive; split <;> rfl
@[simp] theorem State.addActive_drums (s : State) (c : Cause) : (s.addActive c).drums = s.drums := by unfold State.addActive; split <;> rfl
@[simp] theorem State.addActive_inputs (s : State) (c : Cause) : (s.addActive c).inputs = s.inputs := by unfold State.addActive; split <;> rfl
@[simp] theorem State.addActive_rope (s : State) (c : Cause) : (s.addActive c).rope = s.rope := by unfold State.addActive; split <;> rfl
@[simp] theorem State.addActive_depth (s : State) (c : Cause) : (s.addActive c).depth = s.depth := by unfold State.addActive; split <;> rfl
@[simp] theorem State.addActive_env (s : State) (c : Cause) : (s.addActive c).env = s.env := by unfold State.addActive; split <;> rfl
@[simp] theorem State.addActive_wind (s : State) (c : Cause) : (s.addActive c).wind = s.wind := by unfold State.addActive; split <;> rfl
@[simp] theorem State.addActive_proof (s : State) (c : Cause) : (s.addActive c).proof = s.proof := by unfold State.addActive; split <;> rfl

@[simp] theorem State.offerCapture_pending (s : State) (c : Cause) : (s.offerCapture c).pending = s.pending := by
  unfold State.offerCapture
  split
  · rfl
  · split <;> rfl
@[simp] theorem State.offerCapture_pins (s : State) (c : Cause) : (s.offerCapture c).pins = s.pins := by
  unfold State.offerCapture
  split
  · rfl
  · split <;> rfl
@[simp] theorem State.offerCapture_clock (s : State) (c : Cause) : (s.offerCapture c).clock = s.clock := by
  unfold State.offerCapture
  split
  · rfl
  · split <;> rfl
@[simp] theorem State.offerCapture_link (s : State) (c : Cause) : (s.offerCapture c).link = s.link := by
  unfold State.offerCapture
  split
  · rfl
  · split <;> rfl
@[simp] theorem State.offerCapture_table (s : State) (c : Cause) : (s.offerCapture c).table = s.table := by
  unfold State.offerCapture
  split
  · rfl
  · split <;> rfl
@[simp] theorem State.offerCapture_drums (s : State) (c : Cause) : (s.offerCapture c).drums = s.drums := by
  unfold State.offerCapture
  split
  · rfl
  · split <;> rfl
@[simp] theorem State.offerCapture_inputs (s : State) (c : Cause) : (s.offerCapture c).inputs = s.inputs := by
  unfold State.offerCapture
  split
  · rfl
  · split <;> rfl
@[simp] theorem State.offerCapture_rope (s : State) (c : Cause) : (s.offerCapture c).rope = s.rope := by
  unfold State.offerCapture
  split
  · rfl
  · split <;> rfl
@[simp] theorem State.offerCapture_depth (s : State) (c : Cause) : (s.offerCapture c).depth = s.depth := by
  unfold State.offerCapture
  split
  · rfl
  · split <;> rfl
@[simp] theorem State.offerCapture_env (s : State) (c : Cause) : (s.offerCapture c).env = s.env := by
  unfold State.offerCapture
  split
  · rfl
  · split <;> rfl
@[simp] theorem State.offerCapture_wind (s : State) (c : Cause) : (s.offerCapture c).wind = s.wind := by
  unfold State.offerCapture
  split
  · rfl
  · split <;> rfl
@[simp] theorem State.offerCapture_proof (s : State) (c : Cause) : (s.offerCapture c).proof = s.proof := by
  unfold State.offerCapture
  split
  · rfl
  · split <;> rfl

@[simp] theorem State.endLimit_pending (s : State) (d : Side) : (s.endLimit d).pending = s.pending := rfl
@[simp] theorem State.endLimit_pins (s : State) (d : Side) : (s.endLimit d).pins = s.pins := rfl
@[simp] theorem State.endLimit_clock (s : State) (d : Side) : (s.endLimit d).clock = s.clock := rfl
@[simp] theorem State.endLimit_link (s : State) (d : Side) : (s.endLimit d).link = s.link := rfl
@[simp] theorem State.endLimit_table (s : State) (d : Side) : (s.endLimit d).table = s.table := rfl
@[simp] theorem State.endLimit_drums (s : State) (d : Side) : (s.endLimit d).drums = s.drums := rfl
@[simp] theorem State.endLimit_inputs (s : State) (d : Side) : (s.endLimit d).inputs = s.inputs := rfl
@[simp] theorem State.endLimit_rope (s : State) (d : Side) : (s.endLimit d).rope = s.rope := rfl
@[simp] theorem State.endLimit_depth (s : State) (d : Side) : (s.endLimit d).depth = s.depth := rfl
@[simp] theorem State.endLimit_env (s : State) (d : Side) : (s.endLimit d).env = s.env := rfl
@[simp] theorem State.endLimit_wind (s : State) (d : Side) : (s.endLimit d).wind = s.wind := rfl
@[simp] theorem State.endLimit_proof (s : State) (d : Side) : (s.endLimit d).proof = s.proof := rfl

/-! ## The trip unit with its reports -/

@[simp] theorem State.setAdvisory_pending (s : State) (c : Cause) : (s.setAdvisory c).pending = s.pending := by
  simp [State.setAdvisory]
@[simp] theorem State.setAdvisory_pins (s : State) (c : Cause) : (s.setAdvisory c).pins = s.pins := by
  simp [State.setAdvisory]
@[simp] theorem State.setAdvisory_clock (s : State) (c : Cause) : (s.setAdvisory c).clock = s.clock := by
  simp [State.setAdvisory]
@[simp] theorem State.setAdvisory_table (s : State) (c : Cause) : (s.setAdvisory c).table = s.table := by
  simp [State.setAdvisory]
@[simp] theorem State.setAdvisory_drums (s : State) (c : Cause) : (s.setAdvisory c).drums = s.drums := by
  simp [State.setAdvisory]
@[simp] theorem State.setAdvisory_inputs (s : State) (c : Cause) : (s.setAdvisory c).inputs = s.inputs := by
  simp [State.setAdvisory]
@[simp] theorem State.setAdvisory_rope (s : State) (c : Cause) : (s.setAdvisory c).rope = s.rope := by
  simp [State.setAdvisory]
@[simp] theorem State.setAdvisory_depth (s : State) (c : Cause) : (s.setAdvisory c).depth = s.depth := by
  simp [State.setAdvisory]
@[simp] theorem State.setAdvisory_env (s : State) (c : Cause) : (s.setAdvisory c).env = s.env := by
  simp [State.setAdvisory]
@[simp] theorem State.setAdvisory_wind (s : State) (c : Cause) : (s.setAdvisory c).wind = s.wind := by
  simp [State.setAdvisory]
@[simp] theorem State.setAdvisory_proof (s : State) (c : Cause) : (s.setAdvisory c).proof = s.proof := by
  simp [State.setAdvisory]

@[simp] theorem State.clearAdvisory_pending (s : State) (c : Cause) : (s.clearAdvisory c).pending = s.pending := by
  simp [State.clearAdvisory]
@[simp] theorem State.clearAdvisory_pins (s : State) (c : Cause) : (s.clearAdvisory c).pins = s.pins := by
  simp [State.clearAdvisory]
@[simp] theorem State.clearAdvisory_clock (s : State) (c : Cause) : (s.clearAdvisory c).clock = s.clock := by
  simp [State.clearAdvisory]
@[simp] theorem State.clearAdvisory_table (s : State) (c : Cause) : (s.clearAdvisory c).table = s.table := by
  simp [State.clearAdvisory]
@[simp] theorem State.clearAdvisory_drums (s : State) (c : Cause) : (s.clearAdvisory c).drums = s.drums := by
  simp [State.clearAdvisory]
@[simp] theorem State.clearAdvisory_inputs (s : State) (c : Cause) : (s.clearAdvisory c).inputs = s.inputs := by
  simp [State.clearAdvisory]
@[simp] theorem State.clearAdvisory_rope (s : State) (c : Cause) : (s.clearAdvisory c).rope = s.rope := by
  simp [State.clearAdvisory]
@[simp] theorem State.clearAdvisory_depth (s : State) (c : Cause) : (s.clearAdvisory c).depth = s.depth := by
  simp [State.clearAdvisory]
@[simp] theorem State.clearAdvisory_env (s : State) (c : Cause) : (s.clearAdvisory c).env = s.env := by
  simp [State.clearAdvisory]
@[simp] theorem State.clearAdvisory_wind (s : State) (c : Cause) : (s.clearAdvisory c).wind = s.wind := by
  simp [State.clearAdvisory]
@[simp] theorem State.clearAdvisory_proof (s : State) (c : Cause) : (s.clearAdvisory c).proof = s.proof := by
  simp [State.clearAdvisory]

@[simp] theorem State.reportLatch_pending (s : State) (c : Cause) (k : Stage) : (State.reportLatch c s k).pending = s.pending := by
  simp [State.reportLatch]
@[simp] theorem State.reportLatch_pins (s : State) (c : Cause) (k : Stage) : (State.reportLatch c s k).pins = s.pins := by
  simp [State.reportLatch]
@[simp] theorem State.reportLatch_clock (s : State) (c : Cause) (k : Stage) : (State.reportLatch c s k).clock = s.clock := by
  simp [State.reportLatch]
@[simp] theorem State.reportLatch_table (s : State) (c : Cause) (k : Stage) : (State.reportLatch c s k).table = s.table := by
  simp [State.reportLatch]
@[simp] theorem State.reportLatch_drums (s : State) (c : Cause) (k : Stage) : (State.reportLatch c s k).drums = s.drums := by
  simp [State.reportLatch]
@[simp] theorem State.reportLatch_inputs (s : State) (c : Cause) (k : Stage) : (State.reportLatch c s k).inputs = s.inputs := by
  simp [State.reportLatch]
@[simp] theorem State.reportLatch_rope (s : State) (c : Cause) (k : Stage) : (State.reportLatch c s k).rope = s.rope := by
  simp [State.reportLatch]
@[simp] theorem State.reportLatch_depth (s : State) (c : Cause) (k : Stage) : (State.reportLatch c s k).depth = s.depth := by
  simp [State.reportLatch]
@[simp] theorem State.reportLatch_env (s : State) (c : Cause) (k : Stage) : (State.reportLatch c s k).env = s.env := by
  simp [State.reportLatch]
@[simp] theorem State.reportLatch_wind (s : State) (c : Cause) (k : Stage) : (State.reportLatch c s k).wind = s.wind := by
  simp [State.reportLatch]
@[simp] theorem State.reportLatch_trip (s : State) (c : Cause) (k : Stage) : (State.reportLatch c s k).trip = s.trip := by
  simp [State.reportLatch]
@[simp] theorem State.reportLatch_proof (s : State) (c : Cause) (k : Stage) : (State.reportLatch c s k).proof = s.proof := by
  simp [State.reportLatch]

theorem State.setLatches_pending (c : Cause) (l : List Stage) (s : State) :
    (l.foldl (fun x k => x.setLatch k (.latched c)) s).pending = s.pending := by
  induction l generalizing s with
  | nil => rfl
  | cons k l ih => rw [List.foldl_cons, ih]; simp
theorem State.setLatches_pins (c : Cause) (l : List Stage) (s : State) :
    (l.foldl (fun x k => x.setLatch k (.latched c)) s).pins = s.pins := by
  induction l generalizing s with
  | nil => rfl
  | cons k l ih => rw [List.foldl_cons, ih]; simp
theorem State.setLatches_clock (c : Cause) (l : List Stage) (s : State) :
    (l.foldl (fun x k => x.setLatch k (.latched c)) s).clock = s.clock := by
  induction l generalizing s with
  | nil => rfl
  | cons k l ih => rw [List.foldl_cons, ih]; simp
theorem State.setLatches_link (c : Cause) (l : List Stage) (s : State) :
    (l.foldl (fun x k => x.setLatch k (.latched c)) s).link = s.link := by
  induction l generalizing s with
  | nil => rfl
  | cons k l ih => rw [List.foldl_cons, ih]; simp
theorem State.setLatches_table (c : Cause) (l : List Stage) (s : State) :
    (l.foldl (fun x k => x.setLatch k (.latched c)) s).table = s.table := by
  induction l generalizing s with
  | nil => rfl
  | cons k l ih => rw [List.foldl_cons, ih]; simp
theorem State.setLatches_drums (c : Cause) (l : List Stage) (s : State) :
    (l.foldl (fun x k => x.setLatch k (.latched c)) s).drums = s.drums := by
  induction l generalizing s with
  | nil => rfl
  | cons k l ih => rw [List.foldl_cons, ih]; simp
theorem State.setLatches_inputs (c : Cause) (l : List Stage) (s : State) :
    (l.foldl (fun x k => x.setLatch k (.latched c)) s).inputs = s.inputs := by
  induction l generalizing s with
  | nil => rfl
  | cons k l ih => rw [List.foldl_cons, ih]; simp
theorem State.setLatches_rope (c : Cause) (l : List Stage) (s : State) :
    (l.foldl (fun x k => x.setLatch k (.latched c)) s).rope = s.rope := by
  induction l generalizing s with
  | nil => rfl
  | cons k l ih => rw [List.foldl_cons, ih]; simp
theorem State.setLatches_depth (c : Cause) (l : List Stage) (s : State) :
    (l.foldl (fun x k => x.setLatch k (.latched c)) s).depth = s.depth := by
  induction l generalizing s with
  | nil => rfl
  | cons k l ih => rw [List.foldl_cons, ih]; simp
theorem State.setLatches_env (c : Cause) (l : List Stage) (s : State) :
    (l.foldl (fun x k => x.setLatch k (.latched c)) s).env = s.env := by
  induction l generalizing s with
  | nil => rfl
  | cons k l ih => rw [List.foldl_cons, ih]; simp
theorem State.setLatches_wind (c : Cause) (l : List Stage) (s : State) :
    (l.foldl (fun x k => x.setLatch k (.latched c)) s).wind = s.wind := by
  induction l generalizing s with
  | nil => rfl
  | cons k l ih => rw [List.foldl_cons, ih]; simp
theorem State.setLatches_proof (c : Cause) (l : List Stage) (s : State) :
    (l.foldl (fun x k => x.setLatch k (.latched c)) s).proof = s.proof := by
  induction l generalizing s with
  | nil => rfl
  | cons k l ih => rw [List.foldl_cons, ih]; simp

theorem State.reportLatches_pending (c : Cause) (l : List Stage) (s : State) :
    (l.foldl (fun x k => State.reportLatch c x k) s).pending = s.pending := by
  induction l generalizing s with
  | nil => rfl
  | cons k l ih => rw [List.foldl_cons, ih]; simp
theorem State.reportLatches_pins (c : Cause) (l : List Stage) (s : State) :
    (l.foldl (fun x k => State.reportLatch c x k) s).pins = s.pins := by
  induction l generalizing s with
  | nil => rfl
  | cons k l ih => rw [List.foldl_cons, ih]; simp
theorem State.reportLatches_clock (c : Cause) (l : List Stage) (s : State) :
    (l.foldl (fun x k => State.reportLatch c x k) s).clock = s.clock := by
  induction l generalizing s with
  | nil => rfl
  | cons k l ih => rw [List.foldl_cons, ih]; simp
theorem State.reportLatches_table (c : Cause) (l : List Stage) (s : State) :
    (l.foldl (fun x k => State.reportLatch c x k) s).table = s.table := by
  induction l generalizing s with
  | nil => rfl
  | cons k l ih => rw [List.foldl_cons, ih]; simp
theorem State.reportLatches_drums (c : Cause) (l : List Stage) (s : State) :
    (l.foldl (fun x k => State.reportLatch c x k) s).drums = s.drums := by
  induction l generalizing s with
  | nil => rfl
  | cons k l ih => rw [List.foldl_cons, ih]; simp
theorem State.reportLatches_inputs (c : Cause) (l : List Stage) (s : State) :
    (l.foldl (fun x k => State.reportLatch c x k) s).inputs = s.inputs := by
  induction l generalizing s with
  | nil => rfl
  | cons k l ih => rw [List.foldl_cons, ih]; simp
theorem State.reportLatches_rope (c : Cause) (l : List Stage) (s : State) :
    (l.foldl (fun x k => State.reportLatch c x k) s).rope = s.rope := by
  induction l generalizing s with
  | nil => rfl
  | cons k l ih => rw [List.foldl_cons, ih]; simp
theorem State.reportLatches_depth (c : Cause) (l : List Stage) (s : State) :
    (l.foldl (fun x k => State.reportLatch c x k) s).depth = s.depth := by
  induction l generalizing s with
  | nil => rfl
  | cons k l ih => rw [List.foldl_cons, ih]; simp
theorem State.reportLatches_env (c : Cause) (l : List Stage) (s : State) :
    (l.foldl (fun x k => State.reportLatch c x k) s).env = s.env := by
  induction l generalizing s with
  | nil => rfl
  | cons k l ih => rw [List.foldl_cons, ih]; simp
theorem State.reportLatches_wind (c : Cause) (l : List Stage) (s : State) :
    (l.foldl (fun x k => State.reportLatch c x k) s).wind = s.wind := by
  induction l generalizing s with
  | nil => rfl
  | cons k l ih => rw [List.foldl_cons, ih]; simp
theorem State.reportLatches_trip (c : Cause) (l : List Stage) (s : State) :
    (l.foldl (fun x k => State.reportLatch c x k) s).trip = s.trip := by
  induction l generalizing s with
  | nil => rfl
  | cons k l ih => rw [List.foldl_cons, ih]; simp
theorem State.reportLatches_proof (c : Cause) (l : List Stage) (s : State) :
    (l.foldl (fun x k => State.reportLatch c x k) s).proof = s.proof := by
  induction l generalizing s with
  | nil => rfl
  | cons k l ih => rw [List.foldl_cons, ih]; simp

@[simp] theorem State.raiseRecord_pending (s : State) (c : Cause) : (s.raiseRecord c).pending = s.pending := by
  unfold State.raiseRecord
  have h (x : State) (l : List Stage) : (l.foldl (State.reportLatch c) x).pending = x.pending :=
    State.reportLatches_pending c l x
  split <;> split <;> simp [h, State.setLatches_pending]
@[simp] theorem State.raiseRecord_pins (s : State) (c : Cause) : (s.raiseRecord c).pins = s.pins := by
  unfold State.raiseRecord
  have h (x : State) (l : List Stage) : (l.foldl (State.reportLatch c) x).pins = x.pins :=
    State.reportLatches_pins c l x
  split <;> split <;> simp [h, State.setLatches_pins]
@[simp] theorem State.raiseRecord_clock (s : State) (c : Cause) : (s.raiseRecord c).clock = s.clock := by
  unfold State.raiseRecord
  have h (x : State) (l : List Stage) : (l.foldl (State.reportLatch c) x).clock = x.clock :=
    State.reportLatches_clock c l x
  split <;> split <;> simp [h, State.setLatches_clock]
@[simp] theorem State.raiseRecord_table (s : State) (c : Cause) : (s.raiseRecord c).table = s.table := by
  unfold State.raiseRecord
  have h (x : State) (l : List Stage) : (l.foldl (State.reportLatch c) x).table = x.table :=
    State.reportLatches_table c l x
  split <;> split <;> simp [h, State.setLatches_table]
@[simp] theorem State.raiseRecord_drums (s : State) (c : Cause) : (s.raiseRecord c).drums = s.drums := by
  unfold State.raiseRecord
  have h (x : State) (l : List Stage) : (l.foldl (State.reportLatch c) x).drums = x.drums :=
    State.reportLatches_drums c l x
  split <;> split <;> simp [h, State.setLatches_drums]
@[simp] theorem State.raiseRecord_inputs (s : State) (c : Cause) : (s.raiseRecord c).inputs = s.inputs := by
  unfold State.raiseRecord
  have h (x : State) (l : List Stage) : (l.foldl (State.reportLatch c) x).inputs = x.inputs :=
    State.reportLatches_inputs c l x
  split <;> split <;> simp [h, State.setLatches_inputs]
@[simp] theorem State.raiseRecord_rope (s : State) (c : Cause) : (s.raiseRecord c).rope = s.rope := by
  unfold State.raiseRecord
  have h (x : State) (l : List Stage) : (l.foldl (State.reportLatch c) x).rope = x.rope :=
    State.reportLatches_rope c l x
  split <;> split <;> simp [h, State.setLatches_rope]
@[simp] theorem State.raiseRecord_depth (s : State) (c : Cause) : (s.raiseRecord c).depth = s.depth := by
  unfold State.raiseRecord
  have h (x : State) (l : List Stage) : (l.foldl (State.reportLatch c) x).depth = x.depth :=
    State.reportLatches_depth c l x
  split <;> split <;> simp [h, State.setLatches_depth]
@[simp] theorem State.raiseRecord_env (s : State) (c : Cause) : (s.raiseRecord c).env = s.env := by
  unfold State.raiseRecord
  have h (x : State) (l : List Stage) : (l.foldl (State.reportLatch c) x).env = x.env :=
    State.reportLatches_env c l x
  split <;> split <;> simp [h, State.setLatches_env]
@[simp] theorem State.raiseRecord_wind (s : State) (c : Cause) : (s.raiseRecord c).wind = s.wind := by
  unfold State.raiseRecord
  have h (x : State) (l : List Stage) : (l.foldl (State.reportLatch c) x).wind = x.wind :=
    State.reportLatches_wind c l x
  split <;> split <;> simp [h, State.setLatches_wind]
@[simp] theorem State.raiseRecord_proof (s : State) (c : Cause) : (s.raiseRecord c).proof = s.proof := by
  unfold State.raiseRecord
  have h (x : State) (l : List Stage) : (l.foldl (State.reportLatch c) x).proof = x.proof :=
    State.reportLatches_proof c l x
  split <;> split <;> simp [h, State.setLatches_proof]

@[simp] theorem State.reraise_pending (l : List Cause) (s : State) : (l.foldl State.raiseRecord s).pending = s.pending := by
  induction l generalizing s with
  | nil => rfl
  | cons c l ih => rw [List.foldl_cons, ih]; simp
@[simp] theorem State.reraiseLimits_pending (s : State) : s.reraiseLimits.pending = s.pending := by simp [State.reraiseLimits]
@[simp] theorem State.reraise_pins (l : List Cause) (s : State) : (l.foldl State.raiseRecord s).pins = s.pins := by
  induction l generalizing s with
  | nil => rfl
  | cons c l ih => rw [List.foldl_cons, ih]; simp
@[simp] theorem State.reraiseLimits_pins (s : State) : s.reraiseLimits.pins = s.pins := by simp [State.reraiseLimits]
@[simp] theorem State.reraise_clock (l : List Cause) (s : State) : (l.foldl State.raiseRecord s).clock = s.clock := by
  induction l generalizing s with
  | nil => rfl
  | cons c l ih => rw [List.foldl_cons, ih]; simp
@[simp] theorem State.reraiseLimits_clock (s : State) : s.reraiseLimits.clock = s.clock := by simp [State.reraiseLimits]
@[simp] theorem State.reraise_table (l : List Cause) (s : State) : (l.foldl State.raiseRecord s).table = s.table := by
  induction l generalizing s with
  | nil => rfl
  | cons c l ih => rw [List.foldl_cons, ih]; simp
@[simp] theorem State.reraiseLimits_table (s : State) : s.reraiseLimits.table = s.table := by simp [State.reraiseLimits]
@[simp] theorem State.reraise_drums (l : List Cause) (s : State) : (l.foldl State.raiseRecord s).drums = s.drums := by
  induction l generalizing s with
  | nil => rfl
  | cons c l ih => rw [List.foldl_cons, ih]; simp
@[simp] theorem State.reraiseLimits_drums (s : State) : s.reraiseLimits.drums = s.drums := by simp [State.reraiseLimits]
@[simp] theorem State.reraise_inputs (l : List Cause) (s : State) : (l.foldl State.raiseRecord s).inputs = s.inputs := by
  induction l generalizing s with
  | nil => rfl
  | cons c l ih => rw [List.foldl_cons, ih]; simp
@[simp] theorem State.reraiseLimits_inputs (s : State) : s.reraiseLimits.inputs = s.inputs := by simp [State.reraiseLimits]
@[simp] theorem State.reraise_rope (l : List Cause) (s : State) : (l.foldl State.raiseRecord s).rope = s.rope := by
  induction l generalizing s with
  | nil => rfl
  | cons c l ih => rw [List.foldl_cons, ih]; simp
@[simp] theorem State.reraiseLimits_rope (s : State) : s.reraiseLimits.rope = s.rope := by simp [State.reraiseLimits]
@[simp] theorem State.reraise_depth (l : List Cause) (s : State) : (l.foldl State.raiseRecord s).depth = s.depth := by
  induction l generalizing s with
  | nil => rfl
  | cons c l ih => rw [List.foldl_cons, ih]; simp
@[simp] theorem State.reraiseLimits_depth (s : State) : s.reraiseLimits.depth = s.depth := by simp [State.reraiseLimits]
@[simp] theorem State.reraise_env (l : List Cause) (s : State) : (l.foldl State.raiseRecord s).env = s.env := by
  induction l generalizing s with
  | nil => rfl
  | cons c l ih => rw [List.foldl_cons, ih]; simp
@[simp] theorem State.reraiseLimits_env (s : State) : s.reraiseLimits.env = s.env := by simp [State.reraiseLimits]
@[simp] theorem State.reraise_wind (l : List Cause) (s : State) : (l.foldl State.raiseRecord s).wind = s.wind := by
  induction l generalizing s with
  | nil => rfl
  | cons c l ih => rw [List.foldl_cons, ih]; simp
@[simp] theorem State.reraiseLimits_wind (s : State) : s.reraiseLimits.wind = s.wind := by simp [State.reraiseLimits]
@[simp] theorem State.reraise_proof (l : List Cause) (s : State) : (l.foldl State.raiseRecord s).proof = s.proof := by
  induction l generalizing s with
  | nil => rfl
  | cons c l ih => rw [List.foldl_cons, ih]; simp
@[simp] theorem State.reraiseLimits_proof (s : State) : s.reraiseLimits.proof = s.proof := by simp [State.reraiseLimits]

/-! ## Other blocks -/

@[simp] theorem State.requestPark_pending (s : State) : (s.requestPark).pending = s.pending := by unfold State.requestPark; split <;> rfl
@[simp] theorem State.requestPark_pins (s : State) : (s.requestPark).pins = s.pins := by unfold State.requestPark; split <;> rfl
@[simp] theorem State.requestPark_clock (s : State) : (s.requestPark).clock = s.clock := by unfold State.requestPark; split <;> rfl
@[simp] theorem State.requestPark_link (s : State) : (s.requestPark).link = s.link := by unfold State.requestPark; split <;> rfl
@[simp] theorem State.requestPark_drums (s : State) : (s.requestPark).drums = s.drums := by unfold State.requestPark; split <;> rfl
@[simp] theorem State.requestPark_inputs (s : State) : (s.requestPark).inputs = s.inputs := by unfold State.requestPark; split <;> rfl
@[simp] theorem State.requestPark_rope (s : State) : (s.requestPark).rope = s.rope := by unfold State.requestPark; split <;> rfl
@[simp] theorem State.requestPark_depth (s : State) : (s.requestPark).depth = s.depth := by unfold State.requestPark; split <;> rfl
@[simp] theorem State.requestPark_env (s : State) : (s.requestPark).env = s.env := by unfold State.requestPark; split <;> rfl
@[simp] theorem State.requestPark_wind (s : State) : (s.requestPark).wind = s.wind := by unfold State.requestPark; split <;> rfl
@[simp] theorem State.requestPark_trip (s : State) : (s.requestPark).trip = s.trip := by unfold State.requestPark; split <;> rfl
@[simp] theorem State.requestPark_proof (s : State) : (s.requestPark).proof = s.proof := by unfold State.requestPark; split <;> rfl

@[simp] theorem State.markRest_pending (s : State) : (s.markRest).pending = s.pending := rfl
@[simp] theorem State.markRest_pins (s : State) : (s.markRest).pins = s.pins := rfl
@[simp] theorem State.markRest_clock (s : State) : (s.markRest).clock = s.clock := rfl
@[simp] theorem State.markRest_link (s : State) : (s.markRest).link = s.link := rfl
@[simp] theorem State.markRest_table (s : State) : (s.markRest).table = s.table := rfl
@[simp] theorem State.markRest_inputs (s : State) : (s.markRest).inputs = s.inputs := rfl
@[simp] theorem State.markRest_rope (s : State) : (s.markRest).rope = s.rope := rfl
@[simp] theorem State.markRest_depth (s : State) : (s.markRest).depth = s.depth := rfl
@[simp] theorem State.markRest_env (s : State) : (s.markRest).env = s.env := rfl
@[simp] theorem State.markRest_wind (s : State) : (s.markRest).wind = s.wind := rfl
@[simp] theorem State.markRest_trip (s : State) : (s.markRest).trip = s.trip := rfl
@[simp] theorem State.markRest_proof (s : State) : (s.markRest).proof = s.proof := rfl

@[simp] theorem State.markHold_pending (s : State) : (s.markHold).pending = s.pending := by unfold State.markHold; split <;> rfl
@[simp] theorem State.markHold_pins (s : State) : (s.markHold).pins = s.pins := by unfold State.markHold; split <;> rfl
@[simp] theorem State.markHold_clock (s : State) : (s.markHold).clock = s.clock := by unfold State.markHold; split <;> rfl
@[simp] theorem State.markHold_link (s : State) : (s.markHold).link = s.link := by unfold State.markHold; split <;> rfl
@[simp] theorem State.markHold_table (s : State) : (s.markHold).table = s.table := by unfold State.markHold; split <;> rfl
@[simp] theorem State.markHold_inputs (s : State) : (s.markHold).inputs = s.inputs := by unfold State.markHold; split <;> rfl
@[simp] theorem State.markHold_rope (s : State) : (s.markHold).rope = s.rope := by unfold State.markHold; split <;> rfl
@[simp] theorem State.markHold_depth (s : State) : (s.markHold).depth = s.depth := by unfold State.markHold; split <;> rfl
@[simp] theorem State.markHold_env (s : State) : (s.markHold).env = s.env := by unfold State.markHold; split <;> rfl
@[simp] theorem State.markHold_wind (s : State) : (s.markHold).wind = s.wind := by unfold State.markHold; split <;> rfl
@[simp] theorem State.markHold_trip (s : State) : (s.markHold).trip = s.trip := by unfold State.markHold; split <;> rfl
@[simp] theorem State.markHold_proof (s : State) : (s.markHold).proof = s.proof := by unfold State.markHold; split <;> rfl

@[simp] theorem State.startDegrade_pending (s : State) (v : Int) : (s.startDegrade v).pending = s.pending := by unfold State.startDegrade; split <;> rfl
@[simp] theorem State.startDegrade_pins (s : State) (v : Int) : (s.startDegrade v).pins = s.pins := by unfold State.startDegrade; split <;> rfl
@[simp] theorem State.startDegrade_clock (s : State) (v : Int) : (s.startDegrade v).clock = s.clock := by unfold State.startDegrade; split <;> rfl
@[simp] theorem State.startDegrade_link (s : State) (v : Int) : (s.startDegrade v).link = s.link := by unfold State.startDegrade; split <;> rfl
@[simp] theorem State.startDegrade_table (s : State) (v : Int) : (s.startDegrade v).table = s.table := by unfold State.startDegrade; split <;> rfl
@[simp] theorem State.startDegrade_drums (s : State) (v : Int) : (s.startDegrade v).drums = s.drums := by unfold State.startDegrade; split <;> rfl
@[simp] theorem State.startDegrade_inputs (s : State) (v : Int) : (s.startDegrade v).inputs = s.inputs := by unfold State.startDegrade; split <;> rfl
@[simp] theorem State.startDegrade_rope (s : State) (v : Int) : (s.startDegrade v).rope = s.rope := by unfold State.startDegrade; split <;> rfl
@[simp] theorem State.startDegrade_depth (s : State) (v : Int) : (s.startDegrade v).depth = s.depth := by unfold State.startDegrade; split <;> rfl
@[simp] theorem State.startDegrade_wind (s : State) (v : Int) : (s.startDegrade v).wind = s.wind := by unfold State.startDegrade; split <;> rfl
@[simp] theorem State.startDegrade_trip (s : State) (v : Int) : (s.startDegrade v).trip = s.trip := by unfold State.startDegrade; split <;> rfl
@[simp] theorem State.startDegrade_proof (s : State) (v : Int) : (s.startDegrade v).proof = s.proof := by unfold State.startDegrade; split <;> rfl

@[simp] theorem State.countSide_pending (s : State) (d : Side) (f : SideCounts → SideCounts) : (s.countSide d f).pending = s.pending := by unfold State.countSide; split <;> rfl
@[simp] theorem State.countSide_pins (s : State) (d : Side) (f : SideCounts → SideCounts) : (s.countSide d f).pins = s.pins := by unfold State.countSide; split <;> rfl
@[simp] theorem State.countSide_clock (s : State) (d : Side) (f : SideCounts → SideCounts) : (s.countSide d f).clock = s.clock := by unfold State.countSide; split <;> rfl
@[simp] theorem State.countSide_link (s : State) (d : Side) (f : SideCounts → SideCounts) : (s.countSide d f).link = s.link := by unfold State.countSide; split <;> rfl
@[simp] theorem State.countSide_table (s : State) (d : Side) (f : SideCounts → SideCounts) : (s.countSide d f).table = s.table := by unfold State.countSide; split <;> rfl
@[simp] theorem State.countSide_drums (s : State) (d : Side) (f : SideCounts → SideCounts) : (s.countSide d f).drums = s.drums := by unfold State.countSide; split <;> rfl
@[simp] theorem State.countSide_inputs (s : State) (d : Side) (f : SideCounts → SideCounts) : (s.countSide d f).inputs = s.inputs := by unfold State.countSide; split <;> rfl
@[simp] theorem State.countSide_rope (s : State) (d : Side) (f : SideCounts → SideCounts) : (s.countSide d f).rope = s.rope := by unfold State.countSide; split <;> rfl
@[simp] theorem State.countSide_depth (s : State) (d : Side) (f : SideCounts → SideCounts) : (s.countSide d f).depth = s.depth := by unfold State.countSide; split <;> rfl
@[simp] theorem State.countSide_env (s : State) (d : Side) (f : SideCounts → SideCounts) : (s.countSide d f).env = s.env := by unfold State.countSide; split <;> rfl
@[simp] theorem State.countSide_trip (s : State) (d : Side) (f : SideCounts → SideCounts) : (s.countSide d f).trip = s.trip := by unfold State.countSide; split <;> rfl
@[simp] theorem State.countSide_proof (s : State) (d : Side) (f : SideCounts → SideCounts) : (s.countSide d f).proof = s.proof := by unfold State.countSide; split <;> rfl

@[simp] theorem State.endRecovery_pending (s : State) : (s.endRecovery).pending = s.pending := by
  unfold State.endRecovery; split <;> simp
@[simp] theorem State.endRecovery_pins (s : State) : (s.endRecovery).pins = s.pins := by
  unfold State.endRecovery; split <;> simp
@[simp] theorem State.endRecovery_clock (s : State) : (s.endRecovery).clock = s.clock := by
  unfold State.endRecovery; split <;> simp
@[simp] theorem State.endRecovery_table (s : State) : (s.endRecovery).table = s.table := by
  unfold State.endRecovery; split <;> simp
@[simp] theorem State.endRecovery_drums (s : State) : (s.endRecovery).drums = s.drums := by
  unfold State.endRecovery; split <;> simp
@[simp] theorem State.endRecovery_inputs (s : State) : (s.endRecovery).inputs = s.inputs := by
  unfold State.endRecovery; split <;> simp
@[simp] theorem State.endRecovery_rope (s : State) : (s.endRecovery).rope = s.rope := by
  unfold State.endRecovery; split <;> simp
@[simp] theorem State.endRecovery_depth (s : State) : (s.endRecovery).depth = s.depth := by
  unfold State.endRecovery; split <;> simp
@[simp] theorem State.endRecovery_env (s : State) : (s.endRecovery).env = s.env := by
  unfold State.endRecovery; split <;> simp
@[simp] theorem State.endRecovery_proof (s : State) : (s.endRecovery).proof = s.proof := by
  unfold State.endRecovery; split <;> simp

@[simp] theorem State.judgeRecoveryEnd_pending (s : State) : (s.judgeRecoveryEnd).pending = s.pending := by
  unfold State.judgeRecoveryEnd
  split
  · rfl
  · split <;> simp
@[simp] theorem State.judgeRecoveryEnd_pins (s : State) : (s.judgeRecoveryEnd).pins = s.pins := by
  unfold State.judgeRecoveryEnd
  split
  · rfl
  · split <;> simp
@[simp] theorem State.judgeRecoveryEnd_clock (s : State) : (s.judgeRecoveryEnd).clock = s.clock := by
  unfold State.judgeRecoveryEnd
  split
  · rfl
  · split <;> simp
@[simp] theorem State.judgeRecoveryEnd_table (s : State) : (s.judgeRecoveryEnd).table = s.table := by
  unfold State.judgeRecoveryEnd
  split
  · rfl
  · split <;> simp
@[simp] theorem State.judgeRecoveryEnd_drums (s : State) : (s.judgeRecoveryEnd).drums = s.drums := by
  unfold State.judgeRecoveryEnd
  split
  · rfl
  · split <;> simp
@[simp] theorem State.judgeRecoveryEnd_inputs (s : State) : (s.judgeRecoveryEnd).inputs = s.inputs := by
  unfold State.judgeRecoveryEnd
  split
  · rfl
  · split <;> simp
@[simp] theorem State.judgeRecoveryEnd_rope (s : State) : (s.judgeRecoveryEnd).rope = s.rope := by
  unfold State.judgeRecoveryEnd
  split
  · rfl
  · split <;> simp
@[simp] theorem State.judgeRecoveryEnd_depth (s : State) : (s.judgeRecoveryEnd).depth = s.depth := by
  unfold State.judgeRecoveryEnd
  split
  · rfl
  · split <;> simp
@[simp] theorem State.judgeRecoveryEnd_env (s : State) : (s.judgeRecoveryEnd).env = s.env := by
  unfold State.judgeRecoveryEnd
  split
  · rfl
  · split <;> simp
@[simp] theorem State.judgeRecoveryEnd_proof (s : State) : (s.judgeRecoveryEnd).proof = s.proof := by
  unfold State.judgeRecoveryEnd
  split
  · rfl
  · split <;> simp

end Sys2Proof.Machine
end

