-- ==== Sys2Proof/Laws/Port.lean ====
section
/-! SUPPORT. The link port as a machine of its own: what creating reports, placing a reply and the transmitter's choice
make of it, and how the claims about what is on its way to the host follow (R167, R168, R173). -/

namespace Sys2Proof.Machine

/-- A drum sample is the work of the proof unit on what the wind controller leaves, with the transmitter's choice after
it. -/
theorem exec_drumSample (s : State) : exec .drumSample s = .next s.atProof.sampleProof.transmit := rfl

/-! ## Creating reports -/

/-- The port after one more report, dropped at a full queue. -/
def LinkPort.push (p : LinkPort) (r : Report) : LinkPort :=
  if p.reports.length < Config.maxReports then { p with reports := p.reports ++ [r] } else { p with lost := true }

/-- The port after several more reports. -/
def LinkPort.pushAll (p : LinkPort) (rs : List Report) : LinkPort := rs.foldl LinkPort.push p

@[simp] theorem LinkPort.pushAll_nil (p : LinkPort) : p.pushAll [] = p := rfl
@[simp] theorem LinkPort.pushAll_cons (p : LinkPort) (r : Report) (rs : List Report) :
    p.pushAll (r :: rs) = (p.push r).pushAll rs := rfl
theorem LinkPort.pushAll_append (p : LinkPort) (rs qs : List Report) :
    p.pushAll (rs ++ qs) = (p.pushAll rs).pushAll qs := List.foldl_append

theorem State.report_link (s : State) (b : ReportBody) : (s.report b).link = s.link.push (s.stamped b) := by
  unfold State.report LinkPort.push State.stamped; split <;> rfl

theorem LinkPort.push_eq (p : LinkPort) (r : Report) :
    p.push r = { p with reports := (p.push r).reports, lost := (p.push r).lost } := by
  unfold LinkPort.push; split <;> rfl

theorem LinkPort.pushAll_eq (rs : List Report) (p : LinkPort) :
    p.pushAll rs = { p with reports := (p.pushAll rs).reports, lost := (p.pushAll rs).lost } := by
  induction rs generalizing p with
  | nil => rfl
  | cons r rs ih =>
    rw [LinkPort.pushAll_cons, ih (p.push r)]
    unfold LinkPort.push; split <;> rfl

section
variable (rs : List Report) (p : LinkPort)
@[simp] theorem LinkPort.pushAll_rx : (p.pushAll rs).rx = p.rx := by rw [LinkPort.pushAll_eq]
@[simp] theorem LinkPort.pushAll_load : (p.pushAll rs).load = p.load := by rw [LinkPort.pushAll_eq]
@[simp] theorem LinkPort.pushAll_silence : (p.pushAll rs).silence = p.silence := by rw [LinkPort.pushAll_eq]
@[simp] theorem LinkPort.pushAll_status : (p.pushAll rs).status = p.status := by rw [LinkPort.pushAll_eq]
@[simp] theorem LinkPort.pushAll_quiet : (p.pushAll rs).quiet = p.quiet := by rw [LinkPort.pushAll_eq]
@[simp] theorem LinkPort.pushAll_resetKind : (p.pushAll rs).resetKind = p.resetKind := by rw [LinkPort.pushAll_eq]
@[simp] theorem LinkPort.pushAll_restartDue : (p.pushAll rs).restartDue = p.restartDue := by rw [LinkPort.pushAll_eq]
@[simp] theorem LinkPort.pushAll_replies : (p.pushAll rs).replies = p.replies := by rw [LinkPort.pushAll_eq]
@[simp] theorem LinkPort.pushAll_tx : (p.pushAll rs).tx = p.tx := by rw [LinkPort.pushAll_eq]
end

/-- The queue after several reports: those that find room, in their order. -/
theorem LinkPort.pushAll_reports (rs : List Report) (p : LinkPort) :
    (p.pushAll rs).reports = p.reports ++ rs.take (Config.maxReports - p.reports.length) := by
  induction rs generalizing p with
  | nil => simp
  | cons r rs ih =>
    rw [LinkPort.pushAll_cons, ih]
    unfold LinkPort.push
    split
    · rename_i h
      obtain ⟨n, hn⟩ : ∃ n, Config.maxReports - p.reports.length = n + 1 := ⟨_, (Nat.succ_pred_eq_of_pos (by omega)).symm⟩
      have : Config.maxReports - (p.reports ++ [r]).length = n := by simp; omega
      simp only [this, hn, List.take_succ_cons]
      simp
    · rename_i h
      have : Config.maxReports - p.reports.length = 0 := by omega
      simp [this]

/-- The reports-lost flag after several reports: set by the first that finds no room. -/
theorem LinkPort.pushAll_lost (rs : List Report) (p : LinkPort) :
    (p.pushAll rs).lost =
      (p.lost || decide (0 < rs.length ∧ Config.maxReports < p.reports.length + rs.length)) := by
  induction rs generalizing p with
  | nil => simp
  | cons r rs ih =>
    rw [LinkPort.pushAll_cons, ih]
    unfold LinkPort.push
    split
    · rename_i h
      congr 1
      simp only [List.length_append, List.length_cons, List.length_nil, decide_eq_decide]
      omega
    · rename_i h
      have : Config.maxReports < p.reports.length + (rs.length + 1) := by omega
      simp [this]

/-! ## The transmitter -/

/-- The port after the transmitter's choice (R168). -/
def LinkPort.serve (p : LinkPort) : LinkPort :=
  match p.tx, p.quiet, p.replies, p.reports with
  | none, none, r :: rest, _ => { p with tx := some (.reply r), replies := rest }
  | none, none, [], r :: rest => { p with tx := some (.report r), reports := rest }
  | _, _, _, _ => p

theorem State.transmit_link (s : State) : s.transmit.link = s.link.serve := by
  unfold State.transmit LinkPort.serve; split <;> simp_all

theorem LinkPort.serve_eq (p : LinkPort) :
    p.serve = { p with tx := p.serve.tx, replies := p.serve.replies, reports := p.serve.reports } := by
  unfold LinkPort.serve; split <;> rfl

section
variable (p : LinkPort)
@[simp] theorem LinkPort.serve_rx : p.serve.rx = p.rx := by rw [LinkPort.serve_eq]
@[simp] theorem LinkPort.serve_load : p.serve.load = p.load := by rw [LinkPort.serve_eq]
@[simp] theorem LinkPort.serve_silence : p.serve.silence = p.silence := by rw [LinkPort.serve_eq]
@[simp] theorem LinkPort.serve_status : p.serve.status = p.status := by rw [LinkPort.serve_eq]
@[simp] theorem LinkPort.serve_quiet : p.serve.quiet = p.quiet := by rw [LinkPort.serve_eq]
@[simp] theorem LinkPort.serve_resetKind : p.serve.resetKind = p.resetKind := by rw [LinkPort.serve_eq]
@[simp] theorem LinkPort.serve_restartDue : p.serve.restartDue = p.restartDue := by rw [LinkPort.serve_eq]
@[simp] theorem LinkPort.serve_lost : p.serve.lost = p.lost := by rw [LinkPort.serve_eq]
end

/-- The transmitter's choice loses and reorders nothing that is on its way. -/
theorem LinkPort.serve_out (p : LinkPort) :
    Frame.replies p.serve.tx ++ p.serve.replies = Frame.replies p.tx ++ p.replies ∧
      Frame.reports p.serve.tx ++ p.serve.reports = Frame.reports p.tx ++ p.reports := by
  unfold LinkPort.serve; split <;> simp_all [Frame.replies, Frame.reports]

@[simp] theorem State.transmit_repliesOut (s : State) : s.transmit.repliesOut = s.repliesOut := by
  unfold State.repliesOut; rw [State.transmit_link]; exact s.link.serve_out.1
@[simp] theorem State.transmit_reportsOut (s : State) : s.transmit.reportsOut = s.reportsOut := by
  unfold State.reportsOut; rw [State.transmit_link]; exact s.link.serve_out.2

/-- The transmitter's choice shortens no list beyond what it takes up. -/
theorem LinkPort.serve_lengths (p : LinkPort) :
    p.serve.replies.length ≤ p.replies.length ∧ p.serve.reports.length ≤ p.reports.length := by
  unfold LinkPort.serve; split <;> simp_all

/-- After its choice the transmitter is idle outside the quiet period only when nothing waits. -/
theorem LinkPort.serve_serves (p : LinkPort) (hq : p.serve.quiet = none) (ht : p.serve.tx = none) :
    p.serve.replies = [] ∧ p.serve.reports = [] := by
  rw [LinkPort.serve_quiet] at hq
  unfold LinkPort.serve at ht ⊢
  split at ht <;> simp_all
  rename_i h1 h2
  constructor
  · cases h : p.replies with
    | nil => rfl
    | cons r rest => exact absurd h (h1 r rest)
  · cases h : p.replies with
    | cons r rest => exact absurd h (h1 r rest)
    | nil =>
      cases h' : p.reports with
      | nil => rfl
      | cons r rest => exact absurd h' (h2 r rest h)

/-! ## Reports created, as the claims say it -/

/-- A state whose port is that of `s` with some reports pushed has reported them. -/
theorem State.reported_of_link {s t : State} {bodies : List ReportBody}
    (h : t.link = s.link.pushAll (bodies.map s.stamped)) : s.Reported t bodies := by
  unfold State.Reported State.reportsOut
  rw [h]
  refine ⟨?_, ?_⟩
  · rw [LinkPort.pushAll_tx, LinkPort.pushAll_reports, List.append_assoc, List.map_take]
  · rw [LinkPort.pushAll_lost, List.length_map]

theorem State.Reported.transmit {s t : State} {bodies : List ReportBody} (h : s.Reported t bodies) :
    s.Reported t.transmit bodies := by
  unfold State.Reported at *
  rw [State.transmit_reportsOut, State.transmit_link, LinkPort.serve_lost]
  exact h

/-- An event whose port is that of `s` with some reports pushed, and which ends with the transmitter's choice. -/
theorem State.told_of_link {s t : State} {bodies : List ReportBody}
    (h : t.link = s.link.pushAll (bodies.map s.stamped)) : s.Told t.transmit bodies := by
  refine ⟨(State.reported_of_link h).transmit, ?_, ?_⟩
  · rw [State.transmit_repliesOut]; unfold State.repliesOut; rw [h]; simp
  · rw [State.transmit_link]; simp [h]

theorem State.told_of_link' {s t : State} {bodies : List ReportBody}
    (h : t.link = s.link.pushAll (bodies.map s.stamped)) : s.Told t bodies := by
  refine ⟨State.reported_of_link h, ?_, ?_⟩
  · unfold State.repliesOut; rw [h]; simp
  · simp [h]

end Sys2Proof.Machine
end

