-- ==== Sys2Proof/Laws/Arrival.lean ====
section
/-! SUPPORT. The arrival of a request at the link port (R163, R164): what an open load and the port become before the
owner sees the request, and what the placing of its reply leaves. -/

namespace Sys2Proof.Machine

/-! ## The state its owner is handed -/

/-- The port at the arrival of a request that abandons an open load. -/
theorem State.frameArrives_link (s : State) (n : Nat) (h : keepsLoad n = false) :
    (s.frameArrives n).link =
      LinkPort.pushAll { s.link with
        rx := .hunting, silence := some Config.silenceMs, status := .live, load := none }
        (s.abandonReports.map s.stamped) := by
  unfold State.frameArrives
  rw [h]
  cases hl : s.link.load with
  | none => simp [State.frameValid, State.abandonLoad, State.abandonReports, hl]
  | some l =>
    simp only [State.abandonLoad, State.abandonReports, State.frameValid, hl, State.setLink_link, Bool.false_eq_true,
      if_false, State.report_link, List.map_cons, List.map_nil, LinkPort.pushAll_cons, LinkPort.pushAll_nil]
    rfl

/-- The table block at that arrival. -/
theorem State.frameArrives_table (s : State) (n : Nat) (h : keepsLoad n = false) :
    (s.frameArrives n).table = { s.table with staged := s.stagedLeft } := by
  unfold State.frameArrives
  rw [h]
  cases hl : s.link.load with
  | none => simp [State.frameValid, State.abandonLoad, State.stagedLeft, hl]
  | some l => simp [State.frameValid, State.abandonLoad, State.stagedLeft, State.closeLoad, hl]

/-- Every other block at that arrival. -/
theorem State.frameArrives_eq (s : State) (n : Nat) (h : keepsLoad n = false) :
    s.frameArrives n =
      { s with link := (s.frameArrives n).link, table := { s.table with staged := s.stagedLeft } } := by
  rw [← State.frameArrives_table s n h]
  unfold State.frameArrives
  rw [h]
  cases hl : s.link.load with
  | none => simp [State.frameValid, State.abandonLoad, hl, State.setLink]
  | some l =>
    simp only [State.frameValid, State.abandonLoad, hl, State.setLink, State.report, State.closeLoad, State.setTable,
      Bool.false_eq_true, if_false]
    split <;> rfl

/-- The frame of a request reaches its owner. -/
theorem State.request_owner {s : State} {code tag : Byte} {body : List Byte} {n : Nat} {owner : State → Owned}
    (hr : s.ready) (hn : body.length = n) (hk : keepsLoad code.toNat = false) :
    s.request code tag n body owner = (owner (s.frameArrives code.toNat)).finish code tag := by
  obtain ⟨⟨hq, hl⟩, hd⟩ := hr
  have h1 : s.receives = true := by simp [State.receives, hq, hl]
  have h2 : (s.frameArrives code.toNat).link.restartDue = false := by
    rw [State.frameArrives_link s _ hk]; simpa using hd
  simp [State.request, h1, hn, h2]

/-! ## The placing of the reply -/

@[simp] theorem Owned.finish_link (o : Owned) (code tag : Byte) : (o.finish code tag).link =
    LinkPort.serve { o.state.link with replies := o.state.link.replies ++ [⟨code, tag, o.result, o.body⟩] } := by
  unfold Owned.finish; rw [State.transmit_link]; rfl

/-- The placing of a reply touches the link port alone. -/
theorem Owned.finish_eq (o : Owned) (code tag : Byte) :
    o.finish code tag = { o.state with link := (o.finish code tag).link } := by
  unfold Owned.finish State.transmit State.answer State.setLink; split <;> rfl

/-- An owner that creates some reports and changes nothing else of the port: the request is served with them. -/
theorem Owned.served {s : State} {o : Owned} {code tag : Byte} {bodies : List ReportBody}
    (hk : keepsLoad code.toNat = false)
    (h : o.state.link = (s.frameArrives code.toNat).link.pushAll (bodies.map s.stamped)) :
    s.Served (o.finish code tag) ⟨code, tag, o.result, o.body⟩ bodies := by
  rw [State.frameArrives_link s _ hk, ← LinkPort.pushAll_append, ← List.map_append] at h
  refine ⟨⟨?_, ?_⟩, ?_⟩
  · unfold State.repliesOut
    rw [Owned.finish_link, (LinkPort.serve_out _).1, h]
    simp
  · simp [h]
  · refine ⟨?_, ?_⟩
    · unfold State.reportsOut
      rw [Owned.finish_link, (LinkPort.serve_out _).2, h]
      simp [LinkPort.pushAll_reports, List.map_take]
    · rw [Owned.finish_link]
      simp [h, LinkPort.pushAll_lost]

/-- Such an owner leaves the load closed and the restart that is due as it was. -/
theorem Owned.portKept {s : State} {o : Owned} {code tag : Byte} {bodies : List ReportBody}
    (hk : keepsLoad code.toNat = false)
    (h : o.state.link = (s.frameArrives code.toNat).link.pushAll (bodies.map s.stamped)) :
    s.PortKept (o.finish code tag) := by
  rw [State.frameArrives_link s _ hk] at h
  constructor <;> simp [h]

/-- An owner that answers and leaves the state it was handed as it is. -/
theorem Owned.onlyReplied {s : State} {o : Owned} {code tag : Byte} (hk : keepsLoad code.toNat = false)
    (h : o.state = s.frameArrives code.toNat) :
    s.OnlyReplied (o.finish code tag) ⟨code, tag, o.result, o.body⟩ := by
  have hl : o.state.link = (s.frameArrives code.toNat).link.pushAll ([].map s.stamped) := by rw [h]; rfl
  refine ⟨Owned.served hk hl, Owned.portKept hk hl, ?_⟩
  rw [Owned.finish_eq, h]
  conv => lhs; rw [State.frameArrives_eq s _ hk]


/-! ## Requests that leave an open load -/

/-- The state at the arrival of POLL, TABLE-RECORD or TABLE-CLOSE. -/
theorem State.frameArrives_kept (s : State) (n : Nat) (h : keepsLoad n = true) :
    s.frameArrives n =
      { s with link := { s.link with rx := .hunting, silence := some Config.silenceMs, status := .live } } := by
  simp [State.frameArrives, h, State.frameValid, State.setLink]

/-- An owner that creates some reports and changes nothing else of what is on its way: the request is answered. -/
theorem Owned.answered {s : State} {o : Owned} {code tag : Byte} {bodies : List ReportBody} {p : LinkPort}
    (hk : keepsLoad code.toNat = true) (h : o.state.link = p.pushAll (bodies.map s.stamped))
    (hp : p = { (s.frameArrives code.toNat).link with load := p.load, restartDue := p.restartDue }) :
    s.Answered (o.finish code tag) ⟨code, tag, o.result, o.body⟩ ∧ s.Reported (o.finish code tag) bodies := by
  rw [State.frameArrives_kept s _ hk] at hp
  refine ⟨⟨?_, ?_⟩, ?_, ?_⟩
  · unfold State.repliesOut
    rw [Owned.finish_link, (LinkPort.serve_out _).1, h, hp]
    simp
  · rw [hp] at h
    simp [h]
  · unfold State.reportsOut
    rw [Owned.finish_link, (LinkPort.serve_out _).2, h, hp]
    simp [LinkPort.pushAll_reports, List.map_take]
  · rw [Owned.finish_link]
    rw [hp] at h
    simp [h, LinkPort.pushAll_lost]

/-- An owner that answers and leaves the state it was handed as it is, with an open load as it stood. -/
theorem Owned.repliedWithLoad {s : State} {o : Owned} {code tag : Byte} (hk : keepsLoad code.toNat = true)
    (h : o.state = s.frameArrives code.toNat) :
    s.RepliedWithLoad (o.finish code tag) ⟨code, tag, o.result, o.body⟩ := by
  have hl : o.state.link = (s.frameArrives code.toNat).link.pushAll ([].map s.stamped) := by rw [h]; rfl
  obtain ⟨h1, h2⟩ := Owned.answered (tag := tag) hk hl rfl
  refine ⟨h1, h2, ?_, ?_, ?_⟩
  · simp [h, State.frameArrives_kept s _ hk]
  · simp [h, State.frameArrives_kept s _ hk]
  · rw [Owned.finish_eq, h, State.frameArrives_kept s _ hk]

/-! ## The table of requests (R165) -/

/-- A request of a fixed length is handed to one owner. -/
theorem exec_requestOf {code : Byte} {n : Nat} (h : fixedLength code.toNat = some n) (tag : Byte) (body : List Byte)
    (s : State) :
    ∃ owner : State → Owned, exec (requestOf code tag body) s = .next (s.request code tag n body owner) := by
  have lit (k : Nat) (hk : k < 256) (e : code.toNat = k) : code = BitVec.ofNat 8 k := by
    apply BitVec.eq_of_toNat_eq; simp [e, Nat.mod_eq_of_lt hk]
  unfold fixedLength at h
  split at h <;> rename_i e
  all_goals first | (cases h; have hc := lit _ (by decide) e; subst hc; exact ⟨_, rfl⟩) | cases h

/-- A code carries a fixed length, is that of TABLE-RECORD, or names no request. -/
theorem requestOf_cases (code tag : Byte) (body : List Byte) :
    (∃ n, fixedLength code.toNat = some n) ∨ (code = 9 ∧ requestOf code tag body = .tableRecord tag body) ∨
      (isRequestCode code = false ∧ requestOf code tag body = .unknownRequest code tag body) := by
  by_cases h : ∃ n, fixedLength code.toNat = some n
  · exact .inl h
  · refine .inr ?_
    by_cases h9 : code.toNat = 9
    · have : code = 9 := by apply BitVec.eq_of_toNat_eq; simpa using h9
      subst this; exact .inl ⟨rfl, rfl⟩
    · refine .inr ⟨?_, ?_⟩
      · simp only [isRequestCode, decide_eq_false_iff_not]
        intro hc
        apply h
        obtain ⟨h1, h2⟩ := hc
        generalize code.toNat = m at *
        have : m = 1 ∨ m = 2 ∨ m = 3 ∨ m = 4 ∨ m = 5 ∨ m = 6 ∨ m = 7 ∨ m = 8 ∨ m = 10 ∨ m = 11 ∨ m = 12 ∨ m = 13 ∨
            m = 14 ∨ m = 15 := by omega
        rcases this with h | h | h | h | h | h | h | h | h | h | h | h | h | h <;> subst h <;> exact ⟨_, rfl⟩
      · unfold requestOf
        split <;> rename_i e <;> first | rfl | (exfalso; apply h; rw [e]; exact ⟨_, rfl⟩) | (exfalso; omega)

/-- A listening port receives. -/
theorem receives_of_listening {s : State} (h : s.listening) : s.receives = true := by
  simp [State.receives, h.1, h.2]

/-- A frame in the quiet period or at a full reply list is not received. -/
theorem receives_false {s : State} (h : s.link.quiet ≠ none ∨ Config.maxReplies ≤ s.link.replies.length) :
    s.receives = false := by
  unfold State.receives
  rcases h with h | h
  · cases hq : s.link.quiet <;> simp_all
  · have : ¬ s.link.replies.length < Config.maxReplies := by omega
    simp [this]

end Sys2Proof.Machine
end

