-- ==== Sys2Proof/Laws/Flow.lean ====
section
/-! SUPPORT. What the work of the blocks never does, whatever the command: it answers no request of its own, touches
neither queue nor pins nor time stamp, clears no latch, opens no wind, counts no step, makes nothing PROVEN outside a
proof, and keeps the capacities and bounds of the claims. One lemma for each operation. -/

namespace Sys2Proof.Machine

/-- What creating reports may do to the link port. -/
structure LinkFlow (p q : LinkPort) : Prop where
  rx : q.rx = p.rx
  silence : q.silence = p.silence
  status : q.status = p.status
  quiet : q.quiet = p.quiet
  resetKind : q.resetKind = p.resetKind
  replies : q.replies = p.replies
  tx : q.tx = p.tx
  reports : p.reports.length ≤ Config.maxReports → q.reports.length ≤ Config.maxReports

theorem LinkFlow.rfl {p : LinkPort} : LinkFlow p p := ⟨.refl _, .refl _, .refl _, .refl _, .refl _, .refl _, .refl _, id⟩

theorem LinkFlow.of_eq {p q : LinkPort} (h : q = p) : LinkFlow p q := h ▸ .rfl

theorem LinkFlow.trans {p q r : LinkPort} (h : LinkFlow p q) (g : LinkFlow q r) : LinkFlow p r :=
  ⟨g.rx.trans h.rx, g.silence.trans h.silence, g.status.trans h.status, g.quiet.trans h.quiet,
    g.resetKind.trans h.resetKind, g.replies.trans h.replies, g.tx.trans h.tx, fun x => g.reports (h.reports x)⟩

theorem LinkFlow.push (p : LinkPort) (r : Report) : LinkFlow p (p.push r) := by
  unfold LinkPort.push
  split
  · exact ⟨.refl _, .refl _, .refl _, .refl _, .refl _, .refl _, .refl _, fun _ => by simp; omega⟩
  · exact ⟨.refl _, .refl _, .refl _, .refl _, .refl _, .refl _, .refl _, id⟩

/-- What the work of the blocks does to the wind controller, short of accepting a wind. -/
structure WindFlow (u v : WindUnit) : Prop where
  number : v.number = u.number
  closed : u.current = none → v.current = none
  history : u.history.length ≤ Config.maxHistory → v.history.length ≤ Config.maxHistory

theorem WindFlow.rfl {u : WindUnit} : WindFlow u u := ⟨.refl _, id, id⟩

theorem WindFlow.of_eq {u v : WindUnit} (h : v = u) : WindFlow u v := h ▸ .rfl

theorem WindFlow.trans {u v w : WindUnit} (h : WindFlow u v) (g : WindFlow v w) : WindFlow u w :=
  ⟨g.number.trans h.number, fun x => g.closed (h.closed x), fun x => g.history (h.history x)⟩

/-- Whether both counts of a drum stand as they stood. -/
def sameCounts (x y : Drum) : Prop := y.enc.a.count = x.enc.a.count ∧ y.enc.b.count = x.enc.b.count

/-- The work of the blocks from `s` to `t`, readiness apart. -/
structure FlowBase (s t : State) : Prop where
  pending : t.pending = s.pending
  pins : t.pins = s.pins
  clock : t.clock = s.clock
  inputs : t.inputs = s.inputs
  active : t.table.active = s.table.active
  link : LinkFlow s.link t.link
  wind : WindFlow s.wind t.wind
  latched : ∀ k, s.latched k = true → t.latched k = true
  counts : ∀ d, sameCounts (s.drums.drum.get d) (t.drums.drum.get d)
  drums : s.DrumsFit → t.DrumsFit
  tracks : s.TracksBounded → t.TracksBounded

/-- The work of the blocks from `s` to `t`. -/
structure Flow (s t : State) : Prop extends FlowBase s t where
  proven : t.proof.readiness = .proven → s.proof.readiness = .proven ∨ s.isProving = true
  unproving : s.isProving = false → t.isProving = false

theorem FlowBase.rfl {s : State} : FlowBase s s :=
  ⟨.refl _, .refl _, .refl _, .refl _, .refl _, .rfl, .rfl, fun _ h => h, fun _ => ⟨.refl _, .refl _⟩, id, id⟩

theorem Flow.rfl {s : State} : Flow s s := ⟨.rfl, .inl, id⟩

theorem FlowBase.trans {s t u : State} (h : FlowBase s t) (g : FlowBase t u) : FlowBase s u where
  pending := g.pending.trans h.pending
  pins := g.pins.trans h.pins
  clock := g.clock.trans h.clock
  inputs := g.inputs.trans h.inputs
  active := g.active.trans h.active
  link := h.link.trans g.link
  wind := h.wind.trans g.wind
  latched k x := g.latched k (h.latched k x)
  counts d := ⟨(g.counts d).1.trans (h.counts d).1, (g.counts d).2.trans (h.counts d).2⟩
  drums x := g.drums (h.drums x)
  tracks x := g.tracks (h.tracks x)

theorem Flow.trans {s t u : State} (h : Flow s t) (g : Flow t u) : Flow s u where
  toFlowBase := h.toFlowBase.trans g.toFlowBase
  proven x := by
    rcases g.proven x with y | y
    · exact h.proven y
    · refine .inr ?_
      cases e : s.isProving with
      | true => rfl
      | false => rw [h.unproving e] at y; cases y
  unproving x := g.unproving (h.unproving x)

/-- From a proof that runs, readiness may go anywhere. -/
theorem FlowBase.flow {s t : State} (h : FlowBase s t) (hp : s.isProving = true) : Flow s t :=
  ⟨h, fun _ => .inr hp, fun e => by rw [hp] at e; cases e⟩

/-- Tracks are bounded as long as the depth tracker and the active table are as they were. -/
theorem tracksBounded_congr {s t : State} (ha : t.table.active = s.table.active) (hd : t.depth = s.depth) :
    s.TracksBounded → t.TracksBounded := by
  simp only [State.TracksBounded, State.authority, ha, hd]
  exact id

/-- An operation that leaves the drums, the depth tracker and the readiness alone. -/
theorem Flow.of_blocks {s t : State} (pending : t.pending = s.pending) (pins : t.pins = s.pins)
    (clock : t.clock = s.clock) (inputs : t.inputs = s.inputs) (active : t.table.active = s.table.active)
    (link : LinkFlow s.link t.link) (wind : WindFlow s.wind t.wind)
    (latched : ∀ k, s.latched k = true → t.latched k = true) (proof : t.proof = s.proof) (drums : t.drums = s.drums)
    (depth : t.depth = s.depth) : Flow s t where
  pending := pending
  pins := pins
  clock := clock
  inputs := inputs
  active := active
  link := link
  wind := wind
  latched := latched
  proven h := .inl (proof ▸ h)
  unproving h := by simpa only [State.isProving, proof] using h
  counts d := by rw [drums]; exact ⟨.refl _, .refl _⟩
  drums h := by simpa only [State.DrumsFit, drums] using h
  tracks := tracksBounded_congr active depth

/-! ## Reports, replies and the transmitter -/

theorem flow_report (s : State) (b : ReportBody) : Flow s (s.report b) :=
  .of_blocks (by simp) (by simp) (by simp) (by simp) (by simp) (by rw [State.report_link]; exact .push _ _)
    (.of_eq (by simp)) (fun k h => by simpa [State.latched] using h) (by simp) (by simp) (by simp)

/-! ## The trip unit -/

/-- An operation that touches the trip unit alone and clears no latch. -/
theorem Flow.of_trip {s t : State} (h : t = s.setTrip t.trip) (latched : ∀ k, s.latched k = true → t.latched k = true) :
    Flow s t := by
  refine .of_blocks ?_ ?_ ?_ ?_ ?_ (.of_eq ?_) (.of_eq ?_) latched ?_ ?_ ?_ <;> rw [h] <;> rfl

theorem flow_setTrip (s : State) (x : TripUnit) (h : x.latch = s.trip.latch) : Flow s (s.setTrip x) :=
  .of_trip (Eq.refl _) fun k hk => by simpa only [State.latched, State.setTrip_trip, h] using hk

theorem flow_dropActive (s : State) (p : Cause → Bool) : Flow s (s.dropActive p) := flow_setTrip s _ (Eq.refl _)

theorem flow_setChannel (s : State) (k : Stage) (c : Chan) (x : OutChannel) : Flow s (s.setChannel k c x) :=
  flow_setTrip s _ (Eq.refl _)

theorem flow_compareChannel (s : State) (k : Stage) (c : Chan) : Flow s (s.compareChannel k c) := by
  unfold State.compareChannel
  split
  · exact .rfl
  · split
    · exact (flow_setChannel _ _ _ _).trans (flow_dropActive _ _)
    · split
      · exact flow_setChannel _ _ _ _
      · exact .rfl

theorem flow_command (s : State) (k : Stage) (c : Chan) (e : Bool) : Flow s (s.command k c e) := by
  unfold State.command
  split
  · exact .rfl
  · exact (flow_setChannel _ _ _ _).trans (flow_compareChannel _ _ _)

theorem flow_followLatch (s : State) (k : Stage) : Flow s (s.followLatch k) := by
  unfold State.followLatch
  split
  · exact .rfl
  · exact (flow_command _ _ _ _).trans (flow_command _ _ _ _)

theorem flow_setLatch (s : State) (k : Stage) (c : Cause) : Flow s (s.setLatch k (.latched c)) := by
  unfold State.setLatch
  refine Flow.trans (.of_trip (Eq.refl _) ?_) (flow_followLatch _ _)
  intro j hj
  cases k <;> cases j <;> simp_all [State.latched, Latch.isLatched]

theorem flow_addCause (s : State) (c : Cause) : Flow s (s.addCause c) := flow_setTrip s _ (Eq.refl _)

theorem flow_addActive (s : State) (c : Cause) : Flow s (s.addActive c) := by
  unfold State.addActive
  split
  · exact .rfl
  · exact flow_setTrip s _ (Eq.refl _)

theorem flow_offerCapture (s : State) (c : Cause) : Flow s (s.offerCapture c) := by
  unfold State.offerCapture
  split
  · exact flow_setTrip s _ (Eq.refl _)
  · split
    · exact flow_setTrip s _ (Eq.refl _)
    · exact .rfl

theorem flow_setAdvisory (s : State) (c : Cause) : Flow s (s.setAdvisory c) :=
  (((flow_addCause _ _).trans (flow_addActive _ _)).trans (flow_offerCapture _ _)).trans (flow_report _ _)

theorem flow_clearAdvisory (s : State) (c : Cause) : Flow s (s.clearAdvisory c) :=
  (flow_dropActive _ _).trans (flow_report _ _)

theorem flow_endLimit (s : State) (d : Side) : Flow s (s.endLimit d) := flow_dropActive _ _

/-- A chain of operations over a list. -/
theorem flow_foldl {α : Type} (f : State → α → State) (h : ∀ s a, Flow s (f s a)) (l : List α) (s : State) :
    Flow s (l.foldl f s) := by
  induction l generalizing s with
  | nil => exact .rfl
  | cons a l ih => exact (h s a).trans (ih _)

theorem flow_raiseRecord (s : State) (c : Cause) : Flow s (s.raiseRecord c) := by
  unfold State.raiseRecord
  have h2 : Flow s (if c.isCondition then (s.addCause c).addActive c else s.addCause c) := by
    split
    · exact (flow_addCause _ _).trans (flow_addActive _ _)
    · exact flow_addCause _ _
  have h4 := (h2.trans (flow_foldl (fun x k => x.setLatch k (.latched c)) (fun x k => flow_setLatch x k c)
    (s.newlyLatched c) _)).trans (flow_foldl (State.reportLatch c) (fun x k => flow_report x _) (s.newlyLatched c) _)
  dsimp only
  split
  · exact h4
  · exact h4.trans (flow_offerCapture _ _)

theorem flow_reraiseLimits (s : State) : Flow s s.reraiseLimits := flow_foldl _ flow_raiseRecord _ _

/-! ## The wind controller -/

/-- An operation that touches the wind controller alone. -/
theorem Flow.of_wind (s : State) (x : WindUnit) (h : WindFlow s.wind x) : Flow s (s.setWind x) :=
  .of_blocks (Eq.refl _) (Eq.refl _) (Eq.refl _) (Eq.refl _) (Eq.refl _) .rfl h (fun _ h => h) (Eq.refl _) (Eq.refl _)
    (Eq.refl _)

theorem flow_setCurrent (s : State) (w : OpenWind) (h : s.wind.current ≠ none) : Flow s (s.setCurrent w) :=
  .of_wind s _ ⟨Eq.refl _, fun x => absurd x h, id⟩

theorem flow_countSide (s : State) (d : Side) (f : SideCounts → SideCounts) : Flow s (s.countSide d f) := by
  unfold State.countSide
  split
  · exact .rfl
  · rename_i w h
    exact flow_setCurrent _ _ (by simp [h])

theorem flow_endRecovery (s : State) : Flow s s.endRecovery := by
  unfold State.endRecovery
  split
  · exact .rfl
  · refine Flow.trans ?_ (flow_reraiseLimits _)
    exact .of_wind s _ ⟨Eq.refl _, id, id⟩

theorem flow_judgeRecoveryEnd (s : State) : Flow s s.judgeRecoveryEnd := by
  unfold State.judgeRecoveryEnd
  split
  · exact .rfl
  · split
    · exact flow_endRecovery _
    · exact .rfl

/-! ## Marks, the park write, the envelope and the ropes -/

theorem flow_setEnv (s : State) (x : Envelope) : Flow s (s.setEnv x) :=
  .of_blocks (Eq.refl _) (Eq.refl _) (Eq.refl _) (Eq.refl _) (Eq.refl _) .rfl .rfl (fun _ h => h) (Eq.refl _)
    (Eq.refl _) (Eq.refl _)

theorem flow_setRope (s : State) (x : RopeUnit) : Flow s (s.setRope x) :=
  .of_blocks (Eq.refl _) (Eq.refl _) (Eq.refl _) (Eq.refl _) (Eq.refl _) .rfl .rfl (fun _ h => h) (Eq.refl _)
    (Eq.refl _) (Eq.refl _)

theorem flow_setTable (s : State) (x : ShaftTable) (h : x.active = s.table.active) : Flow s (s.setTable x) :=
  .of_blocks (Eq.refl _) (Eq.refl _) (Eq.refl _) (Eq.refl _) h .rfl .rfl (fun _ h => h) (Eq.refl _) (Eq.refl _)
    (Eq.refl _)

theorem flow_requestPark (s : State) : Flow s s.requestPark := by
  unfold State.requestPark; split <;> exact flow_setTable s _ (Eq.refl _)

/-- An operation that touches the drum unit alone and no count. -/
theorem Flow.of_drums (s : State) (x : DrumUnit) (hc : ∀ d, sameCounts (s.drums.drum.get d) (x.drum.get d))
    (hf : s.DrumsFit → x.drum.one.Fits ∧ x.drum.two.Fits) : Flow s (s.setDrums x) where
  pending := Eq.refl _
  pins := Eq.refl _
  clock := Eq.refl _
  inputs := Eq.refl _
  active := Eq.refl _
  link := .rfl
  wind := .rfl
  latched _ h := h
  proven h := .inl h
  unproving h := h
  counts := hc
  drums := hf
  tracks h := h

theorem flow_markRest (s : State) : Flow s s.markRest :=
  .of_drums s _ (fun d => by cases d <;> exact ⟨Eq.refl _, Eq.refl _⟩) id

theorem flow_markHold (s : State) : Flow s s.markHold := by
  unfold State.markHold
  split
  · exact .rfl
  · exact .of_drums s _ (fun d => ⟨Eq.refl _, Eq.refl _⟩) id

theorem flow_startDegrade (s : State) (v : Int) : Flow s (s.startDegrade v) := by
  unfold State.startDegrade
  split
  · exact flow_setEnv _ _
  · exact .rfl

/-! ## Closing and stopping a wind, and a raise taken whole -/

theorem flow_closeWind (s : State) (o : WindOutcome) : Flow s (s.closeWind o) := by
  unfold State.closeWind
  split
  · exact .rfl
  · rename_i w hw
    have h (x : State) (hx : Flow s x) : Flow s (if w.inRecovery then x.judgeRecoveryEnd else x) := by
      split
      · exact hx.trans (flow_judgeRecoveryEnd _)
      · exact hx
    refine h _ (.trans (.trans (.trans (.trans (.trans ?_ (flow_report _ _)) (flow_requestPark _)) (flow_markRest _))
      (flow_setEnv _ _)) (flow_setRope _ _))
    exact .of_wind s _ ⟨Eq.refl _, fun _ => Eq.refl _, fun _ => List.length_take_le _ _⟩

theorem flow_enterStopping (s : State) (w : OpenWind) (why : StopCause) (h : s.wind.current ≠ none) :
    Flow s (s.enterStopping w why) :=
  ((flow_setCurrent s _ h).trans (flow_report _ _)).trans (flow_setRope _ _)

theorem flow_handLatch (s : State) (c : Cause) : Flow s (s.handLatch c) := by
  unfold State.handLatch
  split
  · exact .rfl
  · rename_i w hw
    have hn : s.wind.current ≠ none := by simp [hw]
    dsimp only
    split
    · exact (flow_setCurrent s _ hn).trans (flow_closeWind _ _)
    · exact flow_enterStopping s _ _ hn
    · exact flow_enterStopping s _ _ hn
    · exact flow_setCurrent s _ hn

theorem flow_raiseCause (s : State) (c : Cause) : Flow s (s.raiseCause c) := by
  unfold State.raiseCause
  split
  · exact flow_raiseRecord _ _
  · exact (flow_raiseRecord _ _).trans (flow_handLatch _ _)

theorem flow_judgeLoadLost (s : State) : Flow s s.judgeLoadLost := by
  unfold State.judgeLoadLost
  split
  · exact flow_setRope _ _
  · split
    · exact flow_setRope _ _
    · split
      · exact .rfl
      · exact (flow_setRope _ _).trans (flow_raiseCause _ _)

end Sys2Proof.Machine
end

