-- ==== Sys2Proof/Laws/PerInstr.lean ====
section
/-! SUPPORT. A law of every command as syntax: the payload of a well-formed request fits a frame (R162). -/

namespace Sys2Proof.Laws.PayloadFits

/-- The payload of a well-formed request has 2 to 60 bytes, as the length byte of its frame admits (R162). -/
def Statement (i : Instr) : Prop :=
  wellFormed i = true → ∀ p, Machine.requestPayload i = some p → 2 ≤ p.length ∧ p.length ≤ 60

/-- A code, a tag and a body that a frame can carry. -/
theorem payload_fits {code tag : Byte} {body p : List Byte} (h : bodyFits body = true)
    (e : some (code :: tag :: body) = some p) : 2 ≤ p.length ∧ p.length ≤ 60 := by
  cases e
  simp only [bodyFits, decide_eq_true_eq] at h
  simp only [List.length_cons]
  omega

theorem poll (tag : Byte) (body : List Byte) : Statement (.poll tag body) := fun h _ e => payload_fits h e
theorem wind (tag : Byte) (body : List Byte) : Statement (.wind tag body) := fun h _ e => payload_fits h e
theorem redirect (tag : Byte) (body : List Byte) : Statement (.redirect tag body) := fun h _ e => payload_fits h e
theorem abort (tag : Byte) (body : List Byte) : Statement (.abort tag body) := fun h _ e => payload_fits h e
theorem tripReset (tag : Byte) (body : List Byte) : Statement (.tripReset tag body) := fun h _ e => payload_fits h e
theorem proof (tag : Byte) (body : List Byte) : Statement (.proof tag body) := fun h _ e => payload_fits h e
theorem echoReturn (tag : Byte) (body : List Byte) : Statement (.echoReturn tag body) := fun h _ e => payload_fits h e
theorem tableOpen (tag : Byte) (body : List Byte) : Statement (.tableOpen tag body) := fun h _ e => payload_fits h e
theorem tableRecord (tag : Byte) (body : List Byte) : Statement (.tableRecord tag body) := fun h _ e => payload_fits h e
theorem tableClose (tag : Byte) (body : List Byte) : Statement (.tableClose tag body) := fun h _ e => payload_fits h e
theorem readTable (tag : Byte) (body : List Byte) : Statement (.readTable tag body) := fun h _ e => payload_fits h e
theorem readFaults (tag : Byte) (body : List Byte) : Statement (.readFaults tag body) := fun h _ e => payload_fits h e
theorem clearFaults (tag : Byte) (body : List Byte) : Statement (.clearFaults tag body) := fun h _ e => payload_fits h e
theorem readHistory (tag : Byte) (body : List Byte) : Statement (.readHistory tag body) := fun h _ e => payload_fits h e
theorem restart (tag : Byte) (body : List Byte) : Statement (.restart tag body) := fun h _ e => payload_fits h e
theorem unknownRequest (code tag : Byte) (body : List Byte) : Statement (.unknownRequest code tag body) := fun h _ e => payload_fits (Bool.and_eq_true_iff.mp h).1 e
theorem linkFrameDiscarded (why : FrameDiscard) : Statement (.linkFrameDiscarded why) := fun _ _ e => by cases e
theorem linkByteGap (next : Byte) : Statement (.linkByteGap next) := fun _ _ e => by cases e
theorem transmitFrameEnd : Statement .transmitFrameEnd := fun _ _ e => by cases e
theorem quietPeriodExpiry : Statement .quietPeriodExpiry := fun _ _ e => by cases e
theorem linkSilenceExpiry : Statement .linkSilenceExpiry := fun _ _ e => by cases e
theorem loadSample (frame : LoadFrame) : Statement (.loadSample frame) := fun _ _ e => by cases e
theorem loadFrameDiscarded (why : LoadDiscard) : Statement (.loadFrameDiscarded why) := fun _ _ e => by cases e
theorem loadByteGap (next : Byte) : Statement (.loadByteGap next) := fun _ _ e => by cases e
theorem frameTimerExpiry : Statement .frameTimerExpiry := fun _ _ e => by cases e
theorem holdTimerExpiry (side : Side) (rope : Twin) : Statement (.holdTimerExpiry side rope) := fun _ _ e => by cases e
theorem encoderStep (drum : Side) (enc : Twin) (forward : Bool) : Statement (.encoderStep drum enc forward) := fun _ _ e => by cases e
theorem quadratureError (drum : Side) (enc : Twin) : Statement (.quadratureError drum enc) := fun _ _ e => by cases e
theorem lineMonitorInactive (drum : Side) (enc : Twin) : Statement (.lineMonitorInactive drum enc) := fun _ _ e => by cases e
theorem drumSample : Statement .drumSample := fun _ _ e => by cases e
theorem markerEdge (line : Fin 16) : Statement (.markerEdge line) := fun _ _ e => by cases e
theorem inputLevelChange (change : InputChange) : Statement (.inputLevelChange change) := fun _ _ e => by cases e
theorem clutchSettledChange : Statement .clutchSettledChange := fun _ _ e => by cases e
theorem drum2HeldSettledChange : Statement .drum2HeldSettledChange := fun _ _ e => by cases e
theorem resetPermissiveSettledChange : Statement .resetPermissiveSettledChange := fun _ _ e => by cases e
theorem readbackChange (stage : Stage) (chan : Chan) (level : Bool) : Statement (.readbackChange stage chan level) := fun _ _ e => by cases e
theorem mismatchTimerExpiry (stage : Stage) (chan : Chan) : Statement (.mismatchTimerExpiry stage chan) := fun _ _ e => by cases e
theorem tableStoreWriteEnd (readBack : ReadBack) : Statement (.tableStoreWriteEnd readBack) := fun _ _ e => by cases e
theorem parkWriteEnd (agrees : Bool) : Statement (.parkWriteEnd agrees) := fun _ _ e => by cases e
theorem startTimerExpiry : Statement .startTimerExpiry := fun _ _ e => by cases e
theorem dwellTimerExpiry : Statement .dwellTimerExpiry := fun _ _ e => by cases e
theorem echoTimerExpiry : Statement .echoTimerExpiry := fun _ _ e => by cases e
theorem testTimerExpiry : Statement .testTimerExpiry := fun _ _ e => by cases e
theorem powerOn (pins : Pins) : Statement (.powerOn pins) := fun _ _ e => by cases e

end Sys2Proof.Laws.PayloadFits
end

