-- ==== Sys2Proof/Tests/Slice0.lean ====
section
/-! SUPPORT. Tests on small states, with the figures of the spec where it works an example; a witness for the hypotheses
of each statement of Certificates/Slice0/Obligations.lean. -/

open Sys2Proof Sys2Proof.Machine

namespace Sys2Proof.Tests

/-! ## Small states -/

/-- A skip of the stretch example of section 3.5, with limits about it. -/
def skip : SideData := { defaultSide with
  kind := .skip, top := -20000, bottom := 3200000, ropeWeight := 190, stiffness := 231000, weight := 200000
  payloadLimit := 300000 }

/-- A shaft with the wrap segments of section 2.3 on drum 1, one station, and two markers of side 1 on line 2. -/
def shaft : Effective where
  winder := { defaultWinder with cpr := ⟨16384, 16384⟩, sheave := ⟨-60000, -60000⟩ }
  sup := defaultSup
  side := ⟨skip, skip⟩
  wraps := ⟨[⟨1146880, 13980000⟩, ⟨1146880, 13700000⟩], [⟨1146880, 13980000⟩]⟩
  stations := [⟨1, ⟨some 100000, some 100000⟩⟩, ⟨2, ⟨some 200000, none⟩⟩]
  markers := [⟨1, 2, .one, 200, 200⟩, ⟨2, 2, .one, 45000, 45000⟩]
  zones := []
  modes := defaultModes

/-- That shaft as an active table of one record. -/
def shaftTable : ActiveTable := ⟨[⟨5, [1]⟩], tableCheck [⟨5, [1]⟩], [0], shaft⟩

/-- After reset, with the quiet period over. -/
def listening : State := { State.reset with link := { State.reset.link with quiet := none } }

/-- With that shaft active, proven, both sides locked and every stage clear. -/
def fit : State :=
  let clear : PerChan OutChannel := ⟨⟨true, none⟩, ⟨true, none⟩⟩
  { listening with
    table := { listening.table with active := some shaftTable }
    depth := ⟨{ listening.depth.one with lock := .locked, sampledLock := .locked },
      { listening.depth.two with lock := .locked, sampledLock := .locked }⟩
    trip := { listening.trip with latch := ⟨.clear, .clear, .clear⟩, chan := ⟨clear, clear, clear⟩ }
    pins := { listening.pins with readbacks := ⟨⟨true, true⟩, ⟨true, true⟩, ⟨true, true⟩⟩ }
    proof := { listening.proof with readiness := .proven } }

/-- An open wind of side 1 to station 1. -/
def openWind (p : Phase) : OpenWind where
  phase := p
  number := 1
  mode := .rock
  lead := .one
  destination := 1
  target := 100000
  dir := .descending
  startPayout := 0
  furthest := 0
  start := if p = .accepted then some 30000 else none
  dwell := if p = .accepted then none else some 2000
  stop := if p = .stopping then some .abort else none
  inRecovery := false
  origin := none
  duration := 0
  peakSpeed := 0
  peakUsage := 0
  counts := ⟨⟨0, 0, 0, 0, 0⟩, ⟨0, 0, 0, 0, 0⟩⟩
  firstTrip := none

/-- The fit part with a wind open. -/
def winding (p : Phase) : State := { fit with wind := { fit.wind with current := some (openWind p) } }

/-- With every stage latched and a proof in a step. -/
def provingIn (p : ProofStep) : State :=
  { listening with table := fit.table, proof := { listening.proof with readiness := .proving p } }

/-- With a table load open. -/
def loading : State :=
  { listening with
    table := { fit.table with staged := [⟨5, [1]⟩] }
    link := { listening.link with load := some ⟨2, 0, 1⟩ } }

/-- With both encoders of drum 1 at a count. -/
def turned (n : Int) (s : State) : State :=
  let count : Encoder := ⟨BitVec.ofInt 32 n, false⟩
  { s with drums := { s.drums with drum := { s.drums.drum with one := { s.drums.drum.one with enc := ⟨count, count⟩ } } } }

/-- With drum 1 at a speed, which it keeps at its first drum sample. -/
def running (v : Int) (s : State) : State :=
  { s with drums := { s.drums with drum := { s.drums.drum with one := { s.drums.drum.one with v := v } } } }

/-- With the drum of side 1 descending at 300 mm/s and its lock in a state. -/
def descending (l : Lock) : State :=
  running 300 { fit with depth := { fit.depth with one := { fit.depth.one with lock := l } } }

/-- With other markers in the table. -/
def marked (markers : List Marker) (s : State) : State :=
  { s with table := { s.table with active := some { shaftTable with eff := { shaft with markers := markers } } } }

/-- With the silence timer at its end. -/
def silent (s : State) : State := { s with link := { s.link with silence := some 0 } }

/-- What a drum sample leaves of something. -/
def sampled {α : Type} (s : State) (f : State → α) : Option α :=
  match exec .drumSample s with
  | .next t => some (f t)
  | _ => none

/-! ## Ill-formed commands are refused -/

theorem test_body_of_59_refused : wellFormed (.poll 0 (List.replicate 59 0)) = false := by decide
theorem test_body_of_58_admitted : wellFormed (.tableRecord 0 (List.replicate 58 0)) = true := by decide
theorem test_request_code_is_not_unknown : wellFormed (.unknownRequest 0x0F 0 []) = false := by decide
theorem test_code_above_is_unknown : wellFormed (.unknownRequest 0x10 0 []) = true := by decide
theorem test_length_within_range_refused :
    [(2 : Byte), 60].map (fun n => wellFormed (.linkFrameDiscarded (.badLength n))) = [false, false] := by decide
theorem test_length_outside_range_admitted :
    [(1 : Byte), 61].map (fun n => wellFormed (.linkFrameDiscarded (.badLength n))) = [true, true] := by decide
theorem test_store_of_153_records_refused :
    wellFormed (.tableStoreWriteEnd (.found (List.replicate 153 ⟨5, []⟩))) = false := by decide +kernel

/-- No row of the table gives bits (log entry 43). -/
theorem test_no_row_has_bits : decodeTableWord 0 0 = none := rfl

/-! ## Figures of the spec -/

/-- Section 2.3, payout examples. -/
theorem test_payout_examples :
    [1500000, 2400000, -2000].map (payoutUm 16384 (shaft.wraps.get .one)) = [1273872460, 2026435937, -1706543] := by
  decide

/-- Section 2.3, the same in millimetres. -/
theorem test_payout_rounds_half_up : [1273872460, 2026435937, -1706543].map toMm = [1273872, 2026436, -1707] := by decide

/-- Section 3.5, stretch at a loading point. -/
theorem test_stretch_examples :
    [808000, 811000, 814000, 820000, 832000].map
      (fun t : Int => stretchFrom (stretchNumerator t 3200000 190) 231000) = [6982, 7023, 7065, 7148, 7314] := by
  decide

/-- Section 5.7, the roots fixed by neighbouring squares. -/
theorem test_square_roots :
    [192360000, 72360000, 92000000, 58250000, 97500000, 26500000].map isqrt = [13869, 8506, 9591, 7632, 9874, 5147] := by
  decide

/-- Section 5.7, the target term of a ROCK wind 100,000 mm from its target. -/
theorem test_target_term : approachTerm (defaultMode .rock) 100000 = 13869 := by decide

/-- Section 5.7, the thresholds at 13,869 mm/s and at 0. -/
theorem test_thresholds :
    thresholds defaultSup 13869 = ⟨14423, 14978, 15533⟩ ∧ thresholds defaultSup 0 = ⟨150, 300, 500⟩ := by decide

/-- Section 6.4, the reach of a redirect 60,000 and 80,000 mm ahead. -/
theorem test_reach : [60000, 80000].map (approachTerm (defaultMode .rock)) = [10600, 12343] := by decide

/-- Section 6.4, stopping distances. -/
theorem test_stopping_distances :
    [12000, 7000, 7001].map (fun v => stopDistance v 1000) = [72000, 24500, 24508] := by decide

/-- Section 9.1, 9.9: a POLL frame with tag 7: sync byte, length 2, code, tag, and a CRC over length and payload. -/
theorem test_poll_frame_head : (hostFrame (.poll 7 [])).map (List.take 4) = some [0xA5, 2, 0x01, 7] := by decide

theorem test_poll_frame_is_read_back : (hostFrame (.poll 7 [])).bind hostFrameCommand = some (.poll 7 []) := by decide +kernel

/-- The check value that CRC-16 of polynomial 0x1021 and initial value 0xFFFF is known by. PRESUMED: it is no figure of
the spec. -/
theorem test_crc : crc16 [0x31, 0x32, 0x33, 0x34, 0x35, 0x36, 0x37, 0x38, 0x39] = 0x29B1 := by decide +kernel

/-- Section 9.9, POLL reply body (47 bytes). -/
theorem test_poll_body_length : (fit.pollBody false).length = 47 := by decide

/-! ## Single commands -/

theorem test_step_of_a_forward_step_counts_up :
    (match step { fit with pending := [.encoderStep .one .b true] } with
      | .next t => t.drums.drum.one.enc.b.count
      | _ => 0) = 1 := by decide

/-- R21: the count wraps from the smallest to the largest signed number. -/
theorem test_count_wraps : stepEncoder ⟨0x80000000, false⟩ true false = ⟨0x7FFFFFFF, false⟩ := by decide

/-- R24: two encoders that lie across the wrap are close together. -/
theorem test_difference_across_the_wrap :
    ({ fit.drums.drum.one with enc := ⟨⟨0x80000001, false⟩, ⟨0x7FFFFFFF, false⟩⟩ }).delta = 2 := by decide

theorem test_idle_step_counts_a_millisecond :
    (match step State.reset with
      | .next t => some t.clock
      | _ => none) = some ⟨1, true⟩ := by decide

theorem test_wind_is_accepted :
    (match exec (.wind 9 [1, 3, 1]) fit with
      | .next t => t.phase
      | _ => none) = some .accepted := by decide

theorem test_wind_under_a_latch_is_refused :
    (match exec (.wind 9 [1, 3, 1]) listening with
      | .next t => t.link.tx
      | _ => none) = some (.reply ⟨0x02, 9, .tripped, []⟩) := by decide

/-- R13: an inverted zone holds no depth, so the sound zone before it is at no fault. -/
theorem test_inverted_zone_shares_no_depth :
    zonesShare ⟨.one, 0, 100, 500⟩ ⟨.one, 50, 20, 500⟩ = false ∧
      zonesShare ⟨.one, 0, 100, 500⟩ ⟨.one, 100, 120, 500⟩ = true := by decide

theorem test_silence_trips_a_running_wind :
    (match exec .linkSilenceExpiry (silent (winding .running)) with
      | .next t => t.latches
      | _ => ⟨false, false, false⟩) = ⟨true, false, false⟩ := by decide

/-- R144: the expiry that a frame has overtaken does not happen. -/
theorem test_restarted_silence_timer_has_not_expired :
    exec .linkSilenceExpiry (winding .running) = .next (winding .running) := rfl

theorem test_proof_begins_with_the_encoders :
    (match exec (.proof 3 []) { listening with table := fit.table } with
      | .next t => t.proof.readiness
      | _ => .noTable) = .proving .encoders := by decide +kernel

/-- R154: a drum in DIVERGED fails step 2, though its counts agree again. -/
theorem test_diverged_drum_fails_step_2 :
    let s := provingIn .encoders
    sampled { s with drums := { s.drums with drum := { s.drums.drum with
      one := { s.drums.drum.one with state := .diverged } } } } (·.proof.lastFailure) = some (some (0x82, 1)) := by
  decide +kernel

theorem test_trip_reset_clears_the_stages_below :
    (match exec (.tripReset 3 [2, 0])
        { fit with trip := { fit.trip with latch := ⟨.latched .proof, .latched .proof, .clear⟩ } } with
      | .next t => t.latches
      | _ => ⟨true, true, true⟩) = ⟨false, false, false⟩ := by decide

/-- R42: a frame that repeats a sequence number is no sample. -/
theorem test_repeated_load_frame_changes_nothing :
    (match exec (.loadSample ⟨3, ⟨⟨some 1, some 1⟩, ⟨some 1, some 1⟩⟩⟩)
        { fit with rope := { fit.rope with lastSeq := some 3 } } with
      | .next t => t.rope.side
      | _ => fit.rope.side) = fit.rope.side := by decide

/-! ## Witnesses: states and operands that meet the hypotheses of each statement

Each is named after its statement. -/

theorem listening_ready : listening.ready := ⟨⟨rfl, by decide⟩, rfl⟩
theorem fit_ready : fit.ready := ⟨⟨rfl, by decide⟩, rfl⟩
theorem winding_ready (p : Phase) : (winding p).ready := ⟨⟨rfl, (by decide : 0 < 8)⟩, rfl⟩
theorem loading_ready : loading.ready := ⟨⟨rfl, by decide⟩, rfl⟩
theorem provingIn_ready (p : ProofStep) : (provingIn p).ready := ⟨⟨rfl, (by decide : 0 < 8)⟩, rfl⟩

/-- With 7 replies waiting a request is still dispatched, with 8 none is. -/
def waiting (n : Nat) : State :=
  { listening with link := { listening.link with replies := List.replicate n ⟨1, 0, .done, []⟩ } }

/-- With an accepted RESTART awaiting the end of its reply. -/
def restarting : State :=
  { listening with link := { listening.link with restartDue := true, tx := some (.reply ⟨0x0F, 1, .done, []⟩) } }

/-- The part latched after reset is coherent, whatever its settled inputs, levels and drums. -/
theorem reset_coherent : State.reset.Coherent where
  latches := ⟨fun _ => rfl, fun _ => rfl⟩
  channels := fun _ k c => by cases k <;> cases c <;> rfl
  winds := fun _ w h => nomatch h
  load := fun h => absurd rfl h
  proof := fun h => nomatch h
  readiness := ⟨fun _ => rfl, fun _ => rfl⟩
  conditions := fun c h => nomatch h

theorem winding_coherent (p : Phase) : (winding p).Coherent where
  latches := ⟨(nomatch ·), (nomatch ·)⟩
  channels := fun _ k c => by cases k <;> cases c <;> rfl
  winds := fun h => nomatch h
  load := fun h => absurd rfl h
  proof := fun h => nomatch h
  readiness := ⟨(nomatch ·), (nomatch ·)⟩
  conditions := fun c h => nomatch h

theorem silent_coherent {s : State} (h : s.Coherent) : (silent s).Coherent :=
  ⟨h.latches, h.channels, h.winds, h.load, h.proof, h.readiness, h.conditions⟩

theorem fit_coherent : fit.Coherent where
  latches := ⟨(nomatch ·), (nomatch ·)⟩
  channels := fun _ k c => by cases k <;> cases c <;> rfl
  winds := fun h => nomatch h
  load := fun h => absurd rfl h
  proof := fun h => nomatch h
  readiness := ⟨(nomatch ·), (nomatch ·)⟩
  conditions := fun c h => nomatch h

theorem witness_StepTakesFrontCommand : { fit with pending := [.drumSample, .echoTimerExpiry] }.pending =
    .drumSample :: [.echoTimerExpiry] := rfl

theorem witness_OnlyTheirEventsMovePinsClockCountsAndTable :
    (∃ t, exec (.inputLevelChange (.clutch false)) State.reset = .next t ∧ t.pins ≠ State.reset.pins) ∧
    (∃ t, exec (.powerOn Pins.quiet) { State.reset with clock := ⟨7, false⟩ } = .next t ∧ t.clock ≠ ⟨7, false⟩) ∧
    (∃ t, exec (.encoderStep .one .a true) fit = .next t ∧
      t.drums.drum.one.enc.a.count ≠ fit.drums.drum.one.enc.a.count) ∧
    ∃ t, exec (.powerOn Pins.quiet) fit = .next t ∧ t.table.active ≠ fit.table.active :=
  ⟨⟨_, rfl, by decide⟩, ⟨_, rfl, by decide⟩, ⟨_, rfl, by decide⟩, ⟨_, rfl, by decide +kernel⟩⟩

theorem witness_DiscardedFramesLeaveNoTrace :
    State.reset.link.quiet ≠ none ∧ 8 ≤ (waiting 8).link.replies.length ∧ listening.link.quiet = none := by decide

theorem witness_EveryDispatchedRequestGetsOneReply : (waiting 7).listening := ⟨rfl, by decide⟩

theorem witness_RequestsAreScreenedBeforeTheirOwner :
    (listening.listening ∧ isRequestCode 0x00 = false ∧ isRequestCode 0x10 = false ∧ isRequestCode 0xFF = false) ∧
    ((fixedLength 0x02 = some 3 ∧ [0x02].length ≠ 3 ∧ 0x02 ∉ [0x01, 0x0A]) ∧
      (fixedLength 0x01 = some 0 ∧ [0x02].length ≠ 0 ∧ 0x01 ∈ [0x01, 0x0A])) ∧
    restarting.listening ∧ restarting.link.restartDue = true ∧
    (fixedLength 0x04 = some 0 ∧ 0x04 ∉ [0x01, 0x09, 0x0A]) ∧ (0x09 ∈ [0x01, 0x09, 0x0A] ∧ 2 ≤ [0, 0].length) :=
  ⟨⟨⟨rfl, by decide⟩, by decide⟩, by decide, ⟨rfl, by decide⟩, rfl, by decide, by decide⟩

theorem witness_OtherRequestsAbandonTheLoad :
    loading.listening ∧ loading.link.load = some ⟨2, 0, 1⟩ ∧ 0x08 ∉ [0x01, 0x09, 0x0A] ∧ 0x10 ∉ [0x01, 0x09, 0x0A] :=
  ⟨⟨rfl, by decide⟩, rfl, by decide⟩

theorem witness_FrameEndsChooseTheNextFrame :
    listening.link.tx = none ∧
    (let s := { listening with link := { listening.link with tx := some (.reply ⟨0x0F, 1, .moving, []⟩) } }
     s.link.quiet = none ∧ ∀ r, s.link.tx = some (.reply r) → r.code = 0x0F → r.result = .done →
      s.link.restartDue = false) := ⟨rfl, rfl, fun _ _ _ _ => rfl⟩

theorem witness_QuietPeriodEndsWithRestarted :
    State.reset.link.quiet ≠ some 0 ∧
    { State.reset with link := { State.reset.link with quiet := some 0 } }.link.quiet = some 0 ∧
    State.reset.link.tx = none := by decide

theorem witness_SilenceTripsOnlyAWindUnderWay :
    (winding .running).link.silence ≠ some 0 ∧
    ((silent State.reset).link.silence = some 0 ∧ (silent State.reset).Coherent ∧ (silent State.reset).phase = none) ∧
    ∀ p, (silent (winding p)).link.silence = some 0 ∧ (silent (winding p)).Coherent ∧
      (silent (winding p)).wind.current = some (openWind p) ∧ (openWind p).inRecovery = false :=
  ⟨by decide, ⟨rfl, silent_coherent reset_coherent, rfl⟩,
    fun p => ⟨rfl, silent_coherent (winding_coherent p), rfl, rfl⟩⟩

theorem witness_PollGathersAndClearsTheLostFlag : fit.ready := fit_ready

theorem witness_RestartIsJudgedAndAwaited :
    (fit.ready ∧ firstRefusal [(!fit.bothStationary, .moving), (fit.windOpen, .busy)] = none) ∧
    ((winding .accepted).ready ∧
      firstRefusal [(!(winding .accepted).bothStationary, .moving), ((winding .accepted).windOpen, .busy)] =
        some .busy) := ⟨⟨fit_ready, by decide⟩, ⟨winding_ready _, by decide⟩⟩

theorem witness_ReadTableReturnsTheRecordAsLoaded :
    fit.ready ∧ fit.table.active = some shaftTable ∧ shaftTable.records[0]? = some ⟨5, [1]⟩ ∧
    shaftTable.clamps[0]? = some 0 ∧ (fit.table.active.all fun a => decide (a.records.length ≤ 1)) = true ∧
    (listening.table.active.all fun a => decide (a.records.length ≤ 0)) = true :=
  ⟨fit_ready, rfl, rfl, rfl, by decide, by decide⟩

theorem witness_ReadHistoryReturnsTheRecordOfAnAge :
    let r := (openWind .creep).complete .landed
    let s := { fit with wind := { fit.wind with history := [r] } }
    s.ready ∧ s.wind.history[0]? = some r ∧ s.wind.history.length ≤ 1 := ⟨⟨⟨rfl, by decide⟩, rfl⟩, rfl, by decide⟩

theorem witness_FaultsAreReadAndCleared :
    (fit.ready ∧ fit.anyLatched = false) ∧ listening.ready ∧ listening.anyLatched = true :=
  ⟨⟨fit_ready, by decide⟩, listening_ready, by decide⟩

theorem witness_RaisesAreTakenWhole :
    Cause.linkSilent.stage ≠ none ∧ (Cause.drumLost .one).stage ≠ none ∧ fit.ChannelsFollow ∧ fit.inTripTest = false :=
  ⟨by decide, by decide, fit_coherent.channels, rfl⟩

/-- With side 1 beyond its top limit and stage 3 latched by it. -/
def overwound : State :=
  let off : PerChan OutChannel := ⟨⟨false, none⟩, ⟨false, none⟩⟩
  { fit with
    inputs := { fit.inputs with permissive := true }
    env := { fit.env with limit := ⟨.beyondTop, .inside⟩ }
    wind := { fit.wind with outward := ⟨some .ascending, none⟩ }
    trip := { fit.trip with
      latch := ⟨.latched (.limit .one .top), .latched (.limit .one .top), .latched (.limit .one .top)⟩
      chan := ⟨off, off, off⟩
      active := [.limit .one .top] } }

theorem overwound_coherent : overwound.Coherent where
  latches := ⟨fun _ => rfl, fun _ => rfl⟩
  channels := fun _ k c => by cases k <;> cases c <;> rfl
  winds := fun _ w h => nomatch h
  load := fun h => absurd rfl h
  proof := fun h => nomatch h
  readiness := ⟨(nomatch ·), (nomatch ·)⟩
  conditions := fun _ _ _ _ => rfl

theorem witness_TripResetIsJudgedAndUnlatches :
    (fit.ready ∧ fit.Coherent ∧ stageOfCode 0 = none ∧ stageOfCode 4 = none ∧ fit.latched .s1 = false) ∧
    (overwound.ready ∧ overwound.Coherent ∧ stageOfCode 3 = some .s3 ∧ overwound.latched .s3 = true ∧
      overwound.bothStationary = true ∧ overwound.proof.readiness = .proven ∧ overwound.inputs.permissive = true ∧
      overwound.env.limit.one = .beyondTop ∧ overwound.wind.outward.one = some .ascending ∧
      ∀ c ∈ overwound.trip.active, c.isCondition = true → c.isLimit = true) :=
  ⟨⟨fit_ready, fit_coherent, by decide⟩, ⟨⟨⟨rfl, by decide⟩, rfl⟩, overwound_coherent, by decide⟩⟩

theorem witness_ReadbacksAreCompared :
    (fit.readback .s1 .x = true ∧ fit.inTripTest = false) ∧
    (let s := provingIn (.tripPaths .s1 .x true (some 20))
     s.readback .s1 .x = false ∧ s.proof.readiness = .proving (.tripPaths .s1 .x true (some 20)) ∧
     s.readback .s2 .y ≠ true ∧ ¬ (Stage.s2 = .s1 ∧ Chan.y = .x ∧ true = true)) ∧
    ∀ k h, let s := { provingIn (.tripPaths k h false (some 20)) with pins := fit.pins }
      s.readback k h = true ∧ s.proof.readiness = .proving (.tripPaths k h false (some 20)) :=
  ⟨by decide, by decide, fun k h => by cases k <;> cases h <;> decide⟩

theorem witness_MismatchRaisesTripPath :
    (fit.channel .s1 .x).mismatch ≠ some 0 ∧ { fit.channel .s1 .x with mismatch := some 1 }.mismatch ≠ some 0 ∧
    (let s := { fit with trip := { fit.trip with
        chan := fit.trip.chan.set .s1 ⟨⟨true, some 0⟩, ⟨true, none⟩⟩ } }
     (s.channel .s1 .x).mismatch = some 0) ∧
    (let s := { listening with trip := { listening.trip with
        chan := listening.trip.chan.set .s1 ⟨⟨false, some 0⟩, ⟨false, none⟩⟩ } }
     (s.channel .s1 .x).mismatch = some 0 ∧ s.latched .s1 = true ∧ s.latched .s2 = true ∧ s.latched .s3 = true) := by
  decide

/-- Section 7.10: a channel stuck energised under its own latched stage, the others clear; and one stuck de-energised under
a clear stage. -/
theorem witness_MismatchRaisesTripPath_stuck :
    (let s := { fit with trip := { fit.trip with
        latch := ⟨.latched .linkSilent, .clear, .clear⟩
        chan := fit.trip.chan.set .s1 ⟨⟨false, some 0⟩, ⟨false, some 20⟩⟩ } }
     (s.channel .s1 .x).mismatch = some 0 ∧ s.latched .s1 = true ∧ s.latched .s3 = false ∧ s.readback .s1 .x = true ∧
       s.wind.current = none) ∧
    (let s := { fit with
        trip := { fit.trip with chan := fit.trip.chan.set .s2 ⟨⟨true, some 0⟩, ⟨true, none⟩⟩ }
        pins := { fit.pins with readbacks := fit.pins.readbacks.set .s2 ⟨false, true⟩ } }
     (s.channel .s2 .x).mismatch = some 0 ∧ s.latched .s2 = false ∧ s.inTripTest = false ∧
       s.readback .s2 .x = false) := by decide

/-- The fourteen checks all pass for a ROCK wind of side 1 to station 1. -/
theorem witness_WindIsJudgedAndAccepted :
    modeOfCode 0 = none ∧ sideOfCode 3 = none ∧ modeOfCode 3 = some .rock ∧ sideOfCode 1 = some .one ∧
    fit.stopDepth 1 .one = some 100000 ∧ (100000 : Int) ≠ (fit.depth.get .one).D ∧ fit.windOpen = false ∧
    fit.anyLatched = false ∧ fit.hasTable = true ∧ fit.proof.readiness = .proven ∧
    Mode.rock.allows (fit.sideData .one).kind = true ∧ fit.inputs.clutch = true ∧ fit.stationary .one = true ∧
    fit.stationary .two = true ∧ fit.wind.recovery = none ∧ fit.depth.one.sampledLock.referenced = true ∧
    fit.depth.two.sampledLock.referenced = true ∧ fit.drums.drum.one.sampledState = .dual ∧
    fit.drums.drum.two.sampledState = .dual ∧ (fit.rope.side.get .one).payload ≤ (fit.sideData .one).payloadLimit ∧
    fit.winder.landingTol < mag (100000 - (fit.depth.get .one).D) := by decide

theorem witness_RedirectIsJudgedByThePhase :
    (fit.ready ∧ fit.wind.current = none) ∧
    ∀ p, (winding p).ready ∧ (winding p).wind.current = some (openWind p) ∧
      (winding p).stopDepth 2 .one = some 200000 ∧ (winding p).winder.landingTol < mag (200000 - 0) ∧
      (0 : Int) < (200000 - 0) * (openWind p).dir.sign ∧
      mag ((winding p).speed .one) ≤ approachTerm ((winding p).mode .rock) 200000 :=
  ⟨⟨fit_ready, rfl⟩, fun p => ⟨winding_ready p, rfl, rfl, by cases p <;> decide, by cases p <;> decide,
    by cases p <;> decide⟩⟩

theorem witness_AbortActsByThePhase :
    (fit.ready ∧ fit.wind.current = none) ∧
    ∀ p, (winding p).ready ∧ (winding p).wind.current = some (openWind p) ∧ (openWind p).phase = p :=
  ⟨⟨fit_ready, rfl⟩, fun p => ⟨winding_ready p, rfl, rfl⟩⟩

/-- A recovery wind in ACCEPTED, with its offending side inside its limits by 500 mm, and by one millimetre less, and a
LIMIT of the other side standing. -/
def returning (D : Int) : State :=
  { fit with
    depth := { fit.depth with one := { fit.depth.one with D := D } }
    wind := { fit.wind with
      current := some { openWind .accepted with inRecovery := true, start := some 0 }
      recovery := some ⟨some ⟨.ascending, 0⟩, none⟩ }
    trip := { fit.trip with active := [.limit .two .bottom] } }

/-- Its closure ends recovery in the first case only, and then the LIMIT that stands is raised anew. -/
theorem witness_AbortActsByThePhase_recovery :
    [-19500, -19501].map (fun D => match exec (.abort 9 []) (returning D) with
      | .next t => some (t.wind.recovery.isSome, t.latched .s3)
      | _ => none) = [some (false, true), some (true, false)] ∧
    [-19500, -19501].map (fun D => match exec .startTimerExpiry (returning D) with
      | .next t => some (t.wind.recovery.isSome, t.latched .s3)
      | _ => none) = [some (false, true), some (true, false)] := by decide +kernel

theorem witness_WindTimersCloseTheWind :
    (winding .accepted).startTimer ≠ some 0 ∧ (winding .running).dwellTimer ≠ some 0 ∧
    ∀ p, ({ openWind .accepted with start := some 0 }.phase = .accepted ∧
        { openWind .accepted with start := some 0 }.start = some 0) ∧
      { openWind p with dwell := some 0 }.dwell = some 0 := by
  refine ⟨by decide, by decide, fun p => ?_⟩
  cases p <;> decide

theorem witness_ProofIsJudgedAndBegun :
    fit.ready ∧ fit.ChannelsFollow ∧ fit.table.active = some shaftTable ∧ listening.ChannelsFollow ∧
    firstRefusal [(fit.isProving, .busy), (fit.windOpen, .busy), (!fit.hasTable, .noTable),
      (!fit.bothStationary, .moving)] = none ∧
    firstRefusal [(listening.isProving, .busy), (listening.windOpen, .busy), (!listening.hasTable, .noTable),
      (!listening.bothStationary, .moving)] = some .noTable :=
  ⟨fit_ready, fit_coherent.channels, rfl, fun _ k c => by cases k <;> cases c <;> rfl, by decide, by decide⟩

theorem witness_EchoReturnsAreJudged :
    (fit.ready ∧ ∀ p m o n, fit.proof.readiness ≠ .proving (.echo p m o n)) ∧
    ∀ p o, (provingIn (.echo p 0 o (some 1000))).ready ∧
      (provingIn (.echo p 0 o (some 1000))).proof.readiness = .proving (.echo p 0 o (some 1000)) :=
  ⟨⟨fit_ready, fun _ _ _ _ h => nomatch h⟩, fun _ _ => ⟨provingIn_ready _, rfl⟩⟩

/-- A drum at 49 mm/s is still, one at 50 mm/s moves; counts 8 apart agree, 9 apart do not. -/
theorem witness_ProofStepsAreJudged :
    (∀ p, (provingIn p).proof.readiness = .proving p) ∧
    [49, 50].map (fun v => sampled (running v (provingIn .encoders)) (·.proof.readiness)) =
      [some (.proving .markers), some .proofFailed] ∧
    [(8 : Word), 9].map (fun n => sampled
        { provingIn .encoders with drums := { fit.drums with drum := { fit.drums.drum with
          two := { fit.drums.drum.two with enc := ⟨⟨n, false⟩, ⟨0, false⟩⟩ } } } } (·.proof.lastFailure)) =
      [some none, some (some (0x83, 2))] ∧
    { (provingIn .loads).rope with frame := some 0 }.frame = some 0 ∧ (provingIn .loads).rope.lastSeq ≠ some 1 :=
  ⟨fun _ => rfl, by decide +kernel, by decide +kernel, rfl, by decide⟩

/-- An active line whose marker of side 1 lies 250 mm off is near, 251 mm off it is not. -/
theorem witness_ProofStepsAreJudged_markers :
    [50, 51].map (fun k => sampled
        { provingIn .markers with
          pins := { fit.pins with lines := fit.pins.lines.set 2 true }
          depth := { fit.depth with one := { fit.depth.one with K := -k } } } (·.proof.lastFailure)) =
      [some none, some (some (0x84, 2))] := by decide +kernel

theorem witness_ProofTimersFailTheProof :
    fit.echoTimer ≠ some 0 ∧ (provingIn (.tripPaths .s3 .y false (some 1))).testTimer ≠ some 0 ∧
    (provingIn (.echo 0x8000 0 true (some 0))).proof.readiness = .proving (.echo 0x8000 0 true (some 0)) ∧
    (provingIn (.tripPaths .s3 .y false (some 0))).proof.readiness = .proving (.tripPaths .s3 .y false (some 0)) := by
  decide

/-- Counts 1 and 152 pass, 0 and 153 do not. -/
theorem witness_TableOpenIsJudged :
    fit.ready ∧ fit.windOpen = false ∧ fit.isProving = false ∧ fit.bothStationary = true ∧
    [(0 : Byte), 1, 152, 153].map (fun count => firstRefusal
      [(decide (count.toNat < 1 ∨ 152 < count.toNat), Result.range), (fit.windOpen, .busy), (fit.isProving, .busy),
       (!fit.bothStationary, .moving)]) = [some .range, none, none, some .range] :=
  ⟨fit_ready, by decide⟩

theorem witness_TableRecordStagesOrEndsTheLoad :
    (fit.ready ∧ fit.link.load = none ∧ [(0 : Byte)].length < 2) ∧
    (loading.ready ∧ loading.link.load = some ⟨2, 0, 1⟩ ∧ recordKindOf 0 = none ∧
      recordKindOf 4 = some .wrap ∧ bodyLength .wrap = 10 ∧ (1 : Byte).toNat = 1) :=
  ⟨⟨fit_ready, rfl, by decide⟩, ⟨loading_ready, rfl, by decide⟩⟩

theorem witness_TableCloseValidatesAndActivates :
    (fit.ready ∧ fit.link.load = none) ∧
    (loading.ready ∧ loading.link.load = some ⟨2, 0, 1⟩ ∧ loading.bothStationary = true ∧
      (closeFault 2 0 loading.table.staged).isSome = true) ∧
    { loading with drums := (descending .locked).drums }.bothStationary = false ∧
    (let s := { loading with
        wind := { fit.wind with recovery := some ⟨none, none⟩ }, trip := { fit.trip with active := [.limit .two .top] } }
     s.wind.recovery ≠ none ∧ s.trip.active.filter Cause.isLimit ≠ []) :=
  ⟨⟨fit_ready, rfl⟩, ⟨loading_ready, rfl, by decide, by decide⟩, by decide, by decide⟩

/-- The seven records a table needs: WINDER, SIDE of each side, WRAP of each drum, a STATION, and a MARKER on line 2. -/
def goodTable : List RawRecord :=
  let depth (x : Int) : List Byte := be32 (BitVec.ofInt 32 x)
  let side (d : Byte) : RawRecord := ⟨3, [d, 2] ++ depth 0 ++ depth (-50000) ++ depth 3165000 ++ [0, 190] ++
    depth 231000 ++ depth 200000 ++ depth 300000 ++ List.replicate 9 0⟩
  let wrap (d : Byte) : RawRecord := ⟨4, [d, 1] ++ depth 1146880 ++ depth 13980000⟩
  [⟨1, depth 16384 ++ depth 16384 ++ [1, 1, 1, 1] ++ depth (-60000) ++ depth (-60000) ++ List.replicate 10 0⟩,
    side 1, side 2, wrap 1, wrap 2, ⟨5, [1, 2, 0] ++ List.replicate 8 0 ++ depth 100000 ++ depth 100000⟩,
    ⟨6, [1, 2, 1] ++ depth 45000 ++ depth 44830⟩]

/-- That table passes the sixteen checks of R13 under its own check, and has nothing clamped. -/
theorem witness_TableCloseValidatesAndActivates_valid :
    closeFault 7 (tableCheck goodTable) goodTable = none ∧ (tableClamps goodTable).sum = 0 := by
  refine ⟨?_, by decide +kernel⟩
  unfold closeFault
  rw [if_neg (by decide), if_neg (fun h => h rfl)]
  decide +kernel

theorem witness_StoreWritesEnd :
    fit.table.storeWrite = none ∧ fit.table.parkWrite = none ∧
    (let park : Park := ⟨⟨0, 0⟩, ⟨0, 0⟩, true⟩
     let t := { fit.table with storeWrite := some ⟨[], 0xFFFF⟩, parkWrite := some park }
     t.storeWrite = some ⟨[], 0xFFFF⟩ ∧ t.parkWrite = some park ∧ t.parkPending = none ∧
       { t with parkPending := some park }.parkPending = some park) := by decide

theorem witness_FramesRoundTrip :
    (wellFormed (.poll 7 []) = true ∧ (hostFrame (.poll 7 [])).isSome = true ∧
      wellFormed (.tableRecord 0 (List.replicate 58 0)) = true ∧
      (hostFrame (.tableRecord 0 (List.replicate 58 0))).isSome = true) ∧
    (0xA5 : Byte) ∉ [0x00, 0xFF, 0xA4] := ⟨⟨by decide, rfl, by decide, rfl⟩, by decide⟩

/-- The furthest point 99 mm from the start in ACCEPTED fits, 100 mm from it does not. -/
theorem witness_StepsKeepTheFurthestPointFitting :
    let at_ (x : Int) : State := { fit with wind := { fit.wind with
      current := some { openWind .accepted with furthest := x } } }
    (at_ 99).FurthestFits ∧ ¬ (at_ 100).FurthestFits ∧ ∃ t, step (at_ 99) = .next t := by
  refine ⟨?_, ?_, _, rfl⟩ <;> simp [State.FurthestFits, openWind, Dir.sign]

theorem witness_StepsCountByTheSense :
    (fit.drums.drum.one.enc.get .a).failed = false ∧
    ((PerTwin.mk (Encoder.mk 0 true) ⟨0, false⟩).get .a).failed = true := by decide

/-- A drum in a state, with the health of its encoders that the state names. -/
def drumIn (x : DrumState) : Drum := { fit.drums.drum.one with
  state := x
  enc := ⟨⟨0, decide (x = .singleB ∨ x = .lost)⟩, ⟨0, decide (x = .singleA ∨ x = .lost)⟩⟩ }

theorem drumIn_fits (x : DrumState) : (drumIn x).Fits := by cases x <;> simp [drumIn, Drum.Fits] <;> decide

theorem witness_FailuresChangeTheDrumAtOnce :
    ∀ x, (drumIn x).Fits ∧ (drumIn x).state = x ∧ { fit with drums := { fit.drums with
      drum := fit.drums.drum.set .one (drumIn x) } }.drums.drum.one = drumIn x := fun x => ⟨drumIn_fits x, rfl, rfl⟩

/-- Counts 8 apart agree, 9 to 64 apart disagree, 65 apart diverge, with the default bands. -/
theorem witness_DrumSamplesMeasureBothDrums :
    [(8 : Word), 9, 64, 65].map (fun c => (mag (c - 0).toInt ≤ fit.sup.agree : Bool)) = [true, false, false, false] ∧
    [(8 : Word), 9, 64, 65].map (fun c => (mag (c - 0).toInt ≤ fit.sup.diverge : Bool)) = [true, true, true, false] ∧
    fit.drums.drum.one.state = .dual ∧ (drumIn .lost).state = .lost := by decide

/-- The entry to DIVERGED, and the setting of the advisory. -/
theorem witness_DrumSamplesMeasureBothDrums_votes :
    [(8 : Word), 9, 64, 65].map (fun n => sampled { fit with drums := { fit.drums with drum := { fit.drums.drum with
        one := { fit.drums.drum.one with enc := ⟨⟨n, false⟩, ⟨0, false⟩⟩ } } } } fun t =>
          (t.trip.causes, t.drums.drum.one.disagree)) =
      [some ([1], false), some ([1, 32], true), some ([1, 32], true), some ([1, 10], false)] := by decide +kernel

/-- Side 1 stands at its limits at 0 and one millimetre beyond them; its wind to a station passes the overtravel band of
500 mm by one millimetre. -/
theorem witness_DrumSamplesFormTheDepths :
    listening.table.active = none ∧ fit.table.active = some shaftTable ∧
    [-20000, -20001, 3200000, 3200001].map (fun k => sampled
        { fit with depth := { fit.depth with one := { fit.depth.one with K := k } } } (·.env.limit.one)) =
      [some .inside, some .beyondTop, some .inside, some .beyondBottom] ∧
    [100500, 100501].map (fun k => sampled
        { winding .creep with depth := { fit.depth with one := { fit.depth.one with K := k } } } (·.latched .s2)) =
      [some false, some true] := ⟨rfl, rfl, by decide +kernel, by decide +kernel⟩

/-- The side passes its expected marker at 45,000 mm, its last one ahead, by 250 and by 251 mm; a search distance of 60,000
mm is travelled but for one millimetre, and whole. -/
theorem witness_LocksFollowTheDrumSamples :
    let track (t : Track) : State := { fit with depth := { fit.depth with one := t } }
    let t := { fit.depth.one with next := some 2, lastDir := some .descending }
    (track t).expected .one = some ⟨2, 2, .one, 45000, 45000⟩ ∧
    (track t).expectBeyond .one .descending 45000 = none ∧ (0 : Int) < fit.sup.searchDistance ∧
    [45250, 45251].map (fun k => sampled (track { t with K := k }) (·.depth.one.lock)) =
      [some .locked, some .suspect] ∧
    sampled (track { t with K := 45251, lock := .suspect, rejects := 2 }) (·.depth.one.lock) = some .lost ∧
    [59999, 60000].map (fun p => sampled (track { t with lock := .searching, lastPayout := p }) (·.depth.one.searches)) =
      [some 0, some 1] ∧
    [49, 50].map (fun v => sampled (running v (track { t with lock := .unreferenced, next := none })) (·.depth.one.lock)) =
      [some .unreferenced, some .searching] := by decide +kernel

/-- Markers at 10,000, 10,100 and 10,200 mm: from the capture band of 250 mm beyond the second, and one millimetre past it, to
as much past the third, a LOCKED side misses one, two and three in one sample. -/
theorem witness_LocksFollowTheDrumSamples_misses :
    let markers : List Marker := [⟨1, 1, .one, 10000, 10000⟩, ⟨2, 2, .one, 10100, 10100⟩, ⟨3, 3, .one, 10200, 10200⟩]
    let s (K : Int) := marked markers { fit with depth := { fit.depth with
      one := { fit.depth.one with K := K, next := some 1, lastDir := some .descending } } }
    [10350, 10351, 10451].map (fun K => sampled (s K) fun t => (t.depth.one.lock, t.depth.one.rejects, t.depth.one.next)) =
      [some (.suspect, 1, some 2), some (.suspect, 2, some 3), some (.lost, 0, none)] := by decide +kernel

/-- A change of direction, from one sense to the other at 50 mm/s and from none, sets the next expected marker from the
depth; at 49 mm/s nothing changes. -/
theorem witness_LocksFollowTheDrumSamples_direction :
    let s (last : Option Dir) (v : Int) := running v { fit with depth := { fit.depth with
      one := { fit.depth.one with K := 10000, next := some 2, lastDir := last } } }
    [(some .descending, -50), (some .descending, -49), (none, 50), (some .descending, 50)].map (fun p =>
        sampled (s p.1 p.2) fun t => (t.depth.one.lastDir, t.depth.one.next, t.depth.one.lock)) =
      [some (some .ascending, some 1, .locked), some (some .descending, some 2, .locked),
       some (some .descending, some 2, .locked), some (some .descending, some 2, .locked)] := by decide +kernel

theorem witness_PermittedSpeedIsTheLeastTerm :
    (∃ t, exec .drumSample fit = .next t) ∧ fit.atEnvelope.wind.current = none ∧ fit.hasTable = true ∧
      listening.hasTable = false ∧ ∀ p, (winding p).hasTable = true ∧ (winding p).atEnvelope.wind.current =
        some (openWind p) ∧ ∃ t, exec .drumSample (winding p) = .next t :=
  ⟨⟨_, rfl⟩, by decide +kernel, rfl, rfl, fun p => ⟨rfl, by cases p <;> decide +kernel, ⟨_, rfl⟩⟩⟩

theorem witness_BrakingSpeedsNeverRoundUp :
    (18446744073709551615 : Nat) < 2 ^ 64 ∧
    (0 : Int) ≤ 3000 ∧ (20000 : Int) * 20000 + 2 * 3000 * max 4300000 0 < 2 ^ 64 ∧ (0 : Int) < 1 := by decide

theorem witness_OverspeedNeedsTwoSamples :
    (let s := { winding .running with
      drums := (descending .locked).drums
      env := { fit.env with overCount := ⟨0, 1, 0⟩, thr := ⟨299, 299, 300⟩ } }
    s.inPlay .one = true ∧ (s.env.thr.get .s2 < mag (s.speed .one) ∧ 1 ≤ s.env.overCount.get .s2) ∧
      (s.env.thr.get .s1 < mag (s.speed .one) ∧ s.env.overCount.get .s1 = 0) ∧
      ¬ s.env.thr.get .s3 < mag (s.speed .one)) ∧
    ∀ p, (winding p).hasTable = true ∧ (winding p).atEnvelope.phase = some p :=
  ⟨by decide, fun p => ⟨rfl, by cases p <;> decide +kernel⟩⟩

/-- Counts 116 and 117 of drum 1 are payouts of 99 and 100 mm, counts -351 and -352 payouts of -299 and -300 mm. -/
theorem witness_WindsFollowTheirLeadDrum :
    (∀ p, (winding p).atWind.wind.current = some (openWind p) ∧ (winding p).atWind.latched .s1 = false ∧
      (winding p).isProving = false) ∧
    [116, 117].map (fun n => sampled (turned n (winding .accepted)) (·.phase)) =
      [some (some .accepted), some (some .running)] ∧
    [-351, -352].map (fun n => sampled (turned n (winding .running)) (·.phase)) =
      [some (some .running), some (some .stopping)] ∧
    sampled (turned (-352) (winding .accepted)) (·.phase) = some none ∧
    ∀ p, ((openWind p).furthest - (openWind p).startPayout) * (openWind p).dir.sign < 100 := by
  refine ⟨fun p => ?_, by decide +kernel, by decide +kernel, by decide +kernel, fun p => by cases p <;> decide⟩
  cases p <;> decide +kernel

/-- Counts 176 and 177 of drum 1 are payouts of 150 and 151 mm, on the creep allowance and past it. -/
theorem witness_RestingDrumsAreWatched :
    (fit.atWind.wind.current = none ∧ fit.atWind.wind.unintended.one = false ∧
      (winding .running).atWind.wind.current ≠ none) ∧
    [176, 177].map (fun n => sampled (turned n { fit with drums := { fit.drums with
        drum := ⟨{ fit.drums.drum.one with restDue := false }, fit.drums.drum.two⟩ } }) (·.wind.unintended.one)) =
      [some false, some true] ∧
    [150, 151].map (fun h => sampled { fit with
        inputs := { fit.inputs with clutch := false }
        drums := { fit.drums with hold := some h } } (·.wind.creepFlag)) = [some false, some true] ∧
    [100, 101].map (fun x => sampled { fit with wind := { fit.wind with
        recovery := some ⟨some ⟨.descending, -x⟩, none⟩ } } (·.latched .s3)) = [some false, some true] ∧
    [100, 101].map (fun x => sampled { returning 0 with wind := { (returning 0).wind with
        recovery := some ⟨some ⟨.descending, -x⟩, none⟩ } } fun t => (t.latched .s3, t.phase)) =
      [some (false, some .accepted), some (true, none)] := by
  decide +kernel

theorem witness_LoadSamplesUpdateTheChannels :
    fit.rope.lastSeq ≠ some 0 ∧ { fit.rope with lastSeq := some 0 }.lastSeq = some 0 := by decide

theorem witness_LoadEvaluationsWeighBothSides :
    { fit.rope with frame := some 0 }.frame = some 0 ∧ fit.rope.frame ≠ some 0 ∧ fit.rope.lastSeq ≠ some 0 ∧
    fit.drums.sampled = false ∧ { fit.drums with sampled := true }.sampled = true := by decide

/-- Tensions of 11,000 and 9,000 N, and of 11,010 and 8,990 N, lie on the alarm limit of 100 per-mille and past it; 12,000
and 8,000 N, and 12,010 and 7,990 N, on the trip limit of 200 and past it. -/
theorem witness_RopesAreSupervised :
    let at' (a b : Half) (k : Nat) := match exec (.loadSample ⟨3, ⟨⟨some a, some b⟩, ⟨some 900, some 900⟩⟩⟩)
        { fit with
          drums := { fit.drums with sampled := true }
          rope := { fit.rope with side := { fit.rope.side with one := { fit.rope.side.one with alarms := k, trips := k } } } } with
      | .next t => (t.rope.side.one.balance, t.latched .s2)
      | _ => (true, true)
    fit.rope.lastSeq ≠ some 3 ∧ fit.hasTable = true ∧ { fit.rope with frame := some 0 }.frame = some 0 ∧
    at' 1100 900 3 = (false, false) ∧ at' 1101 899 3 = (true, false) ∧ at' 1101 899 2 = (false, false) ∧
    at' 1200 800 3 = (true, false) ∧ at' 1201 799 3 = (true, true) := by decide +kernel

theorem witness_HoldTimersEndInBad :
    (fit.loadChan .one .a).hold ≠ some 0 ∧ ({ fit.loadChan .one .a with hold := some 0 }).hold = some 0 ∧
    fit.wind.current = none := by decide

/-- A side in play with one channel BAD and the hold timer of the other at its end, over a MAN wind under way. -/
def losing (p : Phase) : State :=
  { winding p with
    wind := { fit.wind with current := some { openWind p with mode := .man } }
    rope := { fit.rope with side := { fit.rope.side with one := { fit.rope.side.one with
      bothBad := false
      chan := ⟨⟨.held, [], some 0, false⟩, ⟨.bad, [], none, true⟩⟩ } } } }

theorem witness_HoldTimersEndInBad_losing :
    ((losing .running).loadChan .one .a).hold = some 0 ∧ ((losing .running).loadChan .one .b).health = .bad ∧
    (losing .running).inPlay .one = true ∧ (losing .running).rope.loadLost = false ∧
    [Phase.accepted, .running, .creep, .stopping].map (fun p => match exec (.holdTimerExpiry .one .a) (losing p) with
      | .next t => some (t.phase, t.env.degrade.isSome, t.latched .s1)
      | _ => none) = [some (some .accepted, true, false), some (some .stopping, true, true),
        some (some .stopping, true, true), some (some .stopping, true, false)] := by decide +kernel

/-- The same found by an evaluation, and at the start of a MAN wind. -/
theorem witness_LoadEvaluationsWeighBothSides_losing :
    let bad : LoadChannel := ⟨.bad, [], none, true⟩
    let s := { losing .running with
      drums := { fit.drums with sampled := true }
      rope := { fit.rope with
        frame := some 0
        side := { fit.rope.side with one := { fit.rope.side.one with bothBad := false, chan := ⟨bad, bad⟩ } } } }
    s.rope.frame = some 0 ∧ s.drums.sampled = true ∧ s.rope.loadLost = false ∧
      (match exec .frameTimerExpiry s with
        | .next t => (t.rope.side.one.bothBad, t.phase)
        | _ => (false, none)) = (true, some .stopping) := by decide +kernel

theorem witness_WindsFollowTheirLeadDrum_losing :
    let s := turned 117 { losing .accepted with rope := { fit.rope with side := { fit.rope.side with
      one := { fit.rope.side.one with bothBad := true } } } }
    s.atWind.rope.loadLost = false ∧ sampled s (·.phase) = some (some .stopping) := by decide +kernel

/-- Residuals of 200 mm on a drum at payout 0, in each lock state; 200 is within the capture band. -/
theorem witness_MarkerEdgesCorrectTheDepth :
    listening.hasTable = false ∧ (fit.hasTable = true ∧ fit.stationary .one = true ∧ fit.stationary .two = true) ∧
    ∀ l, let s := descending l
      s.hasTable = true ∧ s.stationary .one = false ∧ s.drums.drum.one.state ≠ .lost ∧ s.arbitrates .one = false ∧
      candidate .descending 0 (s.markersOn .one 2) = some ⟨1, 2, .one, 200, 200⟩ ∧
      toMm (s.payoutOf .one s.drums.drum.one.formTheta) = 0 ∧ (s.sideData .one).hangOff = 0 ∧
      (s.depth.get .one).K = 0 ∧ (s.rope.side.get .one).stretch = 0 ∧ mag (200 - 0) ≤ s.sup.capture ∧
      s.depth.one.lock = l := by
  refine ⟨rfl, by decide, fun l => ?_⟩
  cases l <;> decide

/-- The expected marker of a side at rest, at 200 mm on line 2, is satisfied by an edge on that line and by no other. -/
theorem witness_MarkerEdgesCorrectTheDepth_rest :
    let s (last : Option Dir) := { fit with depth := { fit.depth with
      one := { fit.depth.one with next := some 1, lastDir := last } } }
    [(some Dir.descending, (2 : Fin 16)), (some .descending, 3), (some .ascending, 2)].map (fun p =>
        match exec (.markerEdge p.2) (s p.1) with
        | .next t => some (t.depth.one.next, t.depth.one.lock)
        | _ => none) = [some (some 2, .locked), some (some 1, .locked), some (none, .locked)] := by decide +kernel

/-- The entry to LOCKED ends the search; an accepted edge in LOCKED leaves it. -/
theorem witness_MarkerEdgesCorrectTheDepth_search :
    [Lock.aligning, .suspect, .locked].map (fun l =>
      let s := { descending l with
        depth := { fit.depth with
          one := { fit.depth.one with lock := l, travelled := 5, searches := 7, searchFlag := true } }
        trip := { fit.trip with active := [.referenceSearch .one] } }
      match exec (.markerEdge 2) s with
      | .next t => some (t.depth.one.travelled, t.depth.one.searches, t.depth.one.searchFlag, t.trip.active.length)
      | _ => none) =
      [some (0, 0, false, 0), some (0, 0, false, 0), some (5, 7, true, 1)] := by decide +kernel

/-- A correction that takes K to the authority of 1,500 mm, and one millimetre past it; its advisory and the counts of an
open wind. -/
theorem witness_MarkerEdgesCorrectTheDepth_clamp :
    [1400, 1401].map (fun K =>
      let s := running 300 { winding .running with depth := { fit.depth with one := { fit.depth.one with K := K } } }
      let markers := [⟨1, 2, .one, K + 100, K + 100⟩]
      match exec (.markerEdge 2) { s with table := { s.table with
          active := some { shaftTable with eff := { shaft with markers := markers } } } } with
      | .next t => some (t.depth.one.K, t.depth.one.limitFlag,
          t.wind.current.map fun w => (w.counts.one.accepted, w.counts.one.correction))
      | _ => none) = [some (1500, false, some (1, 100)), some (1500, true, some (1, 99))] := by decide +kernel

/-- An edge beyond the capture band of 250 mm by one millimetre, claimed by nobody; a line without a marker. -/
theorem witness_UnclaimedEdgesCountAgainstTheSide :
    ∀ l, let s := { descending l with depth := { (descending l).depth with
        one := { (descending l).depth.one with K := -51 } } }
      s.hasTable = true ∧ s.stationary .one = false ∧ s.drums.drum.one.state ≠ .lost ∧ s.arbitrates .one = false ∧
      s.sup.capture < mag (200 - (0 + 0 + s.depth.one.K + 0)) ∧ s.depth.one.lock = l ∧
      candidate .descending (-51) (s.markersOn .one 2) = some ⟨1, 2, .one, 200, 200⟩ ∧ s.markersOn .one 3 = [] ∧
      (((s.meetEdge .one 2).meetEdge .two 2).edgePart .two 2).claims = false ∧
      (((s.meetEdge .one 3).meetEdge .two 3).edgePart .two 3).isJudged = false := by
  intro l
  cases l <;> decide

/-- A drum in DIVERGED whose two counts put the side at depths of 0 and 256 mm, with a marker at 200 mm and K as given: the
second encoder is the closer one, and at K -306 mm it lies on the capture band, at K -307 mm beyond it. -/
def torn (K : Int) : State :=
  { descending .locked with
    drums := { fit.drums with drum := { fit.drums.drum with one := { fit.drums.drum.one with
      enc := ⟨⟨0, false⟩, ⟨300, false⟩⟩, state := .diverged, v := 300 } } }
    depth := { fit.depth with one := { fit.depth.one with K := K } } }

theorem witness_UnclaimedEdgesCountAgainstTheSide_torn :
    (torn 0).arbitrates .one = true ∧ (torn 0).drums.drum.one.Fits ∧
    toMm ((torn 0).payoutOf .one 0) = 0 ∧ toMm ((torn 0).payoutOf .one 300) = 256 ∧
    (∀ x ∈ [-306, -50, -307, -51], candidate .descending x ((torn 0).markersOn .one 2) =
      some ⟨1, 2, .one, 200, 200⟩) ∧
    mag (200 - (0 + 256 - 306 + 0)) ≤ (torn (-306)).sup.capture ∧
      (torn (-307)).sup.capture < mag (200 - (0 + 256 - 307 + 0)) := by
  refine ⟨by decide, ?_, by decide, by decide, by decide, by decide, by decide⟩
  unfold Drum.Fits
  decide

theorem witness_WiredInputsSettle :
    (fit.pins.clutch = true ∧ fit.pins.clutch ≠ false) ∧
    (fit.inputs.heldTimer ≠ some 0 ∧ fit.inputs.permissiveTimer ≠ some 0) ∧
    (let s := { fit with
        pins := { fit.pins with held := false, permissive := true, clutch := false }
        inputs := { fit.inputs with heldTimer := some 0, permissiveTimer := some 0, clutch := false } }
     s.inputs.heldTimer = some 0 ∧ s.pins.held ≠ s.inputs.held ∧ s.pins.held = false ∧ s.inputs.clutch = false ∧
       s.inputs.permissiveTimer = some 0 ∧ s.pins.permissive ≠ s.inputs.permissive) := by decide

theorem witness_ClutchChangesActOnTheWind :
    fit.inputs.clutchTimer ≠ some 0 ∧
    ∀ p, let s := { winding p with
        pins := { fit.pins with clutch := false }, inputs := { fit.inputs with clutchTimer := some 0 } }
      s.inputs.clutchTimer = some 0 ∧ s.pins.clutch ≠ s.inputs.clutch ∧ s.bothStationary = true ∧ s.phase = some p ∧
        { s with drums := (descending .locked).drums }.bothStationary = false :=
  ⟨by decide, fun p => by cases p <;> decide⟩

/-- Side 2 coming into play with its drum not DUAL, over a wind that goes on stopping. -/
theorem witness_ClutchChangesActOnTheWind_degrade :
    let s := { winding .stopping with
      inputs := { fit.inputs with clutch := false, clutchTimer := some 0 }
      drums := { fit.drums with drum := { fit.drums.drum with two := { fit.drums.drum.two with state := .singleA } } } }
    s.pins.clutch = true ∧ (match exec .clutchSettledChange s with
      | .next t => (t.windOpen, t.env.degrade.isSome)
      | _ => (false, false)) = (true, true) := by decide +kernel

theorem witness_RestartProperResetsTheBlocks :
    restarting.link.tx = some (.reply ⟨0x0F, 1, .done, []⟩) ∧ restarting.link.restartDue = true ∧
    restarting.pins.monitors = ⟨⟨true, true⟩, ⟨true, true⟩⟩ ∧
    { restarting.pins with monitors := ⟨⟨false, false⟩, ⟨true, true⟩⟩ }.monitors.get .one = ⟨false, false⟩ := by decide

theorem witness_PowerOnStartsFromTheStore : Pins.quiet.monitors = ⟨⟨true, true⟩, ⟨true, true⟩⟩ := rfl

theorem witness_IdleStepIsOneMillisecond : (winding .running).pending = [] := rfl

theorem witness_StepsKeepTheBlocksCoherent : (winding .running).Coherent ∧ ∃ t, step (winding .running) = .next t :=
  ⟨winding_coherent _, _, rfl⟩

theorem witness_StepsKeepTheCapacities :
    fit.WithinCapacity ∧ fit.TransmitterServes ∧ ∃ t, step fit = .next t :=
  ⟨⟨by decide, by decide, by decide⟩, fun _ _ => ⟨rfl, rfl⟩, _, rfl⟩

theorem witness_StepsKeepTheTracksBounded : fit.TracksBounded ∧ ∃ t, step fit = .next t := by
  refine ⟨?_, _, rfl⟩
  unfold State.TracksBounded Track.Bounded
  decide

theorem witness_StepsKeepTheDrumsFitting : fit.DrumsFit ∧ ∃ t, step fit = .next t := by
  refine ⟨?_, _, rfl⟩
  unfold State.DrumsFit Drum.Fits
  decide

theorem witness_OnlyItsOwnCommandGrants :
    (∃ t, exec (.tripReset 3 [3, 1]) overwound = .next t ∧ overwound.latched .s3 = true ∧ t.latched .s3 = false) ∧
    (∃ t, exec (.wind 9 [1, 3, 1]) fit = .next t ∧ fit.wind.current = none ∧ t.wind.current ≠ none ∧
      t.wind.number ≠ fit.wind.number) ∧
    ∃ t, exec (.echoReturn 9 [0x80, 0]) (provingIn (.echo 0x8000 0 true (some 9))) = .next t ∧
      t.proof.readiness = .proven :=
  ⟨⟨_, rfl, by decide +kernel⟩, ⟨_, rfl, by decide +kernel⟩, ⟨_, rfl, by decide +kernel⟩⟩

end Sys2Proof.Tests
end

section
/-! The shaft table and its stored records: TABLE-OPEN (R10) and READ-TABLE (R16). -/

namespace Sys2Proof.Machine

/-! ## The answer to a request of a fixed length -/

section
variable {c : Instr} {s : State} {code tag : Byte} {body : List Byte} {n : Nat} {owner : State → Owned}

/-- A request of the right length answers what its owner makes of the arrival. -/
theorem State.request_answers {P : State → Prop} {o : Owned}
    (hc : exec c s = .next (s.request code tag n body owner)) (hr : s.ready) (hn : body.length = n)
    (hk : keepsLoad code.toNat = false) (ho : owner (s.frameArrives code.toNat) = o) (hP : P (o.finish code tag)) :
    Answers c s P :=
  ⟨_, hc, by rwa [State.request_owner hr hn hk, ho]⟩

/-- A request whose owner answers and leaves the state it was handed. -/
theorem State.request_onlyReplied {why : Result} {reply : List Byte}
    (hc : exec c s = .next (s.request code tag n body owner)) (hr : s.ready) (hn : body.length = n)
    (hk : keepsLoad code.toNat = false)
    (ho : owner (s.frameArrives code.toNat) = ⟨s.frameArrives code.toNat, why, reply⟩) :
    Answers c s fun t => s.OnlyReplied t ⟨code, tag, why, reply⟩ :=
  State.request_answers hc hr hn hk ho (Owned.onlyReplied hk rfl)

end

/-- The arrival of a request leaves the active table. -/
theorem State.frameArrives_active (s : State) (n : Nat) (h : keepsLoad n = false) :
    (s.frameArrives n).table.active = s.table.active := by
  rw [State.frameArrives_table s n h]

/-! ## READ-TABLE (R16) -/

theorem exec_readTable (tag : Byte) (body : List Byte) (s : State) :
    exec (.readTable tag body) s = .next (s.request 0x0B tag 1 body fun x => x.ownReadTable body) := rfl

theorem State.ownReadTable_of_record {s : State} {body : List Byte} {a : ActiveTable} {r : RawRecord}
    (ha : s.table.active = some a) (hr : a.records[byteAt body 0]? = some r) :
    s.ownReadTable body = s.done (tableBody a (byteAt body 0) r) := by
  simp only [State.ownReadTable, ha, hr]

theorem State.ownReadTable_of_beyond {s : State} {body : List Byte}
    (h : ∀ a, s.table.active = some a → a.records.length ≤ byteAt body 0) :
    s.ownReadTable body = s.deny .empty := by
  cases ha : s.table.active with
  | none => simp only [State.ownReadTable, ha]
  | some a =>
    have hnone : a.records[byteAt body 0]? = none := List.getElem?_eq_none (h a ha)
    simp only [State.ownReadTable, ha, hnone]

/-- The body of the reply carries the record's own clamp count. -/
theorem tableBody_of_clamps {a : ActiveTable} {i n : Nat} (r : RawRecord) (h : a.clamps[i]? = some n) :
    tableBody a i r = [byteOf a.records.length] ++ be16 a.check ++ [r.kind, byteOf n] ++ r.body := by
  rw [tableBody, List.getD_eq_getElem?_getD, h, Option.getD_some]

/-- Settles O13: the owner sees the active table as it stood before the arrival, and its answer leaves the state. -/
theorem readTableReturnsTheRecordAsLoaded : Obligations.ReadTableReturnsTheRecordAsLoaded := by
  intro tag i s hs
  have hactive : (s.frameArrives 0x0B).table.active = s.table.active := State.frameArrives_active s _ rfl
  refine ⟨fun a ha r hr n hn => ?_, fun hbeyond => ?_⟩
  · refine State.request_onlyReplied (exec_readTable tag [i] s) hs rfl rfl ?_
    exact (State.ownReadTable_of_record (body := [i]) (hactive.trans ha) hr).trans
      (congrArg (State.done _) (tableBody_of_clamps r hn))
  · refine State.request_onlyReplied (exec_readTable tag [i] s) hs rfl rfl (State.ownReadTable_of_beyond ?_)
    intro a ha
    rw [hactive.symm.trans ha] at hbeyond
    exact of_decide_eq_true hbeyond

/-! ## TABLE-OPEN (R10) -/

theorem exec_tableOpen (tag : Byte) (body : List Byte) (s : State) :
    exec (.tableOpen tag body) s = .next (s.request 0x08 tag 3 body fun x => x.ownTableOpen body) := rfl

/-- The checks of TABLE-OPEN as a list in their order. -/
theorem State.openRefusal_eq_firstRefusal (s : State) (declared : Nat) :
    s.openRefusal declared = firstRefusal
      [(decide (declared < 1 ∨ Config.maxRecords < declared), .range), (s.windOpen, .busy), (s.isProving, .busy),
        (!s.bothStationary, .moving)] := by
  simp only [State.openRefusal, firstRefusal, decide_eq_true_eq]

/-- The checks read the wind, the proof and the drums, which no arrival touches. -/
theorem State.frameArrives_openRefusal (s : State) (n declared : Nat) (h : keepsLoad n = false) :
    (s.frameArrives n).openRefusal declared = s.openRefusal declared := by
  rw [State.frameArrives_eq s n h]; rfl

theorem State.ownTableOpen_of_refusal {s : State} {body : List Byte} {why : Result}
    (h : s.openRefusal (byteAt body 0) = some why) : s.ownTableOpen body = s.deny why := by
  simp only [State.ownTableOpen, h]

/-- Two bytes read as a 16-bit value, most significant first (R171). -/
theorem halfAt_eq_append (b hi lo : Byte) (rest : List Byte) : halfAt (b :: hi :: lo :: rest) 1 = hi ++ lo := by
  apply BitVec.eq_of_toNat_eq
  have hhi := hi.isLt
  have hlo := lo.isLt
  calc (halfAt (b :: hi :: lo :: rest) 1).toNat
      = (hi.toNat * 256 + lo.toNat) % 2 ^ 16 := rfl
    _ = hi.toNat <<< 8 + lo.toNat := by rw [Nat.shiftLeft_eq]; omega
    _ = (hi ++ lo).toNat := by rw [BitVec.toNat_append, Nat.shiftLeft_add_eq_or_of_lt hlo]

theorem State.ownTableOpen_of_passed {s : State} {count hi lo : Byte} (h : s.openRefusal count.toNat = none) :
    s.ownTableOpen [count, hi, lo] = (s.openLoad count.toNat (hi ++ lo)).done [] := by
  have hcount : byteAt [count, hi, lo] 0 = count.toNat := rfl
  simp only [State.ownTableOpen, hcount, h, halfAt_eq_append]

/-- The transmitter's choice looks at no load. -/
theorem LinkPort.serve_setLoad (p : LinkPort) (l : Option TableLoad) :
    LinkPort.serve { p with load := l } = { p.serve with load := l } := by
  cases p
  dsimp only [LinkPort.serve]
  split <;> rfl

/-- Whether a request has been served does not turn on the load that is open after it. -/
theorem State.Served.of_setLoad {s t u : State} {r : Reply} {bodies : List ReportBody} {l : Option TableLoad}
    (hu : s.Served u r bodies) (ht : t.link = { u.link with load := l }) : s.Served t r bodies := by
  unfold State.Served State.Answered State.Reported State.repliesOut State.reportsOut at *
  rw [ht]
  exact hu

/-- The reply to an opened load: that of an owner that leaves the port alone, with the load open. -/
theorem State.openLoad_finish_link (s : State) (declared : Nat) (check : Half) (code tag : Byte) (body : List Byte) :
    (((s.openLoad declared check).done body).finish code tag).link =
      { ((s.done body).finish code tag).link with load := some ⟨declared, check, 0⟩ } := by
  rw [Owned.finish_link, Owned.finish_link, ← LinkPort.serve_setLoad]; rfl

/-- A load opened over the arrival of its request: the request is served, and only the port and the staged table
differ. -/
theorem State.openLoad_served (s : State) (declared : Nat) (check : Half) {code tag : Byte}
    (hk : keepsLoad code.toNat = false) :
    let t := (((s.frameArrives code.toNat).openLoad declared check).done []).finish code tag
    s.Served t ⟨code, tag, .done, []⟩ [] ∧ t.link.load = some ⟨declared, check, 0⟩ ∧
      t.link.restartDue = s.link.restartDue ∧
      t = { s with link := t.link, table := { s.table with staged := [] } } := by
  intro t
  have hlink := (s.frameArrives code.toNat).openLoad_finish_link declared check code tag []
  obtain ⟨hserved, ⟨-, hdue⟩, -⟩ := Owned.onlyReplied (s := s) (o := (s.frameArrives code.toNat).done [])
    (tag := tag) hk rfl
  refine ⟨hserved.of_setLoad hlink, congrArg LinkPort.load hlink, (congrArg LinkPort.restartDue hlink).trans hdue, ?_⟩
  calc t = { (s.frameArrives code.toNat).openLoad declared check with link := t.link } := Owned.finish_eq _ code tag
    _ = { s with link := t.link, table := { s.table with staged := [] } } := by
      rw [State.frameArrives_eq s _ hk]; rfl

/-- Settles O28: the four checks see what stood before the arrival; passed, they open the load over it. -/
theorem tableOpenIsJudged : Obligations.TableOpenIsJudged := by
  intro tag count hi lo s hs
  have hjudged : (s.frameArrives 0x08).openRefusal count.toNat = _ :=
    (s.frameArrives_openRefusal 0x08 count.toNat rfl).trans (s.openRefusal_eq_firstRefusal count.toNat)
  refine ⟨fun why hwhy => ?_, fun hpassed => ?_⟩
  · exact State.request_onlyReplied (exec_tableOpen tag [count, hi, lo] s) hs rfl rfl
      (State.ownTableOpen_of_refusal (hjudged.trans hwhy))
  · obtain ⟨hserved, hload, hdue, heq⟩ :=
      s.openLoad_served count.toNat (hi ++ lo) (code := 0x08) (tag := tag) rfl
    exact State.request_answers (exec_tableOpen tag [count, hi, lo] s) hs rfl rfl
      (State.ownTableOpen_of_passed (hjudged.trans hpassed)) ⟨hserved, hload, hdue.trans hs.2, heq⟩

end Sys2Proof.Machine
end

section
namespace Sys2Proof

/-- A value for each stage is known by what it gives for each. -/
theorem PerStage.ext_get {α : Type} {p q : PerStage α} (h : ∀ k, p.get k = q.get k) : p = q := by
  cases p; cases q
  congr
  · exact h .s1
  · exact h .s2
  · exact h .s3

end Sys2Proof
end

section
/-! What a served request answers (R164, R167), and a report as an update of the link port (R173, R175). -/

namespace Sys2Proof.Machine

/-! ## The answer to a served request -/

/-- A claim about what a command answers follows from a stronger one. -/
theorem Answers.imp {c : Instr} {s : State} {P Q : State → Prop} (h : Answers c s P) (hPQ : ∀ t, P t → Q t) :
    Answers c s Q :=
  let ⟨t, ht, hP⟩ := h
  ⟨t, ht, hPQ t hP⟩

/-- The state the owner of a request is handed, over the port `p` that the arrival leaves (R12, R164). -/
def State.arrived (s : State) (p : LinkPort) : State :=
  { s with link := p, table := { s.table with staged := s.stagedLeft } }

theorem State.frameArrives_eq_arrived (s : State) {n : Nat} (h : keepsLoad n = false) :
    ∃ p, s.frameArrives n = s.arrived p := ⟨_, s.frameArrives_eq n h⟩

section
variable {c : Instr} {s u : State} {p : LinkPort} {code tag : Byte} {body reply : List Byte} {n : Nat}
  {owner : State → Owned} {bodies : List ReportBody}

/-- A request that its owner refuses, whatever port the arrival leaves. -/
theorem State.request_denied {why : Result} (hc : exec c s = .next (s.request code tag n body owner)) (hr : s.ready)
    (hn : body.length = n) (hk : keepsLoad code.toNat = false)
    (ho : ∀ p, owner (s.arrived p) = (s.arrived p).deny why) :
    Answers c s fun t => s.OnlyReplied t ⟨code, tag, why, []⟩ :=
  State.request_onlyReplied hc hr hn hk (let ⟨p, hp⟩ := s.frameArrives_eq_arrived hk; hp ▸ ho p)

/-- A request whose owner answers DONE out of a state `u`, with some reports created on the port that the arrival has left:
it is served, and every block but the link port is left as in `u`. -/
theorem State.request_served (hc : exec c s = .next (s.request code tag n body owner)) (hr : s.ready)
    (hn : body.length = n) (hk : keepsLoad code.toNat = false) (hp : s.frameArrives code.toNat = s.arrived p)
    (ho : owner (s.arrived p) = u.done reply) (hu : u.link = p.pushAll (bodies.map s.stamped)) :
    Answers c s fun t =>
      s.Served t ⟨code, tag, .done, reply⟩ bodies ∧ s.PortKept t ∧ t = { u with link := t.link } := by
  have hlink : (u.done reply).state.link = (s.frameArrives code.toNat).link.pushAll (bodies.map s.stamped) := by
    rw [hp]; exact hu
  rw [← hp] at ho
  exact State.request_answers hc hr hn hk ho
    ⟨Owned.served hk hlink, Owned.portKept hk hlink, Owned.finish_eq _ code tag⟩

end

/-! ## One report -/

/-- A report touches the link port alone. -/
theorem State.report_eq (s : State) (b : ReportBody) :
    s.report b = { s with link := s.link.push (s.stamped b) } := by
  unfold State.report LinkPort.push State.stamped
  split <;> rfl

/-- A report created at the same time stamp is the same report (R175). -/
theorem State.stamped_congr {s t : State} (h : t.clock = s.clock) : t.stamped = s.stamped := by
  unfold State.stamped
  rw [h]

end Sys2Proof.Machine
end

section
/-! The fault record: the latches with their channels (R131, R132), and a raise without its hand-over (R134, R136). -/

namespace Sys2Proof.Machine

/-! ## The channels follow the latches (R131, R132) -/

/-- What the work on the output channels leaves of the trip unit: the latches, the cause set and the standing LIMITs. -/
structure ChannelWork (s t : State) : Prop where
  latch : t.trip.latch = s.trip.latch
  causes : t.trip.causes = s.trip.causes
  limits : t.trip.active.filter Cause.isLimit = s.trip.active.filter Cause.isLimit

theorem ChannelWork.rfl {s : State} : ChannelWork s s := ⟨.refl _, .refl _, .refl _⟩

theorem ChannelWork.trans {s t u : State} (h : ChannelWork s t) (g : ChannelWork t u) : ChannelWork s u :=
  ⟨g.latch.trans h.latch, g.causes.trans h.causes, g.limits.trans h.limits⟩

theorem channelWork_setChannel (s : State) (k : Stage) (c : Chan) (x : OutChannel) :
    ChannelWork s (s.setChannel k c x) := ⟨rfl, rfl, rfl⟩

/-- Only a TRIP PATH leaves the active set by a comparison, never a LIMIT. -/
theorem channelWork_dropPath (s : State) (k : Stage) (c : Chan) :
    ChannelWork s (s.dropActive fun x => x = .tripPath k c) := by
  refine ⟨rfl, rfl, ?_⟩
  simp only [State.dropActive, State.setTrip, List.filter_filter]
  refine List.filter_congr fun x _ => ?_
  cases x <;> simp [Cause.isLimit]

theorem channelWork_compareChannel (s : State) (k : Stage) (c : Chan) : ChannelWork s (s.compareChannel k c) := by
  unfold State.compareChannel
  split
  · exact .rfl
  · split
    · exact (channelWork_setChannel ..).trans (channelWork_dropPath ..)
    · split
      · exact channelWork_setChannel ..
      · exact .rfl

theorem channelWork_command (s : State) (k : Stage) (c : Chan) (e : Bool) : ChannelWork s (s.command k c e) := by
  unfold State.command
  split
  · exact .rfl
  · exact (channelWork_setChannel ..).trans (channelWork_compareChannel ..)

theorem channelWork_followLatch (s : State) (k : Stage) : ChannelWork s (s.followLatch k) := by
  unfold State.followLatch
  split
  · exact .rfl
  · exact (channelWork_command ..).trans (channelWork_command ..)

/-! ## A raise without its hand-over (R134) -/

/-- A list of stages latched with one cause, each with its channels following. -/
def State.latchAll (s : State) (c : Cause) (ks : List Stage) : State :=
  ks.foldl (fun x k => x.setLatch k (.latched c)) s

/-- Those stages hold the cause, the others their latch; cause set and standing LIMITs are as they were. -/
theorem State.latchAll_trip (c : Cause) (ks : List Stage) (s : State) :
    (∀ k, (s.latchAll c ks).trip.latch.get k = if k ∈ ks then .latched c else s.trip.latch.get k) ∧
      (s.latchAll c ks).trip.causes = s.trip.causes ∧
      (s.latchAll c ks).trip.active.filter Cause.isLimit = s.trip.active.filter Cause.isLimit := by
  induction ks generalizing s with
  | nil => exact ⟨fun _ => rfl, rfl, rfl⟩
  | cons j ks ih =>
    obtain ⟨hlatch, hcauses, hlimits⟩ := ih (s.setLatch j (.latched c))
    have hwork := channelWork_followLatch (s.setTrip { s.trip with latch := s.trip.latch.set j (.latched c) }) j
    refine ⟨fun k => (hlatch k).trans ?_, hcauses.trans hwork.causes, hlimits.trans hwork.limits⟩
    have hset : (s.setLatch j (.latched c)).trip.latch = s.trip.latch.set j (.latched c) := hwork.latch
    rw [hset]
    by_cases hkj : k = j
    · subst hkj; simp
    · simp [PerStage.get_set_ne _ _ _ _ hkj, hkj]

/-- The reports of several newly latched stages, one after the other. -/
theorem State.reportLatches_link (c : Cause) (ks : List Stage) (s : State) :
    (ks.foldl (State.reportLatch c) s).link =
      s.link.pushAll ((ks.map fun k => .tripLatch k c s.latches).map s.stamped) := by
  induction ks generalizing s with
  | nil => rfl
  | cons k ks ih =>
    rw [List.foldl_cons, ih]
    simp only [State.reportLatch, State.report_eq]
    rfl

theorem State.mem_newlyLatched {s : State} {c : Cause} {k : Stage} :
    k ∈ s.newlyLatched c ↔ c.reaches k = true ∧ s.latched k = false := by
  cases k <;> simp [State.newlyLatched]

/-- The capture is offered a raise without touching the rest of the fault record. -/
theorem State.offerCapture_trip (s : State) (c : Cause) :
    (s.offerCapture c).trip = { s.trip with capture := (s.offerCapture c).trip.capture } := by
  unfold State.offerCapture
  split
  · rfl
  · split <;> rfl

/-- A raise noted in the cause set, and a condition in the active set (R134 parts 1 and 2, R136). -/
def State.noted (s : State) (c : Cause) : State := if c.isCondition then (s.addCause c).addActive c else s.addCause c

theorem State.noted_latch (s : State) (c : Cause) : (s.noted c).trip.latch = s.trip.latch := by
  unfold State.noted State.addActive
  split
  · split <;> rfl
  · rfl

theorem State.noted_causes (s : State) (c : Cause) : (s.noted c).trip.causes = insertCode c.code s.trip.causes := by
  unfold State.noted State.addActive
  split
  · split <;> rfl
  · rfl

theorem State.noted_link (s : State) (c : Cause) : (s.noted c).link = s.link := by
  unfold State.noted
  split <;> simp only [State.addActive_link, State.addCause_link]

theorem State.noted_clock (s : State) (c : Cause) : (s.noted c).clock = s.clock := by
  unfold State.noted
  split <;> simp only [State.addActive_clock, State.addCause_clock]

/-- A LIMIT that stands already joins nothing. -/
theorem State.noted_active_of_standing {s : State} {c : Cause} (hc : c.isLimit = true) (h : c ∈ s.trip.active) :
    (s.noted c).trip.active = s.trip.active := by
  cases c with
  | limit d e =>
    have hany : (s.addCause (.limit d e)).trip.active.any (sameEntry (.limit d e)) = true :=
      List.any_eq_true.mpr ⟨_, h, decide_eq_true rfl⟩
    unfold State.noted State.addActive
    rw [if_pos hany, ite_self]
    rfl
  | _ => contradiction

/-- A raise up to its offer to the capture: noted, its stages latched, and each of them reported (R134). -/
def State.latchedBy (s : State) (c : Cause) : State :=
  (s.newlyLatched c).foldl (State.reportLatch c) ((s.noted c).latchAll c (s.newlyLatched c))

theorem State.raiseRecord_eq (s : State) (c : Cause) :
    s.raiseRecord c = if c.kind = .administrative then s.latchedBy c else (s.latchedBy c).offerCapture c := rfl

/-- What a raise makes of latches, cause set and active set is what stands before its offer to the capture. -/
theorem State.raiseRecord_trip (s : State) (c : Cause) :
    (s.raiseRecord c).trip = { ((s.noted c).latchAll c (s.newlyLatched c)).trip with
      capture := (s.raiseRecord c).trip.capture } := by
  have hlatched : (s.latchedBy c).trip = ((s.noted c).latchAll c (s.newlyLatched c)).trip :=
    State.reportLatches_trip ..
  rw [State.raiseRecord_eq]
  split
  · rw [hlatched]
  · rw [State.offerCapture_trip, hlatched]

/-- A raise latches the stages it reaches that were clear, and leaves the first cause of the others (R134). -/
theorem State.raiseRecord_latch (s : State) (c : Cause) (k : Stage) :
    (s.raiseRecord c).trip.latch.get k =
      if k ∈ s.newlyLatched c then .latched c else s.trip.latch.get k := by
  obtain ⟨hlatch, -, -⟩ := State.latchAll_trip c (s.newlyLatched c) (s.noted c)
  rw [State.raiseRecord_trip, ← State.noted_latch s c]
  exact hlatch k

theorem State.raiseRecord_causes (s : State) (c : Cause) :
    (s.raiseRecord c).trip.causes = insertCode c.code s.trip.causes := by
  obtain ⟨-, hcauses, -⟩ := State.latchAll_trip c (s.newlyLatched c) (s.noted c)
  rw [State.raiseRecord_trip, ← State.noted_causes s c]
  exact hcauses

/-- The raise of a LIMIT that stands changes no LIMIT of the active set (R143). -/
theorem State.raiseRecord_limits_of_standing {s : State} {c : Cause} (hc : c.isLimit = true) (h : c ∈ s.trip.active) :
    (s.raiseRecord c).trip.active.filter Cause.isLimit = s.trip.active.filter Cause.isLimit := by
  obtain ⟨-, -, hlimits⟩ := State.latchAll_trip c (s.newlyLatched c) (s.noted c)
  rw [State.raiseRecord_trip, ← State.noted_active_of_standing hc h]
  exact hlimits

/-- A raise creates one TRIP report for each stage newly latched, with the latches after it (R134 part 4). -/
theorem State.raiseRecord_link (s : State) (c : Cause) :
    (s.raiseRecord c).link = s.link.pushAll
      (((s.newlyLatched c).map fun k => .tripLatch k c (s.raiseRecord c).latches).map s.stamped) := by
  have hlatch : (s.raiseRecord c).trip.latch = ((s.noted c).latchAll c (s.newlyLatched c)).trip.latch := by
    rw [State.raiseRecord_trip]
  have hlatches : (s.raiseRecord c).latches = ((s.noted c).latchAll c (s.newlyLatched c)).latches := by
    simp only [State.latches, State.latched, hlatch]
  have hrest : (s.raiseRecord c).link = (s.latchedBy c).link := by
    rw [State.raiseRecord_eq]
    split
    · rfl
    · exact State.offerCapture_link ..
  have hstamped : ((s.noted c).latchAll c (s.newlyLatched c)).stamped = s.stamped :=
    State.stamped_congr ((State.setLatches_clock ..).trans (s.noted_clock c))
  have hlink : ((s.noted c).latchAll c (s.newlyLatched c)).link = s.link :=
    (State.setLatches_link ..).trans (s.noted_link c)
  rw [hrest, hlatches, ← hstamped, ← hlink]
  exact State.reportLatches_link ..

theorem mem_insertCode {m n : Nat} {l : List Nat} : m ∈ insertCode n l ↔ m = n ∨ m ∈ l := by
  induction l with
  | nil => simp [insertCode]
  | cons x l ih =>
    unfold insertCode
    split
    · exact List.mem_cons
    · split
      next heq => rw [List.mem_cons, heq, or_self_left]
      next => rw [List.mem_cons, ih, List.mem_cons]; exact or_left_comm

end Sys2Proof.Machine
end

section
/-! The end of recovery (R126, R143), the closure of a wind (R117) and its stopping (R119). -/

namespace Sys2Proof.Machine

/-! ## The end of recovery (R126, R143) -/

/-- What a raise of a standing LIMIT changes with every stage latched already: it joins the cause set, and may be offered
to the capture. -/
structure RaisedInVain (s t : State) : Prop where
  link : t.link = s.link
  latch : t.trip.latch = s.trip.latch
  causes : ∀ n ∈ s.trip.causes, n ∈ t.trip.causes
  limits : t.trip.active.filter Cause.isLimit = s.trip.active.filter Cause.isLimit

theorem State.raiseRecord_in_vain {s : State} {c : Cause} (hall : ∀ k, s.latched k = true) (hc : c.isLimit = true)
    (h : c ∈ s.trip.active) : RaisedInVain s (s.raiseRecord c) := by
  have hfresh : s.newlyLatched c = [] :=
    List.eq_nil_iff_forall_not_mem.mpr fun k hk => by simp [State.mem_newlyLatched, hall k] at hk
  refine ⟨?_, PerStage.ext_get fun k => ?_, fun n hn => ?_, State.raiseRecord_limits_of_standing hc h⟩
  · rw [State.raiseRecord_link, hfresh]; rfl
  · simp [State.raiseRecord_latch, hfresh]
  · rw [State.raiseRecord_causes]; exact mem_insertCode.mpr (.inr hn)

/-- Whether every one of these causes is a LIMIT that stands. -/
def State.Standing (s : State) (l : List Cause) : Prop := ∀ c ∈ l, c ∈ s.trip.active.filter Cause.isLimit

theorem State.reraise_in_vain (l : List Cause) (s : State) (hall : ∀ k, s.latched k = true) (hl : s.Standing l) :
    RaisedInVain s (l.foldl State.raiseRecord s) := by
  induction l generalizing s with
  | nil => exact ⟨rfl, rfl, fun _ h => h, rfl⟩
  | cons c l ih =>
    obtain ⟨hactive, hc⟩ := List.mem_filter.mp (hl c List.mem_cons_self)
    have hfirst := State.raiseRecord_in_vain hall hc hactive
    have hrest := ih (s.raiseRecord c) (fun k => by simpa only [State.latched, hfirst.latch] using hall k)
      (fun x hx => hfirst.limits ▸ hl x (List.mem_cons_of_mem _ hx))
    exact ⟨hrest.link.trans hfirst.link, hrest.latch.trans hfirst.latch,
      fun n hn => hrest.causes n (hfirst.causes n hn), hrest.limits.trans hfirst.limits⟩

/-- A LIMIT is raised at stage 3 and reaches every stage (R133). -/
theorem Cause.reaches_of_isLimit {c : Cause} (hc : c.isLimit = true) (k : Stage) : c.reaches k = true := by
  cases c with
  | limit d e => cases k <;> rfl
  | _ => contradiction

theorem Cause.code_of_isLimit {c : Cause} (hc : c.isLimit = true) : c.code = 4 := by
  cases c with
  | limit d e => rfl
  | _ => contradiction

section
variable {s : State} {c : Cause} (hc : c.isLimit = true)
include hc

theorem State.newlyLatched_of_isLimit :
    s.newlyLatched c = [Stage.s3, .s2, .s1].filter fun k => !s.latched k := by
  simp only [State.newlyLatched, Cause.reaches_of_isLimit hc, Bool.true_and]

theorem State.raiseRecord_latch_of_isLimit (k : Stage) :
    (s.raiseRecord c).trip.latch.get k = if s.latched k then s.trip.latch.get k else .latched c := by
  simp only [State.raiseRecord_latch, State.mem_newlyLatched, Cause.reaches_of_isLimit hc]
  cases s.latched k <;> rfl

/-- The raise of a LIMIT leaves every stage latched. -/
theorem State.raiseRecord_latched_of_isLimit (k : Stage) : (s.raiseRecord c).latched k = true := by
  unfold State.latched
  rw [State.raiseRecord_latch_of_isLimit hc]
  split
  next hlatched => exact hlatched
  next => rfl

end

/-- Each LIMIT that stands is raised anew: the first latches what is clear, and the others find every stage latched. -/
theorem State.reraiseLimits_raises (s : State) : ∃ reports,
    s.LimitsRaisedAnew s.reraiseLimits reports ∧ s.reraiseLimits.link = s.link.pushAll (reports.map s.stamped) := by
  have hstanding : s.Standing (s.trip.active.filter Cause.isLimit) := fun _ h => h
  unfold State.LimitsRaisedAnew State.reraiseLimits
  cases hl : s.trip.active.filter Cause.isLimit with
  | nil => exact ⟨[], ⟨fun _ => ⟨rfl, rfl⟩, fun h => absurd rfl h⟩, rfl⟩
  | cons c l =>
    rw [hl] at hstanding
    obtain ⟨hactive, hc⟩ := List.mem_filter.mp (hstanding c List.mem_cons_self)
    have hlatch := State.raiseRecord_latch_of_isLimit (s := s) hc
    have hall := State.raiseRecord_latched_of_isLimit (s := s) hc
    have hlatches : (s.raiseRecord c).latches = ⟨true, true, true⟩ := by simp only [State.latches, hall]
    have hlimits := State.raiseRecord_limits_of_standing hc hactive
    have hrest := State.reraise_in_vain l (s.raiseRecord c) hall fun x hx => by
      rw [hlimits, hl]; exact List.mem_cons_of_mem _ hx
    have hcauses : 4 ∈ (s.raiseRecord c).trip.causes := by
      rw [State.raiseRecord_causes, Cause.code_of_isLimit hc]; exact mem_insertCode.mpr (.inl rfl)
    refine ⟨_, ⟨fun h => absurd h (List.cons_ne_nil c l), fun _ => ⟨hrest.causes 4 hcauses, ?_,
      hrest.limits.trans (hlimits.trans hl), fun k hk => ?_, c, List.mem_cons_self, fun k hk => ?_, rfl⟩⟩, ?_⟩
    · rw [← hlatches]; simp only [List.foldl_cons, State.latches, State.latched, hrest.latch]
    · rw [List.foldl_cons, hrest.latch, hlatch, if_pos hk]
    · rw [List.foldl_cons, hrest.latch, hlatch, if_neg (by simp [hk])]
    · rw [List.foldl_cons, hrest.link, State.raiseRecord_link, State.newlyLatched_of_isLimit hc, hlatches]

theorem State.endsRecovery_self (s : State) : s.EndsRecovery s [] := ⟨fun _ => ⟨rfl, rfl⟩, fun h => absurd rfl h⟩

theorem State.endRecovery_of_none {s : State} (h : s.wind.recovery = none) : s.endRecovery = s := by
  unfold State.endRecovery; rw [h]

/-- The end of recovery: each LIMIT that stands is raised anew, if recovery was active (R143). -/
theorem State.endRecovery_ends (s : State) : ∃ reports,
    s.EndsRecovery s.endRecovery reports ∧ s.endRecovery.link = s.link.pushAll (reports.map s.stamped) ∧
      s.endRecovery.wind = { s.wind with recovery := none } := by
  cases hr : s.wind.recovery with
  | none =>
    rw [State.endRecovery_of_none hr, ← hr]
    exact ⟨[], s.endsRecovery_self, rfl, rfl⟩
  | some r =>
    obtain ⟨reports, hraised, hlink⟩ := (s.setWind { s.wind with recovery := none }).reraiseLimits_raises
    have hend : s.endRecovery = (s.setWind { s.wind with recovery := none }).reraiseLimits := by
      unfold State.endRecovery; rw [hr]
    have hwind : s.endRecovery.wind = { s.wind with recovery := none } := by rw [hend, State.reraiseLimits_wind]; rfl
    refine ⟨reports, ⟨fun h => ?_, fun _ => hend ▸ hraised⟩, hend ▸ hlink, hwind⟩
    simp [hwind, hr] at h

/-- Recovery ends at its judgement when every offending side stands inside (R126). -/
theorem State.judgeRecoveryEnd_eq (s : State) :
    s.judgeRecoveryEnd = if s.wind.recovery.all s.offendersInside then s.endRecovery else s := by
  unfold State.judgeRecoveryEnd
  cases hr : s.wind.recovery with
  | none => exact (State.endRecovery_of_none hr).symm
  | some r => rfl

theorem State.judgeRecoveryEnd_ends (s : State) : ∃ reports,
    s.EndsRecovery s.judgeRecoveryEnd reports ∧ s.judgeRecoveryEnd.link = s.link.pushAll (reports.map s.stamped) ∧
      s.judgeRecoveryEnd.wind = { s.wind with
        recovery := if s.wind.recovery.all s.offendersInside then none else s.wind.recovery } := by
  rw [State.judgeRecoveryEnd_eq]
  split
  · exact s.endRecovery_ends
  · exact ⟨[], s.endsRecovery_self, rfl, rfl⟩

/-- The judgement of the end of recovery touches the link port, the wind controller and the trip unit. -/
theorem State.judgeRecoveryEnd_frame (s : State) : s.judgeRecoveryEnd = { s with
    link := s.judgeRecoveryEnd.link, wind := s.judgeRecoveryEnd.wind, trip := s.judgeRecoveryEnd.trip } :=
  calc s.judgeRecoveryEnd = { s.judgeRecoveryEnd with link := s.judgeRecoveryEnd.link } := rfl
    _ = _ := by
      dsimp only
      rw [State.judgeRecoveryEnd_pending, State.judgeRecoveryEnd_pins, State.judgeRecoveryEnd_clock,
        State.judgeRecoveryEnd_table, State.judgeRecoveryEnd_drums, State.judgeRecoveryEnd_inputs,
        State.judgeRecoveryEnd_rope, State.judgeRecoveryEnd_depth, State.judgeRecoveryEnd_env,
        State.judgeRecoveryEnd_proof]

/-- The end of recovery as a closure judges it: for a recovery wind only (R126). -/
def State.recoveryJudgedFor (s : State) (inRecovery : Bool) : State := if inRecovery then s.judgeRecoveryEnd else s

theorem State.recoveryJudgedFor_frame (s : State) (b : Bool) : s.recoveryJudgedFor b = { s with
    link := (s.recoveryJudgedFor b).link, wind := (s.recoveryJudgedFor b).wind
    trip := (s.recoveryJudgedFor b).trip } := by
  cases b
  · rfl
  · exact s.judgeRecoveryEnd_frame

theorem State.recoveryJudgedFor_ends (s : State) (b : Bool) : ∃ reports,
    s.EndsRecovery (s.recoveryJudgedFor b) reports ∧
      (s.recoveryJudgedFor b).link = s.link.pushAll (reports.map s.stamped) ∧
      (s.recoveryJudgedFor b).wind = { s.wind with
        recovery := if b && s.wind.recovery.all s.offendersInside then none else s.wind.recovery } := by
  cases b
  · exact ⟨[], s.endsRecovery_self, rfl, rfl⟩
  · rw [Bool.true_and]; exact s.judgeRecoveryEnd_ends

/-! ## The closure of a wind (R117) -/

/-- The wind `w` closed, before the end of recovery is judged: its record, its report, the park write, the marks, and the
ends of the envelope's and the rope unit's states. -/
def State.closed (s : State) (w : OpenWind) (o : WindOutcome) : State :=
  let s1 := (s.setWind { s.wind with
    current := none, history := (w.complete o :: s.wind.history).take 32, unintended := ⟨false, false⟩
    lastLanded := s.landedAfter w o }).report (.wind w.number none (some o) w.destination)
  let s2 := s1.requestPark.markRest
  (s2.setEnv { s2.env with degrade := none, overCount := ⟨0, 0, 0⟩ }).setRope { s2.rope with loadLost := false }

theorem State.closeWind_eq {s : State} {w : OpenWind} (hw : s.wind.current = some w) (o : WindOutcome) :
    s.closeWind o = (s.closed w o).recoveryJudgedFor w.inRecovery := by
  unfold State.closeWind
  rw [hw]
  rfl

/-- The shaft table after a request of a park write (R18). -/
def State.tableParked (s : State) : ShaftTable :=
  match s.table.parkWrite with
  | none => { s.table with parkWrite := some s.parkContents, park := none }
  | some _ => { s.table with parkPending := some s.parkContents }

theorem State.parkRequested_iff {s t : State} : s.ParkRequested t ↔ t.table = s.tableParked := Iff.rfl

theorem State.requestPark_eq (s : State) : s.requestPark = { s with table := s.tableParked } := by
  unfold State.requestPark State.tableParked
  cases s.table.parkWrite <;> rfl

theorem State.tableParked_active (s : State) : s.tableParked.active = s.table.active := by
  unfold State.tableParked
  split <;> rfl

/-- The closure block by block. -/
theorem State.closed_eq (s : State) (w : OpenWind) (o : WindOutcome) :
    s.closed w o = { s with
      link := s.link.push (s.stamped (.wind w.number none (some o) w.destination))
      table := s.tableParked
      wind := { s.wind with
        current := none, history := (w.complete o :: s.wind.history).take 32, unintended := ⟨false, false⟩
        lastLanded := s.landedAfter w o }
      drums := { s.drums with
        drum := ⟨{ s.drums.drum.one with restDue := true }, { s.drums.drum.two with restDue := true }⟩ }
      env := { s.env with degrade := none, overCount := ⟨0, 0, 0⟩ }
      rope := { s.rope with loadLost := false } } := by
  unfold State.closed
  dsimp only
  rw [State.report_eq, State.requestPark_eq]
  rfl

/-- Of a state that agrees in the active table and the depths, the offending sides stand as far inside. -/
theorem State.offendersInside_congr {s t : State} (hactive : t.table.active = s.table.active)
    (hdepth : t.depth = s.depth) : t.offendersInside = s.offendersInside := by
  funext r
  unfold State.offendersInside State.insideBy500 State.sideData
  rw [hactive, hdepth]

/-- The closure of a wind: its report and those of an ended recovery, what it does to the blocks, and what it leaves. -/
theorem State.closeWind_closes {s : State} {w : OpenWind} (hw : s.wind.current = some w) (o : WindOutcome) :
    ∃ more, (s.closeWind o).link =
        s.link.pushAll ((.wind w.number none (some o) w.destination :: more).map s.stamped) ∧
      s.EndsRecovery (s.closeWind o) more ∧ s.Closes (s.closeWind o) w o ∧ s.ParkRequested (s.closeWind o) ∧
      s.closeWind o = { s with
        link := (s.closeWind o).link, table := (s.closeWind o).table, wind := (s.closeWind o).wind
        drums := (s.closeWind o).drums, env := (s.closeWind o).env, rope := (s.closeWind o).rope
        trip := (s.closeWind o).trip } := by
  obtain ⟨more, hends, hlink, hwind⟩ := (s.closed w o).recoveryJudgedFor_ends w.inRecovery
  have hframe := (s.closed w o).recoveryJudgedFor_frame w.inRecovery
  have hinside : (s.closed w o).offendersInside = s.offendersInside := by
    rw [State.closed_eq]; exact State.offendersInside_congr s.tableParked_active rfl
  rw [hinside] at hwind
  rw [← State.closeWind_eq hw o] at hends hlink hwind hframe
  rw [State.closed_eq] at hends hlink hwind hframe
  refine ⟨more, hlink, hends, ⟨hwind, ?_, ?_, ?_⟩, ?_, ?_⟩
  · rw [hframe]
  · rw [hframe]
  · rw [hframe]
  · rw [State.parkRequested_iff, hframe]
  · rw [hframe]

/-! ## The stopping of a wind (R119) -/

theorem State.stopDir_eq (s : State) (w : OpenWind) :
    s.stopDir w = if mag (s.speed w.lead) < 50 then w.dir else
      if 0 < s.speed w.lead then .descending else .ascending := by
  simp only [State.stopDir, State.stationary, decide_eq_true_eq, dirOfSpeed]
  rfl

/-- A wind stopped creates one report and touches the wind controller and the load-lost flag. -/
theorem State.enterStopping_eq (s : State) (w : OpenWind) (why : StopCause) :
    s.enterStopping w why = { s with
      link := s.link.push (s.stamped (.wind w.number (some .stopping) none w.destination))
      wind := { s.wind with current := some { w with
        phase := .stopping, stop := some why, target := s.stopTarget w, dir := s.stopDir w } }
      rope := { s.rope with loadLost := false } } := by
  unfold State.enterStopping
  dsimp only
  rw [State.report_eq]
  rfl

theorem State.enterStopping_stops (s : State) (w : OpenWind) (why : StopCause) :
    s.Stops (s.enterStopping w why) w why := by
  rw [State.enterStopping_eq, State.stopTarget, State.stopDir_eq]
  exact ⟨rfl, rfl⟩

end Sys2Proof.Machine
end

section
/-! The requests of the wind controller: WIND (R110, R111) and ABORT (R120). -/

namespace Sys2Proof.Machine

/-! ## WIND: the checks (R110) -/

theorem exec_wind (tag : Byte) (body : List Byte) (s : State) :
    exec (.wind tag body) s = .next (s.request 0x02 tag 3 body fun x => x.ownWind body) := rfl

/-- Checks 6 to 14 of R110 in their order, for the depth at which the station stops the lead side. -/
def State.conductChecks (s : State) (mode : Mode) (lead : Side) (stop : Option Int) : List (Bool × Result) :=
  let full := decide (mode ≠ .inspect)
  [(!mode.allows (s.sideData lead).kind, .mode),
   (!s.inputs.clutch && !(decide (mode = .inspect) && decide (lead = .one)), .clutch),
   (!(s.stationary .one && (!s.inputs.clutch || s.stationary .two)), .moving),
   (s.wind.recovery.isSome && (full || !stop.all fun x => s.isInward lead x), .recovery),
   (full && !(s.depth.one.sampledLock.referenced &&
     (!s.inputs.clutch || s.depth.two.sampledLock.referenced)), .notReferenced),
   (full && (decide (s.drums.drum.one.sampledState = .diverged) ||
     (s.inputs.clutch && decide (s.drums.drum.two.sampledState = .diverged))), .degraded),
   (decide (mode = .man) && (s.rope.side.one.bothBad || (s.inputs.clutch && s.rope.side.two.bothBad)), .load),
   (decide ((s.sideData lead).payloadLimit < (s.rope.side.get lead).payload), .overload),
   (stop.any fun x => decide (mag (x - (s.depth.get lead).D) ≤ s.winder.landingTol), .alreadyThere)]

/-- The fourteen checks of R110 in their order. -/
def State.windChecks (s : State) (station : Nat) (mode : Mode) (lead : Side) : List (Bool × Result) :=
  (s.windOpen, .busy) :: (s.anyLatched, .tripped) :: (!s.hasTable, .noTable) ::
    (decide (s.proof.readiness ≠ .proven), .notProven) :: ((s.stopDepth station lead).isNone, .noStation) ::
    s.conductChecks mode lead (s.stopDepth station lead)

theorem State.windRefusalTo_eq_firstRefusal (s : State) (mode : Mode) (lead : Side) (target : Int) :
    s.windRefusalTo mode lead target = firstRefusal (s.conductChecks mode lead (some target)) := by
  simp only [State.windRefusalTo, State.conductChecks, firstRefusal, State.playStationary, State.recoveryBars,
    State.playReferenced, State.playDiverged, State.playBothBad, State.alreadyThere, State.inPlay, Option.all_some,
    Option.any_some, decide_eq_true_eq]

/-- The first check that fails decides, and with none the rest. -/
theorem firstRefusal_cons_elim {α : Type} (fails : Bool) (why : Result) (rest : List (Bool × Result)) (passed : α)
    (refused : Result → α) : (firstRefusal ((fails, why) :: rest)).elim passed refused =
      if fails then refused why else (firstRefusal rest).elim passed refused := by
  cases fails <;> rfl

/-- What the checks make of a WIND: the first that fails refuses it, and when all pass its target stands. With no station
there is no target, and the fifth check refuses. -/
theorem State.judgeWind_eq (s : State) (station : Nat) (mode : Mode) (lead : Side) :
    s.judgeWind station mode lead =
      (firstRefusal (s.windChecks station mode lead)).elim (.ok ((s.stopDepth station lead).getD 0)) .error := by
  simp only [State.judgeWind, State.windChecks, firstRefusal_cons_elim, decide_eq_true_eq]
  cases s.stopDepth station lead with
  | none => rfl
  | some target =>
    simp only [State.windRefusalTo_eq_firstRefusal]
    cases firstRefusal (s.conductChecks mode lead (some target)) <;> rfl

theorem State.ownWind_of_range {s : State} {station b1 b2 : Byte}
    (h : modeOfCode b1.toNat = none ∨ sideOfCode b2.toNat = none) :
    s.ownWind [station, b1, b2] = s.deny .range := by
  have hb1 : byteAt [station, b1, b2] 1 = b1.toNat := rfl
  have hb2 : byteAt [station, b1, b2] 2 = b2.toNat := rfl
  simp only [State.ownWind, hb1, hb2]
  rcases h with h | h <;> rw [h]
  cases modeOfCode b1.toNat <;> rfl

section
variable {s : State} {station b1 b2 : Byte} {mode : Mode} {lead : Side}
  (hmode : modeOfCode b1.toNat = some mode) (hlead : sideOfCode b2.toNat = some lead)
include hmode hlead

theorem State.ownWind_of_refusal {why : Result}
    (h : firstRefusal (s.windChecks station.toNat mode lead) = some why) :
    s.ownWind [station, b1, b2] = s.deny why := by
  have hjudged : s.judgeWind (byteAt [station, b1, b2] 0) mode lead = .error why := by
    rw [show byteAt [station, b1, b2] 0 = station.toNat from rfl, State.judgeWind_eq, h]; rfl
  have hb1 : modeOfCode (byteAt [station, b1, b2] 1) = some mode := hmode
  have hb2 : sideOfCode (byteAt [station, b1, b2] 2) = some lead := hlead
  simp only [State.ownWind, hb1, hb2, hjudged]

theorem State.ownWind_of_passed {target : Int} (h : firstRefusal (s.windChecks station.toNat mode lead) = none)
    (hstop : s.stopDepth station.toNat lead = some target) :
    s.ownWind [station, b1, b2] =
      (s.acceptWind (s.newWind station.toNat mode lead target)).done (be16 (s.wind.number + 1)) := by
  have hjudged : s.judgeWind (byteAt [station, b1, b2] 0) mode lead = .ok target := by
    rw [show byteAt [station, b1, b2] 0 = station.toNat from rfl, State.judgeWind_eq, h, hstop]; rfl
  have hb1 : modeOfCode (byteAt [station, b1, b2] 1) = some mode := hmode
  have hb2 : sideOfCode (byteAt [station, b1, b2] 2) = some lead := hlead
  simp only [State.ownWind, hb1, hb2, hjudged]
  rfl

end

/-! ## WIND: the acceptance (R111) -/

/-- Off the depth the intended direction is the side of it on which the target lies. -/
theorem State.intended_of_ne {s : State} {lead : Side} {target : Int} (h : target ≠ (s.depth.get lead).D) :
    s.intended lead target = if (s.depth.get lead).D < target then .descending else .ascending := by
  unfold State.intended dirToTarget
  by_cases hbelow : (s.depth.get lead).D < target
  · rw [if_pos hbelow, if_pos hbelow]; rfl
  · have habove : target < (s.depth.get lead).D := by omega
    rw [if_neg hbelow, if_neg hbelow, if_pos habove]; rfl

/-- With a wind open the degrade state is started, and one that is active runs on (R96). -/
theorem State.startDegrade_of_open {s : State} (h : s.windOpen = true) (v : Int) :
    s.startDegrade v = { s with env := { s.env with degrade := s.env.degrade.or (some ⟨v, 0⟩) } } := by
  unfold State.startDegrade
  cases hd : s.env.degrade with
  | none => rw [if_pos ⟨h, rfl⟩]; rfl
  | some x =>
    rw [if_neg (fun hn => Bool.false_ne_true hn.2), Option.some_or, ← hd]

/-- An accepted wind creates one report, replaces the open wind and the wind number, and sets the degrade state. -/
theorem State.acceptWind_eq (s : State) (w : OpenWind) :
    s.acceptWind w = { s with
      link := s.link.push (s.stamped (.wind w.number (some .accepted) none w.destination))
      wind := { s.wind with current := some w, number := w.number }
      env := { s.env with
        degrade := if s.playDegraded then s.env.degrade.or (some ⟨0, 0⟩) else s.env.degrade } } := by
  unfold State.acceptWind
  dsimp only
  rw [State.report_eq, State.startDegrade_of_open rfl]
  cases s.playDegraded <;> rfl

/-- The open wind that R111 gives an accepted request whose target lies off the depth. -/
theorem State.newWind_of_ne {s : State} {station : Nat} {mode : Mode} {lead : Side} {target : Int}
    (h : target ≠ (s.depth.get lead).D) :
    s.newWind station mode lead target =
      { phase := .accepted, number := s.wind.number + 1, mode := mode, lead := lead, destination := station
        target := target
        dir := if (s.depth.get lead).D < target then .descending else .ascending
        startPayout := s.payout lead, furthest := s.payout lead, start := some 30000, dwell := none, stop := none
        inRecovery := s.wind.recovery.isSome, origin := s.wind.lastLanded.get lead, duration := 0, peakSpeed := 0
        peakUsage := 0, counts := ⟨⟨0, 0, 0, 0, 0⟩, ⟨0, 0, 0, 0, 0⟩⟩, firstTrip := none } := by
  unfold State.newWind
  rw [State.intended_of_ne h]
  rfl

/-- Settles O20: the checks see what stood before the arrival; passed, the new wind opens over it. -/
theorem windIsJudgedAndAccepted : Obligations.WindIsJudgedAndAccepted := by
  intro tag station b1 b2 s hs
  have hexec := exec_wind tag [station, b1, b2] s
  refine ⟨fun hrange => ?_, ?_⟩
  · exact State.request_denied hexec hs rfl rfl fun _ => State.ownWind_of_range hrange
  intro mode lead hmode hlead stop depth full refusal
  have hchecks (p) : firstRefusal ((s.arrived p).windChecks station.toNat mode lead) = refusal := rfl
  refine ⟨fun why hwhy => ?_, fun target hpassed hstop hne => ?_⟩
  · exact State.request_denied hexec hs rfl rfl fun p =>
      State.ownWind_of_refusal hmode hlead ((hchecks p).trans hwhy)
  · obtain ⟨p, hp⟩ := s.frameArrives_eq_arrived (n := 0x02) rfl
    have hnew := State.newWind_of_ne (s := s) (station := station.toNat) (mode := mode) hne
    have howner := State.ownWind_of_passed hmode hlead ((hchecks p).trans hpassed) hstop
    refine (State.request_served hexec hs rfl rfl hp howner
      (bodies := [.wind (s.wind.number + 1) (some .accepted) none station.toNat]) ?_).imp ?_
    · rw [State.acceptWind_eq]; rfl
    rintro t ⟨hserved, hport, ht⟩
    rw [State.acceptWind_eq] at ht
    refine ⟨hserved, hport, ?_, ?_, ?_⟩
    · rw [ht, ← hnew]; rfl
    · rw [ht]; rfl
    · rw [ht]; rfl

/-! ## ABORT (R120) -/

theorem exec_abort (tag : Byte) (s : State) :
    exec (.abort tag []) s = .next (s.request 0x04 tag 0 [] State.ownAbort) := rfl

theorem State.ownAbort_of_idle {s : State} (h : s.wind.current = none) : s.ownAbort = s.deny .noWind := by
  simp [State.ownAbort, State.windOpen, h]

section
variable {s : State} {w : OpenWind} (hw : s.wind.current = some w)
include hw

theorem State.ownAbort_of_accepted (h : w.phase = .accepted) : s.ownAbort = (s.closeWind .aborted).done [] := by
  simp [State.ownAbort, State.abortWind, State.windOpen, hw, h]

theorem State.ownAbort_of_underWay (h : w.phase = .running ∨ w.phase = .creep) :
    s.ownAbort = (s.enterStopping w .abort).done [] := by
  rcases h with h | h <;> simp [State.ownAbort, State.abortWind, State.windOpen, hw, h]

theorem State.ownAbort_of_stopping (h : w.phase = .stopping) : s.ownAbort = s.done [] := by
  simp [State.ownAbort, State.abortWind, State.windOpen, hw, h]

end

/-- Settles O22, phase by phase of the open wind. -/
theorem abortActsByThePhase : Obligations.AbortActsByThePhase := by
  intro tag s hs
  have hexec := exec_abort tag s
  obtain ⟨p, hp⟩ := s.frameArrives_eq_arrived (n := 0x04) rfl
  refine ⟨fun hidle => ?_, fun w hw => ⟨fun hphase => ?_, fun hphase => ?_, fun hphase => ?_⟩⟩
  · exact State.request_denied hexec hs rfl rfl fun _ => State.ownAbort_of_idle hidle
  · obtain ⟨more, hlink, hends, hcloses, hpark, hframe⟩ :=
      State.closeWind_closes (s := s.arrived p) (w := w) hw .aborted
    refine (State.request_served hexec hs rfl rfl hp (State.ownAbort_of_accepted hw hphase) hlink).imp ?_
    rintro t ⟨hserved, hport, ht⟩
    refine ⟨⟨more, hserved, ?_⟩, hport, ?_, ?_, ?_⟩
    · rw [ht]; exact hends
    · rw [ht]; exact hcloses
    · rw [ht]; exact hpark
    · rw [hframe] at ht
      rw [ht]
      rfl
  · refine (State.request_served hexec hs rfl rfl hp (State.ownAbort_of_underWay hw hphase)
      (bodies := [.wind w.number (some .stopping) none w.destination]) ?_).imp ?_
    · rw [State.enterStopping_eq]; rfl
    rintro t ⟨hserved, hport, ht⟩
    refine ⟨hserved, hport, ?_, ?_⟩
    · rw [ht]; exact (s.arrived p).enterStopping_stops w .abort
    · rw [ht, State.enterStopping_eq]; rfl
  · have howner : (s.frameArrives 0x04).ownAbort = (s.frameArrives 0x04).done [] := by
      rw [hp]; exact State.ownAbort_of_stopping hw hphase
    exact State.request_onlyReplied hexec hs rfl rfl howner

end Sys2Proof.Machine
end

section
/-! The fault record at the host: READ-FAULTS (R146) and CLEAR-FAULTS (R147). -/

namespace Sys2Proof.Machine

/-! ## READ-FAULTS: the places in the fault record (R146, R170) -/

theorem exec_readFaults (tag : Byte) (s : State) :
    exec (.readFaults tag []) s = .next (s.request 0x0C tag 0 [] State.ownReadFaults) := rfl

/-- Three flags packed in a byte are read back as bits 0 to 2. -/
theorem byteOf_stageBits (p : PerStage Bool) :
    [0, 1, 2].map (byteOf (stageBits p)).getLsbD = [p.s1, p.s2, p.s3] := by
  obtain ⟨b1, b2, b3⟩ := p
  revert b1 b2 b3
  decide

/-- Six channel bits packed in a byte are read back as bits 0 to 5, 1X to 3Y. -/
theorem byteOf_channelBits (p : PerStage (PerChan Bool)) :
    [0, 1, 2, 3, 4, 5].map (byteOf (channelBits p)).getLsbD = [p.s1.x, p.s1.y, p.s2.x, p.s2.y, p.s3.x, p.s3.y] := by
  obtain ⟨⟨b0, b1⟩, ⟨b2, b3⟩, ⟨b4, b5⟩⟩ := p
  revert b0 b1 b2 b3 b4 b5
  decide

/-- A first cause takes two bytes, present or absent. -/
theorem firstCauseBytes_eq_pair (offset : Nat) (l : Latch) : ∃ a b, firstCauseBytes offset l = [a, b] := by
  cases l <;> exact ⟨_, _, rfl⟩

/-- The time stamp lies behind the three flag bytes, the three first causes and the cause set. -/
theorem State.faultsBody_stamp (s : State) :
    [12, 13, 14, 15].map (fun i => s.faultsBody.getD i 0) = be32 s.clock.stamp := by
  obtain ⟨a1, b1, h1⟩ := firstCauseBytes_eq_pair 4 s.trip.latch.s1
  obtain ⟨a2, b2, h2⟩ := firstCauseBytes_eq_pair 6 s.trip.latch.s2
  obtain ⟨a3, b3, h3⟩ := firstCauseBytes_eq_pair 8 s.trip.latch.s3
  rw [State.faultsBody, h1, h2, h3]
  rfl

/-! ## CLEAR-FAULTS (R147) -/

theorem exec_clearFaults (tag : Byte) (s : State) :
    exec (.clearFaults tag []) s = .next (s.request 0x0D tag 0 [] State.ownClearFaults) := rfl

theorem State.ownClearFaults_of_latched {s : State} (h : s.anyLatched = true) :
    s.ownClearFaults = s.deny .latched := if_pos h

theorem State.ownClearFaults_of_clear {s : State} (h : s.anyLatched = false) :
    s.ownClearFaults = (s.setTrip { s.trip with capture := none, causes := codesOf s.trip.active }).done [] :=
  if_neg (ne_true_of_eq_false h)

theorem mem_foldl_insertCode {n : Nat} (active : List Cause) (codes : List Nat) :
    n ∈ active.foldl (fun codes c => insertCode c.code codes) codes ↔ (∃ c ∈ active, c.code = n) ∨ n ∈ codes := by
  induction active generalizing codes with
  | nil => simp
  | cons c active ih =>
    simp only [List.foldl_cons, ih, mem_insertCode, List.mem_cons, exists_eq_or_imp, eq_comm (a := n)]
    exact or_left_comm.trans or_assoc.symm

/-- The cause set gains again the code of each active entry, and no other (R147). -/
theorem mem_codesOf {n : Nat} {active : List Cause} : n ∈ codesOf active ↔ ∃ c ∈ active, c.code = n := by
  simp [codesOf, mem_foldl_insertCode]

/-- Settles O15: the owners see the fault record as it stood before the arrival. -/
theorem faultsAreReadAndCleared : Obligations.FaultsAreReadAndCleared := by
  intro tag s hs
  refine ⟨?_, ⟨byteOf_stageBits s.latches, byteOf_channelBits s.commands, byteOf_channelBits s.pins.readbacks,
    s.faultsBody_stamp⟩, fun hlatched => ?_, fun hclear => ?_⟩
  · refine State.request_onlyReplied (exec_readFaults tag s) hs rfl rfl ?_
    obtain ⟨p, hp⟩ := s.frameArrives_eq_arrived (n := 0x0C) rfl
    exact hp ▸ rfl
  · exact State.request_denied (exec_clearFaults tag s) hs rfl rfl fun _ => State.ownClearFaults_of_latched hlatched
  · obtain ⟨p, hp⟩ := s.frameArrives_eq_arrived (n := 0x0D) rfl
    have howner := State.ownClearFaults_of_clear (s := s.arrived p) hclear
    refine (State.request_served (exec_clearFaults tag s) hs rfl rfl hp howner (bodies := []) rfl).imp ?_
    rintro t ⟨hserved, hport, ht⟩
    have htrip : t.trip = { s.trip with capture := none, causes := codesOf s.trip.active } := by rw [ht]; rfl
    refine ⟨hserved, hport, by rw [htrip], fun n => by rw [htrip]; exact mem_codesOf, ?_⟩
    rw [ht]
    rfl

end Sys2Proof.Machine
end

section
/-! TRIP-RESET (R139, R140, R142): its five checks, and the stages cleared with their channels energised. -/

namespace Sys2Proof.Machine

/-! ## The checks (R139) -/

/-- Every check of a list that refuses nothing has passed. -/
theorem firstRefusal_eq_none {l : List (Bool × Result)} : firstRefusal l = none ↔ ∀ x ∈ l, x.1 = false := by
  induction l with
  | nil => simp [firstRefusal]
  | cons x l ih =>
    obtain ⟨fails, why⟩ := x
    cases fails <;> simp [firstRefusal, ih]

/-- The five checks of R139 in their order, for a stage and the byte of the recover flag. -/
def State.resetChecks (s : State) (k : Stage) (flag : Byte) : List (Bool × Result) :=
  [(!s.bothStationary, .moving),
   (decide (∃ j ∈ [Stage.s1, .s2, .s3], stageCode k < stageCode j ∧ s.latched j = true), .higherStage),
   (decide (k = .s3 ∧ ∃ c ∈ s.trip.active, c.isCondition = true) &&
     !decide (k = .s3 ∧ flag = 1 ∧ ∀ c ∈ s.trip.active, c.isCondition = true → c.isLimit = true), .causePresent),
   (decide (k ≠ .s1 ∧ s.proof.readiness ≠ .proven), .notProven),
   (decide (k = .s3 ∧ s.inputs.permissive = false), .noPermissive)]

/-- The stages above k, each latched or not. -/
theorem State.higherLatched_eq (s : State) (k : Stage) : s.higherLatched k =
    decide (∃ j ∈ [Stage.s1, .s2, .s3], stageCode k < stageCode j ∧ s.latched j = true) := by
  cases k <;> simp [State.higherLatched, stageCode]

/-- Every condition is raised at stage 3 (R133), so it blocks the reset of that stage alone. -/
theorem Cause.blocks_eq (k : Stage) (c : Cause) : c.blocks k = (decide (k = .s3) && c.isCondition) := by
  cases c <;> cases k <;> rfl

theorem State.any_blocks_eq (s : State) (k : Stage) : s.trip.active.any (Cause.blocks k) =
    decide (k = .s3 ∧ ∃ c ∈ s.trip.active, c.isCondition = true) := by
  rw [Bool.eq_iff_iff, List.any_eq_true, decide_eq_true_eq]
  simp only [Cause.blocks_eq, Bool.and_eq_true, decide_eq_true_eq]
  exact ⟨fun ⟨c, hc, hk, hcond⟩ => ⟨hk, c, hc, hcond⟩, fun ⟨hk, c, hc, hcond⟩ => ⟨c, hc, hk, hcond⟩⟩

/-- The case of the recover flag as R139 states it. -/
theorem State.recoverCase_eq (s : State) (k : Stage) (flag : Byte) : s.recoverCase k (decide (flag = 1)) =
    decide (k = .s3 ∧ flag = 1 ∧ ∀ c ∈ s.trip.active, c.isCondition = true → c.isLimit = true) := by
  have hpassedOver (c : Cause) :
      (!c.isCondition || c.isLimit) = true ↔ (c.isCondition = true → c.isLimit = true) := by
    cases c.isCondition <;> simp
  rw [Bool.eq_iff_iff]
  simp only [State.recoverCase, Bool.and_eq_true, decide_eq_true_eq, List.all_eq_true, hpassedOver, and_assoc]

theorem State.resetRefusal_eq_firstRefusal (s : State) (k : Stage) (flag : Byte) :
    s.resetRefusal k (decide (flag = 1)) = firstRefusal (s.resetChecks k flag) := by
  simp only [State.resetRefusal, State.resetChecks, firstRefusal, State.higherLatched_eq, State.any_blocks_eq,
    State.recoverCase_eq, Bool.decide_and, Bool.decide_eq_false]

/-! ## A channel energised (R131, R132) -/

/-- A de-energised channel commanded energised and compared with its readback: on agreement its timer stops, on
disagreement a stopped one is started. -/
def OutChannel.energised (x : OutChannel) (readback : Bool) : OutChannel :=
  ⟨true, if readback then none else x.mismatch.or (some 20)⟩

theorem State.dropActive_eq_self {s : State} {p : Cause → Bool} (h : ∀ c ∈ s.trip.active, p c = false) :
    s.dropActive p = s := by
  have hkept : s.trip.active.filter (fun c => !p c) = s.trip.active :=
    List.filter_eq_self.mpr fun c hc => by rw [h c hc]; rfl
  unfold State.dropActive
  rw [hkept]
  rfl

/-- What a channel's comparison turns on: outside step 5 of the proof, with no TRIP PATH active that it could end. -/
def State.ComparesQuietly (s : State) : Prop := s.inTripTest = false ∧ ∀ k h, Cause.tripPath k h ∉ s.trip.active

theorem State.channel_setChannel_self (s : State) (k : Stage) (h : Chan) (x : OutChannel) :
    (s.setChannel k h x).channel k h = x := by
  simp [State.channel]

theorem State.channel_setChannel_ne (s : State) {j k : Stage} {g h : Chan} (x : OutChannel) (hne : j = k → g ≠ h) :
    (s.setChannel k h x).channel j g = s.channel j g := by
  unfold State.channel
  rw [State.setChannel_chan]
  by_cases hj : j = k
  · rw [hj, PerStage.get_set_self, PerChan.get_set_ne _ _ _ _ (hne hj)]
  · rw [PerStage.get_set_ne _ _ _ _ hj]

theorem State.setChannel_channel (s : State) (k : Stage) (h : Chan) : s.setChannel k h (s.channel k h) = s := by
  cases k <;> cases h <;> rfl

theorem State.setChannel_setChannel (s : State) (k : Stage) (h : Chan) (x y : OutChannel) :
    (s.setChannel k h x).setChannel k h y = s.setChannel k h y := by
  cases k <;> cases h <;> rfl

/-- A quiet comparison sets the timer of its channel, and that is all. -/
theorem State.ComparesQuietly.compareChannel_eq {s : State} (hq : s.ComparesQuietly) (k : Stage) (h : Chan) :
    s.compareChannel k h = s.setChannel k h { s.channel k h with
      mismatch := if (s.channel k h).commanded = s.readback k h then none else (s.channel k h).mismatch.or (some 20) } := by
  obtain ⟨htest, hpaths⟩ := hq
  unfold State.compareChannel
  rw [if_neg (ne_true_of_eq_false htest)]
  split
  next =>
    refine State.dropActive_eq_self fun c hc => decide_eq_false ?_
    rintro rfl
    exact hpaths k h hc
  next =>
    cases hm : (s.channel k h).mismatch with
    | none => rfl
    | some n =>
      rw [Option.some_or, ← hm]
      conv => lhs; rw [hm, Option.isNone_some, if_neg Bool.false_ne_true]
      exact (s.setChannel_channel k h).symm

theorem State.ComparesQuietly.command_energise {s : State} (hq : s.ComparesQuietly) {k : Stage} {h : Chan}
    (hoff : (s.channel k h).commanded = false) :
    s.command k h true = s.setChannel k h ((s.channel k h).energised (s.readback k h)) := by
  have hset : (s.setChannel k h { s.channel k h with commanded := true }).ComparesQuietly := hq
  have hreadback (x) : (s.setChannel k h x).readback k h = s.readback k h := rfl
  unfold State.command
  rw [if_neg (by rw [hoff]; exact Bool.false_ne_true), hset.compareChannel_eq, State.channel_setChannel_self,
    State.setChannel_setChannel, hreadback]
  cases s.readback k h <;> rfl

/-! ## The stages cleared (R140) -/

/-- These stages are clear in `t`, their channels energised and compared, and all else is as in `s`. -/
structure Cleared (s t : State) (ks : List Stage) : Prop where
  latch : ∀ j, t.trip.latch.get j = if j ∈ ks then .clear else s.trip.latch.get j
  channel : ∀ j h, t.channel j h = if j ∈ ks then (s.channel j h).energised (s.readback j h) else s.channel j h
  rest : t = { s with trip := { s.trip with latch := t.trip.latch, chan := t.trip.chan } }

theorem Cleared.comparesQuietly {s t : State} {ks : List Stage} (h : Cleared s t ks) (hq : s.ComparesQuietly) :
    t.ComparesQuietly := by
  rw [h.rest]; exact hq

/-- Both channels of a clear stage that were de-energised follow it. -/
theorem State.ComparesQuietly.followLatch_energise {s : State} (hq : s.ComparesQuietly) {k : Stage}
    (hclear : s.latched k = false) (hoff : ∀ h, (s.channel k h).commanded = false) :
    s.followLatch k =
      (s.setChannel k .x ((s.channel k .x).energised (s.readback k .x))).setChannel k .y
        ((s.channel k .y).energised (s.readback k .y)) := by
  have hx := hq.command_energise (hoff .x)
  have hy : (s.command k .x true).channel k .y = s.channel k .y := by
    rw [hx, State.channel_setChannel_ne _ _ fun _ => by decide]
  have hquiet : (s.command k .x true).ComparesQuietly := by rw [hx]; exact hq
  unfold State.followLatch
  rw [if_neg (ne_true_of_eq_false hq.1), hclear, Bool.not_false, hquiet.command_energise (hy ▸ hoff .y), hy, hx]
  rfl

/-- A stage cleared whose channels were de-energised. -/
theorem State.ComparesQuietly.cleared_setLatch {s : State} (hq : s.ComparesQuietly) {k : Stage}
    (hoff : ∀ h, (s.channel k h).commanded = false) : Cleared s (s.setLatch k .clear) [k] := by
  have hset : (s.setTrip { s.trip with latch := s.trip.latch.set k .clear }).ComparesQuietly := hq
  have hclear : (s.setTrip { s.trip with latch := s.trip.latch.set k .clear }).latched k = false := by
    simp [State.latched, Latch.isLatched]
  unfold State.setLatch
  rw [hset.followLatch_energise hclear hoff]
  refine ⟨fun j => ?_, fun j h => ?_, rfl⟩
  · cases j <;> cases k <;> rfl
  · cases j <;> cases k <;> cases h <;> rfl

/-- One more stage cleared before the others. -/
theorem Cleared.cons {s u t : State} {k : Stage} {ks : List Stage} (hk : k ∉ ks) (h : Cleared s u [k])
    (g : Cleared u t ks) : Cleared s t (k :: ks) := by
  refine ⟨fun j => ?_, fun j c => ?_, ?_⟩
  · rw [g.latch, h.latch]
    by_cases hj : j ∈ ks <;> simp [hj]
  · have hreadback : u.readback j c = s.readback j c := by rw [h.rest]; rfl
    rw [g.channel, h.channel, hreadback]
    by_cases hj : j ∈ ks
    · have hjk : j ≠ k := fun heq => hk (heq ▸ hj)
      simp [hj, hjk]
    · simp [hj]
  · calc t = { u with trip := { u.trip with latch := t.trip.latch, chan := t.trip.chan } } := g.rest
      _ = { s with trip := { s.trip with latch := t.trip.latch, chan := t.trip.chan } } := by rw [h.rest]

/-- Stages cleared one after the other. -/
theorem State.ComparesQuietly.cleared_foldl (ks : List Stage) {s : State} (hq : s.ComparesQuietly)
    (hks : ks.Nodup) (hoff : ∀ k ∈ ks, ∀ h, (s.channel k h).commanded = false) :
    Cleared s (ks.foldl (fun x j => x.setLatch j .clear) s) ks := by
  induction ks generalizing s with
  | nil => exact ⟨fun _ => rfl, fun _ _ => rfl, rfl⟩
  | cons k ks ih =>
    obtain ⟨hk, hks⟩ := List.nodup_cons.mp hks
    have hfirst := hq.cleared_setLatch (hoff k List.mem_cons_self)
    refine hfirst.cons hk (ih (hfirst.comparesQuietly hq) hks fun j hj h => ?_)
    have hjk : j ∉ [k] := fun hmem => hk (List.mem_singleton.mp hmem ▸ hj)
    rw [hfirst.channel, if_neg hjk]
    exact hoff j (List.mem_cons_of_mem _ hj) h

theorem mem_stagesDown {j k : Stage} : j ∈ stagesDown k ↔ stageCode j ≤ stageCode k := by
  cases k <;> cases j <;> decide

theorem nodup_stagesDown (k : Stage) : (stagesDown k).Nodup := by
  cases k <;> decide

theorem mem_stages (k : Stage) : k ∈ [Stage.s1, .s2, .s3] := by
  cases k <;> decide

theorem stageCode_lt_s3 {k : Stage} (h : k ≠ .s3) : stageCode k < stageCode .s3 := by
  cases k with
  | s1 => decide
  | s2 => decide
  | s3 => exact absurd rfl h

/-! ## A reset that passes its checks -/

theorem State.isProving_of_inTripTest {s : State} (h : s.inTripTest = true) : s.isProving = true := by
  unfold State.inTripTest at h
  unfold State.isProving
  split at h
  next hr => rw [hr]
  next => contradiction

/-- What an accepted reset of stage k finds (R139): no comparison of it can end a TRIP PATH, exactly the stages up to k are
latched, and each channel is energised exactly while its stage is clear. -/
structure State.Resettable (s : State) (k : Stage) : Prop where
  quiet : s.ComparesQuietly
  latched : ∀ j, s.latched j = decide (stageCode j ≤ stageCode k)
  commanded : ∀ j h, (s.channel j h).commanded = !s.latched j

/-- Whenever a stage is latched, every stage below it is latched (R131). -/
theorem State.LatchesOrdered.latched_of_le {s : State} (hs : s.LatchesOrdered) {j k : Stage}
    (hjk : stageCode j ≤ stageCode k) (hk : s.latched k = true) : s.latched j = true := by
  obtain ⟨h32, h21⟩ := hs
  match j, k, hjk, hk with
  | .s1, .s1, _, hk | .s2, .s2, _, hk | .s3, .s3, _, hk => exact hk
  | .s1, .s2, _, hk => exact h21 hk
  | .s2, .s3, _, hk => exact h32 hk
  | .s1, .s3, _, hk => exact h21 (h32 hk)
  | .s2, .s1, hjk, _ | .s3, .s1, hjk, _ | .s3, .s2, hjk, _ => exact absurd hjk (by decide)

/-- The checks passed leave no condition but LIMIT: at stage 3 check 3 has seen it, and below it holds stage 3 latched,
which check 2 has seen. Nor is the proof in step 5, which holds stage 3 latched and is not PROVEN, as check 4 asks. -/
theorem State.Coherent.resettable {s : State} (hs : s.Coherent) {k : Stage} {flag : Byte}
    (hpassed : firstRefusal (s.resetChecks k flag) = none) (hk : s.latched k = true) : s.Resettable k := by
  simp only [firstRefusal_eq_none, State.resetChecks, List.forall_mem_cons, decide_eq_false_iff_not,
    Bool.and_eq_false_iff, Bool.not_eq_false', decide_eq_true_eq] at hpassed
  obtain ⟨-, hhigher, hcauses, hproven, -⟩ := hpassed
  have habove (j) (hj : stageCode k < stageCode j) : s.latched j = false :=
    eq_false_of_ne_true fun hlatched => hhigher ⟨j, mem_stages j, hj, hlatched⟩
  have hatTop (h3 : s.latched .s3 = true) : k = .s3 :=
    Decidable.byContradiction fun hne => Bool.false_ne_true ((habove .s3 (stageCode_lt_s3 hne)).symm.trans h3)
  have hlimits (c) (hc : c ∈ s.trip.active) (hcond : c.isCondition = true) : c.isLimit = true := by
    refine Decidable.byContradiction fun hother => ?_
    have h3 := hatTop (hs.conditions c hc hcond (eq_false_of_ne_true hother))
    rcases hcauses with hnone | ⟨-, -, hall⟩
    · exact hnone ⟨h3, c, hc, hcond⟩
    · exact hother (hall c hc hcond)
  have htest : s.inTripTest = false := by
    refine eq_false_of_ne_true fun hin => ?_
    have h3 := hatTop (hs.proof (State.isProving_of_inTripTest hin)).1
    have hready : s.proof.readiness = .proven :=
      Decidable.byContradiction fun hne => hproven ⟨by rw [h3]; decide, hne⟩
    rw [State.inTripTest, hready] at hin
    exact Bool.false_ne_true hin
  refine ⟨⟨htest, fun j h hmem => Bool.false_ne_true (hlimits _ hmem rfl)⟩, fun j => ?_, hs.channels htest⟩
  by_cases hjk : stageCode j ≤ stageCode k
  · rw [decide_eq_true hjk, hs.latches.latched_of_le hjk hk]
  · rw [decide_eq_false hjk, habove j (Nat.lt_of_not_le hjk)]

section
variable {s : State} {k : Stage} (hs : s.Resettable k)
include hs

theorem State.Resettable.cleared_unlatch : Cleared s (s.unlatch k) (stagesDown k) :=
  hs.quiet.cleared_foldl (stagesDown k) (nodup_stagesDown k) fun j hj h => by
    rw [hs.commanded, hs.latched, decide_eq_true (mem_stagesDown.mp hj)]; rfl

/-- With the stages up to k cleared, every stage is clear. -/
theorem State.Resettable.unlatch_latched (j : Stage) : (s.unlatch k).latched j = false := by
  unfold State.latched
  rw [hs.cleared_unlatch.latch]
  by_cases hj : stageCode j ≤ stageCode k
  · rw [if_pos (mem_stagesDown.mpr hj)]; rfl
  · rw [if_neg (mt mem_stagesDown.mp hj)]
    exact (hs.latched j).trans (decide_eq_false hj)

theorem State.Resettable.unlatch_latches : (s.unlatch k).latches = ⟨false, false, false⟩ := by
  simp only [State.latches, hs.unlatch_latched]

/-- With every stage clear, every channel is energised. -/
theorem State.Resettable.unlatch_commanded (j : Stage) (h : Chan) :
    ((s.unlatch k).channel j h).commanded = true := by
  rw [hs.cleared_unlatch.channel]
  by_cases hj : stageCode j ≤ stageCode k
  · rw [if_pos (mem_stagesDown.mpr hj)]; rfl
  · rw [if_neg (mt mem_stagesDown.mp hj), hs.commanded, hs.latched, decide_eq_false hj]; rfl

/-- The channels of the stages cleared have been compared with their readbacks. -/
theorem State.Resettable.unlatch_mismatch {j : Stage} (hj : stageCode j ≤ stageCode k) (h : Chan) :
    ((s.unlatch k).channel j h).mismatch =
      if s.readback j h then none else (s.channel j h).mismatch.or (some 20) := by
  rw [hs.cleared_unlatch.channel, if_pos (mem_stagesDown.mpr hj)]; rfl

end

/-! ## The effects of an accepted reset (R140) -/

theorem State.markHold_eq (s : State) :
    s.markHold = { s with drums := { s.drums with holdDue := !s.inputs.clutch || s.drums.holdDue } } := by
  unfold State.markHold
  cases s.inputs.clutch <;> rfl

/-- The recovery that stands after an accepted reset (R125, R142). -/
def State.recoveryAfterReset (s : State) (k : Stage) (recover : Bool) : Option (PerSide (Option Offence)) :=
  if s.recoverCase k recover && s.trip.active.any Cause.isLimit then some ⟨s.offenceOf .one, s.offenceOf .two⟩
  else s.wind.recovery

/-- An accepted reset block by block. -/
theorem State.Resettable.resetTrip_eq {s : State} {k : Stage} (hs : s.Resettable k) (recover : Bool) :
    s.resetTrip k recover = { s with
      link := s.link.push (s.stamped (.tripReset k ⟨false, false, false⟩))
      drums := { s.drums with
        drum := ⟨{ s.drums.drum.one with restDue := true }, { s.drums.drum.two with restDue := true }⟩
        holdDue := !s.inputs.clutch || s.drums.holdDue }
      wind := { s.wind with
        unintended := ⟨false, false⟩, creepFlag := false, recovery := s.recoveryAfterReset k recover }
      trip := { s.trip with latch := (s.unlatch k).trip.latch, chan := (s.unlatch k).trip.chan } } := by
  have hrest := hs.cleared_unlatch.rest
  unfold State.resetTrip State.recoveryAfterReset
  dsimp only
  rw [hs.unlatch_latches, State.report_eq, State.markHold_eq]
  generalize s.unlatch k = u at hrest ⊢
  rw [hrest]
  split <;> rfl

theorem State.offenceOf_of_inside {s : State} {d : Side} (h : s.env.limit.get d = .inside) : s.offenceOf d = none := by
  unfold State.offenceOf
  rw [h]
  rfl

/-- An offending side carries the outward sense last handed for it and its payout (R125). -/
theorem State.offenceOf_of_beyond {s : State} {d : Side} {o : Dir} (h : s.env.limit.get d ≠ .inside)
    (ho : s.wind.outward.get d = some o) : s.offenceOf d = some ⟨o, (s.drums.drum.get d).payoutMm⟩ := by
  unfold State.offenceOf
  rw [ho]
  cases hl : s.env.limit.get d with
  | inside => exact absurd hl h
  | beyondTop => rfl
  | beyondBottom => rfl

/-- When the recover flag passes over a LIMIT, recovery holds the offence of each side. -/
theorem State.recoveryAfterReset_of_recovers {s : State} {k : Stage} {flag : Byte}
    (hr : k = .s3 ∧ flag = 1 ∧ ∀ c ∈ s.trip.active, c.isCondition = true → c.isLimit = true)
    (hl : ∃ c ∈ s.trip.active, c.isLimit = true) :
    ∃ r, s.recoveryAfterReset k (decide (flag = 1)) = some r ∧ ∀ d, r.get d = s.offenceOf d := by
  unfold State.recoveryAfterReset
  rw [State.recoverCase_eq, decide_eq_true hr, List.any_eq_true.mpr hl]
  exact ⟨_, rfl, fun d => by cases d <;> rfl⟩

/-- Otherwise recovery stands as it stood. -/
theorem State.recoveryAfterReset_of_not {s : State} {k : Stage} {flag : Byte}
    (h : ¬ ((k = .s3 ∧ flag = 1 ∧ ∀ c ∈ s.trip.active, c.isCondition = true → c.isLimit = true) ∧
      ∃ c ∈ s.trip.active, c.isLimit = true)) :
    s.recoveryAfterReset k (decide (flag = 1)) = s.wind.recovery := by
  unfold State.recoveryAfterReset
  refine if_neg fun hboth => h ?_
  rw [State.recoverCase_eq, Bool.and_eq_true, decide_eq_true_eq, List.any_eq_true] at hboth
  exact hboth

/-! ## The request at its owner -/

theorem exec_tripReset (tag : Byte) (body : List Byte) (s : State) :
    exec (.tripReset tag body) s = .next (s.request 0x05 tag 2 body fun x => x.ownTripReset body) := rfl

theorem recoverFlag_of_lt {n : Nat} (h : 1 < n) : recoverFlag n = none := by
  unfold recoverFlag
  split
  · contradiction
  · contradiction
  · rfl

theorem recoverFlag_of_le {flag : Byte} (h : flag.toNat ≤ 1) : recoverFlag flag.toNat = some (decide (flag = 1)) := by
  have hflag : flag = 0 ∨ flag = 1 := by bv_omega
  rcases hflag with rfl | rfl <;> rfl

theorem State.ownTripReset_of_range {s : State} {b0 b1 : Byte} (h : stageOfCode b0.toNat = none ∨ 1 < b1.toNat) :
    s.ownTripReset [b0, b1] = s.deny .range := by
  have hb0 : byteAt [b0, b1] 0 = b0.toNat := rfl
  have hb1 : byteAt [b0, b1] 1 = b1.toNat := rfl
  simp only [State.ownTripReset, hb0, hb1]
  rcases h with h | h
  · rw [h]
  · rw [recoverFlag_of_lt h]
    cases stageOfCode b0.toNat <;> rfl

section
variable {s : State} {b0 b1 : Byte} {k : Stage} (hk : stageOfCode b0.toNat = some k) (hb1 : b1.toNat ≤ 1)
include hk hb1

theorem State.ownTripReset_of_refusal {why : Result} (h : firstRefusal (s.resetChecks k b1) = some why) :
    s.ownTripReset [b0, b1] = s.deny why := by
  have hstage : stageOfCode (byteAt [b0, b1] 0) = some k := hk
  have hflag : recoverFlag (byteAt [b0, b1] 1) = some (decide (b1 = 1)) := recoverFlag_of_le hb1
  simp only [State.ownTripReset, hstage, hflag, State.resetRefusal_eq_firstRefusal, h]

theorem State.ownTripReset_of_passed (h : firstRefusal (s.resetChecks k b1) = none) :
    s.ownTripReset [b0, b1] = if s.latched k then (s.resetTrip k (decide (b1 = 1))).done [] else s.done [] := by
  have hstage : stageOfCode (byteAt [b0, b1] 0) = some k := hk
  have hflag : recoverFlag (byteAt [b0, b1] 1) = some (decide (b1 = 1)) := recoverFlag_of_le hb1
  simp only [State.ownTripReset, hstage, hflag, State.resetRefusal_eq_firstRefusal, h]

end

/-- Settles O17: the checks see what stood before the arrival; passed, they make the state resettable, and the reset works
over the arrival. -/
theorem tripResetIsJudgedAndUnlatches : Obligations.TripResetIsJudgedAndUnlatches := by
  intro tag b0 b1 s hs hcoherent
  have hexec := exec_tripReset tag [b0, b1] s
  refine ⟨fun hrange => ?_, ?_⟩
  · exact State.request_denied hexec hs rfl rfl fun _ => State.ownTripReset_of_range hrange
  intro k hk hb1 recovers refusal
  have hchecks (p) : firstRefusal ((s.arrived p).resetChecks k b1) = refusal := rfl
  obtain ⟨p, hp⟩ := s.frameArrives_eq_arrived (n := 0x05) rfl
  have howner (hpassed : refusal = none) := State.ownTripReset_of_passed hk hb1 ((hchecks p).trans hpassed)
  refine ⟨fun why hwhy => ?_, fun hpassed hclear => ?_, fun hpassed hlatched => ?_⟩
  · exact State.request_denied hexec hs rfl rfl fun p => State.ownTripReset_of_refusal hk hb1 ((hchecks p).trans hwhy)
  · have hkept : (s.frameArrives 0x05).ownTripReset [b0, b1] = (s.frameArrives 0x05).done [] := by
      rw [hp]; exact (howner hpassed).trans (if_neg (ne_true_of_eq_false hclear))
    exact State.request_onlyReplied hexec hs rfl rfl hkept
  · obtain ⟨hquiet, hstages, hchannels⟩ := hcoherent.resettable hpassed hlatched
    have hreset : (s.arrived p).Resettable k := ⟨hquiet, hstages, hchannels⟩
    have heq := hreset.resetTrip_eq (decide (b1 = 1))
    refine (State.request_served hexec hs rfl rfl hp ((howner hpassed).trans (if_pos hlatched))
      (bodies := [.tripReset k ⟨false, false, false⟩]) ?_).imp ?_
    · rw [heq]; rfl
    rintro t ⟨hserved, hport, ht⟩
    rw [heq] at ht
    have hlatches : t.latches = ((s.arrived p).unlatch k).latches := by rw [ht]; rfl
    have hchannel (j h) : t.channel j h = ((s.arrived p).unlatch k).channel j h := by rw [ht]; rfl
    have hrecovery : t.wind.recovery = s.recoveryAfterReset k (decide (b1 = 1)) := by rw [ht]; rfl
    refine ⟨hserved, hport, hlatches.trans hreset.unlatch_latches, fun j h => ?_, fun j h hj => ?_, ?_, ?_, ?_,
      fun ⟨hr, hl⟩ => ?_, fun hnot => ?_, ?_⟩
    · rw [hchannel]; exact hreset.unlatch_commanded j h
    · rw [hchannel]; exact hreset.unlatch_mismatch hj h
    · rw [ht]; rfl
    · rw [ht]; rfl
    · rw [ht]; rfl
    · obtain ⟨r, hsome, hget⟩ := State.recoveryAfterReset_of_recovers hr hl
      exact ⟨r, hrecovery.trans hsome, fun d => ⟨fun hinside => (hget d).trans (State.offenceOf_of_inside hinside),
        fun o hbeyond ho => (hget d).trans (State.offenceOf_of_beyond hbeyond ho)⟩⟩
    · exact hrecovery.trans (State.recoveryAfterReset_of_not hnot)
    · rw [ht]; rfl

end Sys2Proof.Machine
end

section
/-! The proof sequence: how the proof unit concludes a step (R152, R157), and ECHO-RETURN (R158). -/

namespace Sys2Proof.Machine

/-! ## The conduct of the proof as an update of two blocks -/

/-- The proof unit replaced and reports of the present moment created; every other block as it was. -/
def State.concluded (s : State) (x : ProofUnit) (bodies : List ReportBody) : State :=
  { s with link := s.link.pushAll (bodies.map s.stamped), proof := x }

/-- Outside step 5 a failing proof has no channels to release (R152). -/
theorem State.failProof_eq {s : State} (h : s.inTripTest = false) (step code detail : Nat) :
    s.failProof step code detail =
      s.concluded ⟨.proofFailed, some (code, detail)⟩ [.proofFail step code detail] := by
  unfold State.failProof State.leaveProof
  rw [h, State.report_eq]
  rfl

/-- The proof unit that awaits the exchange of a pattern, its probe queued and not yet sent (R157). -/
def State.awaiting (s : State) (pattern : Half) : ProofUnit :=
  { s.proof with readiness := .proving (.echo pattern s.clock.stamp false (some 1000)) }

theorem State.sendProbe_eq (s : State) (pattern : Half) :
    s.sendProbe pattern = s.concluded (s.awaiting pattern) [.echoProbe pattern] := by
  unfold State.sendProbe
  rw [State.report_eq]
  rfl

/-- The pass of step 6 is the end of the proof (R152, R157). -/
theorem State.passProof_report_eq (s : State) :
    (s.report (.proofStep 6)).passProof = s.concluded ⟨.proven, none⟩ [.proofStep 6, .proofPass] := by
  unfold State.passProof
  rw [State.report_eq, State.report_eq]
  rfl

/-! ## A return judged in step 6 (R158) -/

theorem State.passExchange_of_last (s : State) {pattern : Half} (h : pattern = 0x8000) :
    s.passExchange pattern = s.concluded ⟨.proven, none⟩ [.proofStep 6, .proofPass] :=
  (if_pos h).trans s.passProof_report_eq

theorem State.passExchange_of_ne (s : State) {pattern : Half} (h : pattern ≠ 0x8000) :
    s.passExchange pattern = s.concluded (s.awaiting (pattern <<< 1)) [.echoProbe (pattern <<< 1)] :=
  (if_neg h).trans (s.sendProbe_eq _)

section
variable {s : State} {awaited got : Half}

theorem State.judgeReturn_of_early (h : s.inTripTest = false) :
    s.judgeReturn awaited false got =
      s.concluded ⟨.proofFailed, some (0x89, got.toNat)⟩ [.proofFail 6 0x89 got.toNat] :=
  State.failProof_eq h 6 0x89 got.toNat

theorem State.judgeReturn_of_wrong (h : s.inTripTest = false) (hne : got ≠ awaited) :
    s.judgeReturn awaited true got =
      s.concluded ⟨.proofFailed, some (0x88, got.toNat)⟩ [.proofFail 6 0x88 got.toNat] :=
  (if_neg hne).trans (State.failProof_eq h 6 0x88 got.toNat)

theorem State.judgeReturn_of_right (s : State) (h : got = awaited) :
    s.judgeReturn awaited true got = s.passExchange awaited := if_pos h

end

/-! ## ECHO-RETURN at its owner -/

theorem exec_echoReturn (tag : Byte) (body : List Byte) (s : State) :
    exec (.echoReturn tag body) s = .next (s.request 0x07 tag 2 body fun x => x.ownEchoReturn body) := rfl

theorem State.ownEchoReturn_of_outside {s : State} (body : List Byte)
    (h : ∀ p m o n, s.proof.readiness ≠ .proving (.echo p m o n)) :
    s.ownEchoReturn body = s.deny .notExpected := by
  unfold State.ownEchoReturn
  split
  next hr => exact absurd hr (h _ _ _ _)
  next => rfl

section
variable {s : State} {awaited : Half} {made : Word} {outstanding : Bool} {timer : Timer}
  (hr : s.proof.readiness = .proving (.echo awaited made outstanding timer))
include hr

theorem State.inTripTest_of_echo : s.inTripTest = false := by
  unfold State.inTripTest
  rw [hr]

theorem State.ownEchoReturn_of_echo (hi lo : Byte) :
    s.ownEchoReturn [hi, lo] = (s.judgeReturn awaited outstanding (hi ++ lo)).done [] := by
  have hgot : halfAt [hi, lo] 0 = hi ++ lo := halfAt_eq_append 0 hi lo []
  simp only [State.ownEchoReturn, hr, hgot]

/-- A return judged in step 6 is answered DONE, and touches the proof unit alone besides what the arrival does. -/
theorem State.echoReturn_concluded {tag hi lo : Byte} {x : ProofUnit} {bodies : List ReportBody} (hs : s.ready)
    (h : ∀ p, (s.arrived p).judgeReturn awaited outstanding (hi ++ lo) = (s.arrived p).concluded x bodies) :
    Answers (.echoReturn tag [hi, lo]) s fun t =>
      s.Served t ⟨0x07, tag, .done, []⟩ bodies ∧ t.proof = x ∧ s.PortKept t ∧
        t = { s with link := t.link, table := { s.table with staged := s.stagedLeft }, proof := t.proof } := by
  obtain ⟨p, hp⟩ := s.frameArrives_eq_arrived (n := 0x07) rfl
  have howner : (s.arrived p).ownEchoReturn [hi, lo] = ((s.arrived p).concluded x bodies).done [] := by
    rw [State.ownEchoReturn_of_echo (s := s.arrived p) hr, h]
  refine (State.request_served (exec_echoReturn tag [hi, lo] s) hs rfl rfl hp howner rfl).imp ?_
  rintro t ⟨hserved, hport, ht⟩
  have hproof : t.proof = x := by rw [ht]; rfl
  exact ⟨hserved, hproof, hport, by rw [hproof]; exact ht⟩

end

/-- Settles O25: the owner sees the proof as it stood before the arrival; the four ways to judge a return exclude
each other. -/
theorem echoReturnsAreJudged : Obligations.EchoReturnsAreJudged := by
  intro tag hi lo s hs
  refine ⟨fun houtside => ?_, fun awaited made outstanding timer hr => ?_⟩
  · exact State.request_denied (exec_echoReturn tag [hi, lo] s) hs rfl rfl fun _ =>
      State.ownEchoReturn_of_outside _ houtside
  have htest (p) : (s.arrived p).inTripTest = false := State.inTripTest_of_echo (s := s.arrived p) hr
  cases outstanding with
  | false =>
    refine (State.echoReturn_concluded hr hs fun p => State.judgeReturn_of_early (htest p)).imp ?_
    rintro t ⟨hserved, hproof, hframe⟩
    exact ⟨fun _ => ⟨hserved, hproof⟩, nofun, nofun, nofun, hframe⟩
  | true =>
    by_cases hgot : hi ++ lo = awaited
    · by_cases hlast : awaited = 0x8000
      · have hpassed (p) := ((s.arrived p).judgeReturn_of_right hgot).trans ((s.arrived p).passExchange_of_last hlast)
        refine (State.echoReturn_concluded hr hs hpassed).imp ?_
        rintro t ⟨hserved, hproof, hframe⟩
        exact ⟨nofun, fun _ hne => absurd hgot hne, fun _ _ hne => absurd hlast hne,
          fun _ _ _ => ⟨hserved, hproof⟩, hframe⟩
      · have hpassed (p) := ((s.arrived p).judgeReturn_of_right hgot).trans ((s.arrived p).passExchange_of_ne hlast)
        refine (State.echoReturn_concluded hr hs (x := s.awaiting (awaited <<< 1)) hpassed).imp ?_
        rintro t ⟨hserved, hproof, hframe⟩
        exact ⟨nofun, fun _ hne => absurd hgot hne, fun _ _ _ => ⟨hserved, hproof⟩,
          fun _ _ heq => absurd heq hlast, hframe⟩
    · refine (State.echoReturn_concluded hr hs fun p => State.judgeReturn_of_wrong (htest p) hgot).imp ?_
      rintro t ⟨hserved, hproof, hframe⟩
      exact ⟨nofun, fun _ _ => ⟨hserved, hproof⟩, fun _ heq => absurd heq hgot, fun _ heq => absurd heq hgot,
        hframe⟩

end Sys2Proof.Machine
end


section
/-! What the work of the blocks keeps, beyond Laws/Flow: the coherence of the trip unit with the wind controller and the
proof unit (R121, R131, R133), and the furthest point of a wind (R112). -/

namespace Sys2Proof.Machine

/-! ## The output channels follow the latches (R131, R132) -/

/-- A comparison sets timers, never a command. -/
@[simp] theorem State.compareChannel_commanded (s : State) (k j : Stage) (c h : Chan) :
    ((s.compareChannel k c).channel j h).commanded = (s.channel j h).commanded := by
  have hset (x : OutChannel) (hx : x.commanded = (s.channel k c).commanded) :
      ((s.setChannel k c x).channel j h).commanded = (s.channel j h).commanded := by
    by_cases heq : j = k ∧ h = c
    · obtain ⟨rfl, rfl⟩ := heq
      rw [State.channel_setChannel_self, hx]
    · rw [State.channel_setChannel_ne _ _ fun hj hh => heq ⟨hj, hh⟩]
  unfold State.compareChannel
  split
  next => rfl
  next =>
    split
    next => exact hset _ rfl
    next =>
      split
      next => exact hset _ rfl
      next => rfl

theorem State.command_commanded (s : State) (k j : Stage) (c h : Chan) (e : Bool) :
    ((s.command k c e).channel j h).commanded = if j = k ∧ h = c then e else (s.channel j h).commanded := by
  by_cases heq : j = k ∧ h = c
  · rw [if_pos heq]
    obtain ⟨rfl, rfl⟩ := heq
    unfold State.command
    split
    next hsame => exact hsame
    next => rw [State.compareChannel_commanded, State.channel_setChannel_self]
  · rw [if_neg heq]
    unfold State.command
    split
    next => rfl
    next =>
      rw [State.compareChannel_commanded, State.channel_setChannel_ne _ _ fun hj hh => heq ⟨hj, hh⟩]

/-- Outside step 5 of the proof both channels of a stage are set by its latch, and no other channel. -/
theorem State.followLatch_commanded {s : State} (htest : s.inTripTest = false) (k j : Stage) (h : Chan) :
    ((s.followLatch k).channel j h).commanded = if j = k then !s.latched k else (s.channel j h).commanded := by
  unfold State.followLatch
  rw [if_neg (ne_true_of_eq_false htest), State.command_commanded, State.command_commanded]
  by_cases hj : j = k
  · cases h <;> simp [hj]
  · simp [hj]

@[simp] theorem State.setLatch_latch (s : State) (k : Stage) (l : Latch) :
    (s.setLatch k l).trip.latch = s.trip.latch.set k l := (channelWork_followLatch _ k).latch

theorem State.inTripTest_congr {s t : State} (h : t.proof = s.proof) : t.inTripTest = s.inTripTest := by
  unfold State.inTripTest
  rw [h]

theorem State.isProving_congr {s t : State} (h : t.proof = s.proof) : t.isProving = s.isProving := by
  unfold State.isProving
  rw [h]

theorem State.ChannelsFollow.setLatch {s : State} (hs : s.ChannelsFollow) (k : Stage) (l : Latch) :
    (s.setLatch k l).ChannelsFollow := by
  intro htest j h
  have hin : s.inTripTest = false := by rwa [State.inTripTest_congr (s.setLatch_proof k l)] at htest
  have hset : (s.setTrip { s.trip with latch := s.trip.latch.set k l }).inTripTest = false := hin
  have hlatched : (s.setLatch k l).latched j = if j = k then l.isLatched else s.latched j := by
    unfold State.latched
    rw [State.setLatch_latch]
    by_cases hj : j = k
    · rw [hj, PerStage.get_set_self, if_pos rfl]
    · rw [PerStage.get_set_ne _ _ _ _ hj, if_neg hj]
  rw [hlatched]
  refine (State.followLatch_commanded hset k j h).trans ?_
  by_cases hj : j = k
  · simp [hj, State.latched]
  · rw [if_neg hj, if_neg hj]
    exact hs hin j h

/-! ## The active set only gains what is raised (R136) -/

theorem State.compareChannel_active_subset (s : State) (k : Stage) (c : Chan) :
    (s.compareChannel k c).trip.active ⊆ s.trip.active := by
  unfold State.compareChannel
  split
  next => exact List.Subset.refl _
  next =>
    split
    next => exact fun _ h => (List.mem_filter.mp h).1
    next => split <;> exact List.Subset.refl _

theorem State.command_active_subset (s : State) (k : Stage) (c : Chan) (e : Bool) :
    (s.command k c e).trip.active ⊆ s.trip.active := by
  unfold State.command
  split
  next => exact List.Subset.refl _
  next => exact State.compareChannel_active_subset _ k c

theorem State.setLatch_active_subset (s : State) (k : Stage) (l : Latch) :
    (s.setLatch k l).trip.active ⊆ s.trip.active := by
  unfold State.setLatch State.followLatch
  split
  next => exact List.Subset.refl _
  next => exact List.Subset.trans (State.command_active_subset _ k .y _) (State.command_active_subset _ k .x _)

theorem State.latchAll_active_subset (c : Cause) (ks : List Stage) (s : State) :
    (s.latchAll c ks).trip.active ⊆ s.trip.active := by
  induction ks generalizing s with
  | nil => exact List.Subset.refl _
  | cons k ks ih => exact List.Subset.trans (ih _) (s.setLatch_active_subset k _)

theorem State.noted_active_subset (s : State) (c : Cause) : (s.noted c).trip.active ⊆ s.trip.active ++ [c] := by
  unfold State.noted State.addActive
  split
  next => split
          next => exact List.subset_append_left _ _
          next => exact List.Subset.refl _
  next => exact List.subset_append_left _ _

theorem State.mem_raiseRecord_active {s : State} {c x : Cause} (h : x ∈ (s.raiseRecord c).trip.active) :
    x ∈ s.trip.active ∨ x = c := by
  rw [State.raiseRecord_trip] at h
  simpa using s.noted_active_subset c (State.latchAll_active_subset c _ _ h)

/-! ## The trip unit in itself (R131, R133) -/

/-- The part of coherence that the trip unit keeps by itself: ordered latches, channels that follow them, and stage 3
latched under a condition other than LIMIT. -/
structure State.TripSound (s : State) : Prop where
  latches : s.LatchesOrdered
  channels : s.ChannelsFollow
  conditions : s.ConditionsHold

theorem State.Coherent.tripSound {s : State} (h : s.Coherent) : s.TripSound := ⟨h.latches, h.channels, h.conditions⟩

/-- It reads the trip unit, and of the proof whether step 5 is under way. -/
theorem State.TripSound.congr {s t : State} (hs : s.TripSound) (ht : t.trip = s.trip)
    (hp : t.inTripTest = s.inTripTest) : t.TripSound := by
  obtain ⟨hlatches, hchannels, hconditions⟩ := hs
  constructor
  · simpa only [State.LatchesOrdered, State.latched, ht] using hlatches
  · simpa only [State.ChannelsFollow, State.latched, State.channel, ht, hp] using hchannels
  · simpa only [State.ConditionsHold, State.latched, ht] using hconditions

/-- Nor does it turn on the cause set, the capture, timers, or an entry that leaves the active set or is no condition. -/
theorem State.TripSound.of_active {s t : State} (hs : s.TripSound) (hlatch : t.trip.latch = s.trip.latch)
    (hchan : ∀ k h, (t.channel k h).commanded = (s.channel k h).commanded)
    (hactive : ∀ x ∈ t.trip.active, x ∈ s.trip.active ∨ x.isCondition = false)
    (hp : t.inTripTest = s.inTripTest) : t.TripSound := by
  obtain ⟨hlatches, hchannels, hconditions⟩ := hs
  constructor
  · simpa only [State.LatchesOrdered, State.latched, hlatch] using hlatches
  · simpa only [State.ChannelsFollow, State.latched, hchan, hlatch, hp] using hchannels
  · intro x hx hcond hother
    rcases hactive x hx with hmem | hno
    · simpa only [State.latched, hlatch] using hconditions x hmem hcond hother
    · rw [hno] at hcond; contradiction

/-- A raise leaves latched what it reaches and what was latched (R134). -/
theorem State.raiseRecord_latched (s : State) (c : Cause) (k : Stage) :
    (s.raiseRecord c).latched k = (s.latched k || c.reaches k) := by
  have hget := s.raiseRecord_latch c k
  unfold State.latched at *
  rw [hget]
  by_cases hk : k ∈ s.newlyLatched c
  · rw [if_pos hk, (State.mem_newlyLatched.mp hk).1, Bool.or_true]; rfl
  · rw [if_neg hk]
    cases hl : (s.trip.latch.get k).isLatched with
    | true => rfl
    | false =>
      cases hr : c.reaches k with
      | false => rfl
      | true => exact absurd (State.mem_newlyLatched.mpr ⟨hr, hl⟩) hk

/-- A cause that reaches a stage reaches the lower ones. -/
theorem Cause.reaches_ordered (c : Cause) :
    (c.reaches .s3 = true → c.reaches .s2 = true) ∧ (c.reaches .s2 = true → c.reaches .s1 = true) := by
  unfold Cause.reaches
  cases c.stage with
  | none => exact ⟨id, id⟩
  | some top => cases top <;> decide

/-- Every condition is raised at stage 3 (R133). -/
theorem Cause.reaches_of_isCondition {c : Cause} (h : c.isCondition = true) (k : Stage) : c.reaches k = true := by
  cases c <;> first | contradiction | (cases k <;> rfl)

theorem State.ChannelsFollow.latchAll {c : Cause} (ks : List Stage) {s : State} (hs : s.ChannelsFollow) :
    (s.latchAll c ks).ChannelsFollow := by
  induction ks generalizing s with
  | nil => exact hs
  | cons k ks ih => exact ih (hs.setLatch k _)

theorem State.noted_chan (s : State) (c : Cause) : (s.noted c).trip.chan = s.trip.chan := by
  unfold State.noted State.addActive
  split
  · split <;> rfl
  · rfl

theorem State.noted_proof (s : State) (c : Cause) : (s.noted c).proof = s.proof := by
  unfold State.noted
  split <;> simp only [State.addActive_proof, State.addCause_proof]

theorem State.TripSound.raiseRecord {s : State} (hs : s.TripSound) (c : Cause) : (s.raiseRecord c).TripSound := by
  obtain ⟨⟨h32, h21⟩, hchannels, hconditions⟩ := hs
  obtain ⟨c32, c21⟩ := c.reaches_ordered
  refine ⟨⟨?_, ?_⟩, ?_, ?_⟩
  · simp only [State.raiseRecord_latched, Bool.or_eq_true]
    exact Or.imp h32 c32
  · simp only [State.raiseRecord_latched, Bool.or_eq_true]
    exact Or.imp h21 c21
  · have hnoted : (s.noted c).ChannelsFollow := by
      simpa only [State.ChannelsFollow, State.latched, State.channel, State.noted_latch, State.noted_chan,
        State.inTripTest_congr (s.noted_proof c)] using hchannels
    have hall := hnoted.latchAll (c := c) (s.newlyLatched c)
    have hproof : (s.raiseRecord c).proof = ((s.noted c).latchAll c (s.newlyLatched c)).proof := by
      rw [State.raiseRecord_proof, State.latchAll, State.setLatches_proof, State.noted_proof]
    unfold State.ChannelsFollow State.latched State.channel at *
    rw [State.inTripTest_congr hproof, State.raiseRecord_trip]
    exact hall
  · intro x hx hcond hother
    rw [State.raiseRecord_latched, Bool.or_eq_true]
    rcases State.mem_raiseRecord_active hx with hmem | rfl
    · exact .inl (hconditions x hmem hcond hother)
    · exact .inr (Cause.reaches_of_isCondition hcond .s3)

theorem State.TripSound.reraise (l : List Cause) {s : State} (hs : s.TripSound) :
    (l.foldl State.raiseRecord s).TripSound := by
  induction l generalizing s with
  | nil => exact hs
  | cons c l ih => exact ih (hs.raiseRecord c)

theorem State.TripSound.endRecovery {s : State} (hs : s.TripSound) : s.endRecovery.TripSound := by
  unfold State.endRecovery
  split
  next => exact hs
  next => exact State.TripSound.reraise _ (hs.congr rfl rfl)

theorem State.TripSound.recoveryJudgedFor {s : State} (hs : s.TripSound) (b : Bool) :
    (s.recoveryJudgedFor b).TripSound := by
  unfold State.recoveryJudgedFor
  rw [State.judgeRecoveryEnd_eq]
  split
  next =>
    split
    next => exact hs.endRecovery
    next => exact hs
  next => exact hs

/-! ## The work of the blocks -/

/-- The work of the blocks from `s` to `t`, the proof unit's and the requests' own apart. -/
structure Work (s t : State) : Prop extends Flow s t where
  load : t.link.load = s.link.load
  restartDue : t.link.restartDue = s.link.restartDue
  proof : t.proof = s.proof
  trip : s.TripSound → t.TripSound
  winds : s.WindsClear → t.WindsClear
  furthest : s.FurthestFits → t.FurthestFits

theorem Work.rfl {s : State} : Work s s := ⟨.rfl, .refl _, .refl _, .refl _, id, id, id⟩

theorem Work.trans {s t u : State} (h : Work s t) (g : Work t u) : Work s u :=
  ⟨h.toFlow.trans g.toFlow, g.load.trans h.load, g.restartDue.trans h.restartDue, g.proof.trans h.proof,
    fun x => g.trip (h.trip x), fun x => g.winds (h.winds x), fun x => g.furthest (h.furthest x)⟩

section
variable {s t : State} {p : Prop} [Decidable p]

theorem Work.ite {u : State} (h : Work s t) (g : Work s u) : Work s (if p then t else u) := by
  split
  next => exact h
  next => exact g

theorem Work.onlyIf (h : Work s t) : Work s (if p then t else s) := h.ite .rfl
theorem Work.unless (h : Work s t) : Work s (if p then s else t) := .ite .rfl h

end

theorem State.latched_congr {s t : State} (h : t.trip.latch = s.trip.latch) : t.latched = s.latched := by
  funext k
  unfold State.latched
  rw [h]

theorem State.anyLatched_congr {s t : State} (h : t.trip.latch = s.trip.latch) : t.anyLatched = s.anyLatched := by
  unfold State.anyLatched
  rw [State.latched_congr h]

theorem State.WindsClear.congr {s t : State} (hl : t.trip.latch = s.trip.latch) (hw : t.wind.current = s.wind.current)
    (h : s.WindsClear) : t.WindsClear := by
  unfold State.WindsClear
  rw [hw, State.anyLatched_congr hl]
  exact h

theorem State.FurthestFits.congr {s t : State} (hw : t.wind.current = s.wind.current) (h : s.FurthestFits) :
    t.FurthestFits := by
  unfold State.FurthestFits
  rw [hw]
  exact h

/-- With no wind open there is none to judge. -/
theorem State.windsClear_of_none {s : State} (h : s.wind.current = none) : s.WindsClear :=
  fun _ w hw => by rw [h] at hw; contradiction

theorem State.furthestFits_of_none {s : State} (h : s.wind.current = none) : s.FurthestFits :=
  fun w hw => by rw [h] at hw; contradiction

/-- What the port does besides reports stays as it is when reports are created. -/
theorem Work.of_blocks {s t : State} (h : Flow s t) (load : t.link.load = s.link.load)
    (restartDue : t.link.restartDue = s.link.restartDue) (proof : t.proof = s.proof) (trip : t.trip = s.trip)
    (current : t.wind.current = s.wind.current) : Work s t where
  toFlow := h
  load := load
  restartDue := restartDue
  proof := proof
  trip hs := hs.congr trip (State.inTripTest_congr proof)
  winds := .congr (by rw [trip]) current
  furthest := .congr current

@[simp] theorem LinkPort.push_load (p : LinkPort) (r : Report) : (p.push r).load = p.load := by
  rw [LinkPort.push_eq]
@[simp] theorem LinkPort.push_restartDue (p : LinkPort) (r : Report) : (p.push r).restartDue = p.restartDue := by
  rw [LinkPort.push_eq]

theorem work_report (s : State) (b : ReportBody) : Work s (s.report b) :=
  .of_blocks (flow_report s b) (by simp [State.report_link]) (by simp [State.report_link]) (by simp) (by simp)
    (by simp)

theorem work_setEnv (s : State) (x : Envelope) : Work s (s.setEnv x) :=
  .of_blocks (flow_setEnv s x) rfl rfl rfl rfl rfl

theorem work_setRope (s : State) (x : RopeUnit) : Work s (s.setRope x) :=
  .of_blocks (flow_setRope s x) rfl rfl rfl rfl rfl

theorem work_setRopeSide (s : State) (d : Side) (x : RopeSide) : Work s (s.setRopeSide d x) := work_setRope s _

theorem work_setTable (s : State) (x : ShaftTable) (h : x.active = s.table.active) : Work s (s.setTable x) :=
  .of_blocks (flow_setTable s x h) rfl rfl rfl rfl rfl

theorem work_requestPark (s : State) : Work s s.requestPark :=
  .of_blocks (flow_requestPark s) (by simp) (by simp) (by simp) (by simp) (by simp)

theorem work_markRest (s : State) : Work s s.markRest := .of_blocks (flow_markRest s) rfl rfl rfl rfl rfl

theorem work_markHold (s : State) : Work s s.markHold :=
  .of_blocks (flow_markHold s) (by simp) (by simp) (by simp) (by simp) (by simp)

theorem work_startDegrade (s : State) (v : Int) : Work s (s.startDegrade v) :=
  .of_blocks (flow_startDegrade s v) (by simp) (by simp) (by simp) (by simp) (by simp)

/-- The drum unit replaced, with no count moved. -/
theorem work_setDrums (s : State) (x : DrumUnit) (hc : ∀ d, sameCounts (s.drums.drum.get d) (x.drum.get d))
    (hf : s.DrumsFit → x.drum.one.Fits ∧ x.drum.two.Fits) : Work s (s.setDrums x) :=
  .of_blocks (.of_drums s x hc hf) rfl rfl rfl rfl rfl

theorem State.DrumsFit.get {s : State} (h : s.DrumsFit) (d : Side) : (s.drums.drum.get d).Fits := by
  cases d
  · exact h.1
  · exact h.2

/-- One drum replaced, with no count moved. -/
theorem work_setDrum (s : State) (d : Side) (x : Drum) (hc : sameCounts (s.drums.drum.get d) x)
    (hf : (s.drums.drum.get d).Fits → x.Fits) : Work s (s.setDrum d x) := by
  refine work_setDrums s _ (fun e => ?_) fun h => ?_
  · by_cases he : e = d
    · subst he; simpa using hc
    · rw [PerSide.get_set_ne _ _ _ _ he]
      exact ⟨rfl, rfl⟩
  · cases d
    · exact ⟨hf h.1, h.2⟩
    · exact ⟨h.1, hf h.2⟩

theorem State.TracksBounded.get {s : State} (h : s.TracksBounded) (d : Side) :
    (s.depth.get d).Bounded s.authority := by
  obtain ⟨-, -, h1, h2⟩ := h
  cases d
  · exact h1
  · exact h2

/-- One side's track replaced. -/
theorem work_setTrack (s : State) (d : Side) (x : Track) (h : s.TracksBounded → x.Bounded s.authority) :
    Work s (s.setTrack d x) := by
  refine .of_blocks ?_ rfl rfl rfl rfl rfl
  exact ⟨⟨rfl, rfl, rfl, rfl, rfl, .rfl, .rfl, fun _ hk => hk, fun _ => ⟨rfl, rfl⟩, id, fun hb => by
    obtain ⟨h0, hmax, h1, h2⟩ := id hb
    cases d
    · exact ⟨h0, hmax, h hb, h2⟩
    · exact ⟨h0, hmax, h1, h hb⟩⟩, .inl, id⟩

/-- The wind controller replaced, with the open wind, the wind number and the ring as they were. -/
theorem work_setWind (s : State) (x : WindUnit) (hc : x.current = s.wind.current) (hn : x.number = s.wind.number)
    (hh : x.history = s.wind.history) : Work s (s.setWind x) :=
  .of_blocks (.of_wind s x ⟨hn, fun h => hc.trans h, fun h => by rwa [hh]⟩) rfl rfl rfl rfl hc

/-! ## The trip unit's operations -/

/-- Work within the trip unit that leaves latches and commands, and adds no condition to the active set. -/
theorem Work.of_trip {s t : State} (h : Flow s t) (load : t.link.load = s.link.load)
    (restartDue : t.link.restartDue = s.link.restartDue) (proof : t.proof = s.proof)
    (latch : t.trip.latch = s.trip.latch) (chan : ∀ k h, (t.channel k h).commanded = (s.channel k h).commanded)
    (active : ∀ x ∈ t.trip.active, x ∈ s.trip.active ∨ x.isCondition = false)
    (current : t.wind.current = s.wind.current) : Work s t where
  toFlow := h
  load := load
  restartDue := restartDue
  proof := proof
  trip hs := hs.of_active latch chan active (State.inTripTest_congr proof)
  winds := .congr latch current
  furthest := .congr current

theorem work_dropActive (s : State) (p : Cause → Bool) : Work s (s.dropActive p) :=
  .of_trip (flow_dropActive s p) rfl rfl rfl rfl (fun _ _ => rfl) (fun _ hx => .inl (List.mem_filter.mp hx).1) rfl

theorem work_compareChannel (s : State) (k : Stage) (c : Chan) : Work s (s.compareChannel k c) :=
  .of_trip (flow_compareChannel s k c) (by simp) (by simp) (by simp) (channelWork_compareChannel s k c).latch
    (fun _ _ => by simp) (fun _ hx => .inl (s.compareChannel_active_subset k c hx)) (by simp)

/-- A channel's timer set. -/
theorem work_setChannel (s : State) (k : Stage) (c : Chan) (x : OutChannel)
    (h : x.commanded = (s.channel k c).commanded) : Work s (s.setChannel k c x) := by
  refine .of_trip (flow_setChannel s k c x) rfl rfl rfl rfl (fun j g => ?_) (fun _ hx => .inl hx) rfl
  by_cases heq : j = k ∧ g = c
  · obtain ⟨rfl, rfl⟩ := heq
    rw [State.channel_setChannel_self, h]
  · rw [State.channel_setChannel_ne _ _ fun hj hg => heq ⟨hj, hg⟩]

theorem work_offerCapture (s : State) (c : Cause) : Work s (s.offerCapture c) := by
  refine .of_trip (flow_offerCapture s c) (by simp) (by simp) (by simp) ?_ (fun k h => ?_) (fun x hx => .inl ?_)
    (by simp)
  · rw [State.offerCapture_trip]
  · unfold State.channel; rw [State.offerCapture_trip]
  · rw [State.offerCapture_trip] at hx; exact hx

/-- A cause that is no condition noted in the active set. -/
theorem work_addActive (s : State) (c : Cause) (h : c.isCondition = false) : Work s (s.addActive c) := by
  unfold State.addActive
  split
  next => exact .rfl
  next =>
    refine .of_trip (flow_setTrip s _ rfl) rfl rfl rfl rfl (fun _ _ => rfl) (fun x hx => ?_) rfl
    rcases List.mem_append.mp hx with hold | hnew
    · exact .inl hold
    · exact .inr (List.mem_singleton.mp hnew ▸ h)

theorem work_addCause (s : State) (c : Cause) : Work s (s.addCause c) :=
  .of_trip (flow_addCause s c) rfl rfl rfl rfl (fun _ _ => rfl) (fun _ hx => .inl hx) rfl

theorem work_setAdvisory (s : State) (c : Cause) (h : c.isCondition = false) : Work s (s.setAdvisory c) :=
  (((work_addCause s c).trans (work_addActive _ c h)).trans (work_offerCapture _ c)).trans (work_report _ _)

theorem work_clearAdvisory (s : State) (c : Cause) : Work s (s.clearAdvisory c) :=
  (work_dropActive s _).trans (work_report _ _)

/-! ## The open wind -/

/-- A wind whose furthest point fits its start: not behind it before STOPPING, less than 100 mm beyond it in ACCEPTED. -/
def OpenWind.Fits (w : OpenWind) : Prop :=
  (w.phase ≠ .stopping → 0 ≤ (w.furthest - w.startPayout) * w.dir.sign) ∧
    (w.phase = .accepted → (w.furthest - w.startPayout) * w.dir.sign < 100)

theorem State.furthestFits_iff {s : State} : s.FurthestFits ↔ ∀ w, s.wind.current = some w → w.Fits := Iff.rfl

theorem OpenWind.fits_of_stopping {w : OpenWind} (h : w.phase = .stopping) : w.Fits :=
  ⟨fun hne => absurd h hne, fun hacc => by rw [h] at hacc; contradiction⟩

/-- The open wind replaced by one that fits no worse, and that stays in STOPPING. -/
theorem work_setCurrent (s : State) (w v : OpenWind) (hw : s.wind.current = some w)
    (hstop : w.phase = .stopping → v.phase = .stopping) (hfits : w.Fits → v.Fits) : Work s (s.setCurrent v) where
  toFlow := flow_setCurrent s v (by simp [hw])
  load := rfl
  restartDue := rfl
  proof := rfl
  trip hs := hs.congr rfl rfl
  winds hs hany u hu := by cases hu; exact hstop (hs hany w hw)
  furthest hs u hu := by cases hu; exact hfits (hs w hw)

theorem work_countSide (s : State) (d : Side) (f : SideCounts → SideCounts) : Work s (s.countSide d f) := by
  unfold State.countSide
  split
  next => exact .rfl
  next w hw => exact work_setCurrent s w _ hw id id

theorem work_enterStopping (s : State) (w : OpenWind) (why : StopCause) (h : s.wind.current ≠ none) :
    Work s (s.enterStopping w why) where
  toFlow := flow_enterStopping s w why h
  load := by simp [State.enterStopping_eq]
  restartDue := by simp [State.enterStopping_eq]
  proof := by rw [State.enterStopping_eq]
  trip hs := by rw [State.enterStopping_eq]; exact hs.congr rfl rfl
  winds _ _ v hv := by rw [State.enterStopping_eq] at hv; cases hv; rfl
  furthest _ v hv := by
    rw [State.enterStopping_eq] at hv
    cases hv
    exact OpenWind.fits_of_stopping rfl

theorem State.closeWind_current (s : State) (o : WindOutcome) : (s.closeWind o).wind.current = none := by
  cases hw : s.wind.current with
  | none => unfold State.closeWind; rw [hw]; exact hw
  | some w =>
    obtain ⟨-, -, -, ⟨hwind, -⟩, -⟩ := State.closeWind_closes hw o
    rw [hwind]

theorem State.closeWind_of_none {s : State} (h : s.wind.current = none) (o : WindOutcome) : s.closeWind o = s := by
  unfold State.closeWind
  rw [h]

theorem work_closeWind (s : State) (o : WindOutcome) : Work s (s.closeWind o) := by
  cases hw : s.wind.current with
  | none => rw [State.closeWind_of_none hw]; exact .rfl
  | some w =>
    obtain ⟨more, hlink, -, -, -, hframe⟩ := State.closeWind_closes hw o
    have hnone := s.closeWind_current o
    refine ⟨flow_closeWind s o, by rw [hlink, LinkPort.pushAll_load], by rw [hlink, LinkPort.pushAll_restartDue],
      by rw [hframe], fun hs => ?_, fun _ => State.windsClear_of_none hnone, fun _ => State.furthestFits_of_none hnone⟩
    rw [State.closeWind_eq hw]
    refine State.TripSound.recoveryJudgedFor ?_ _
    rw [State.closed_eq]
    exact hs.congr rfl rfl

/-- The end of recovery with no wind open. -/
theorem work_endRecovery (s : State) (h : s.wind.current = none) : Work s s.endRecovery := by
  obtain ⟨reports, -, hlink, hwind⟩ := s.endRecovery_ends
  have hnone : s.endRecovery.wind.current = none := by rw [hwind]; exact h
  exact ⟨flow_endRecovery s, by rw [hlink, LinkPort.pushAll_load], by rw [hlink, LinkPort.pushAll_restartDue],
    by simp, State.TripSound.endRecovery, fun _ => State.windsClear_of_none hnone,
    fun _ => State.furthestFits_of_none hnone⟩

/-! ## A raise taken whole (R121, R134) -/

/-- A wind handed a latch is closed or stops. -/
theorem State.handLatch_stops {s : State} {c : Cause} {v : OpenWind} (h : (s.handLatch c).wind.current = some v) :
    v.phase = .stopping := by
  unfold State.handLatch at h
  split at h
  next hw => rw [hw] at h; contradiction
  next w hw =>
    dsimp only at h
    split at h
    next => rw [State.closeWind_current] at h; contradiction
    next => rw [State.enterStopping_eq] at h; cases h; rfl
    next => rw [State.enterStopping_eq] at h; cases h; rfl
    next hphase => rw [State.setCurrent_current] at h; cases h; exact hphase

/-- The hand-over keeps everything, and whatever was latched no wind stays under way. -/
theorem work_handLatch (s : State) (c : Cause) : Work s (s.handLatch c) ∧ (s.handLatch c).WindsClear := by
  refine ⟨?_, fun _ v hv => State.handLatch_stops hv⟩
  unfold State.handLatch
  split
  next => exact .rfl
  next w hw =>
    have hn : s.wind.current ≠ none := by simp [hw]
    have hgo (v : OpenWind) := work_setCurrent s w v hw
    dsimp only
    split
    next =>
      refine Work.trans (hgo _ ?_ ?_) (work_closeWind _ _)
      · exact id
      · exact id
    next => exact work_enterStopping s _ _ hn
    next => exact work_enterStopping s _ _ hn
    next => exact hgo _ id id

/-- With no stage newly latched no latch has changed. -/
theorem State.raiseRecord_latch_of_none {s : State} {c : Cause} (h : (s.newlyLatched c).isEmpty = true) :
    (s.raiseRecord c).trip.latch = s.trip.latch := by
  refine PerStage.ext_get fun k => ?_
  rw [State.raiseRecord_latch, List.isEmpty_iff.mp h]
  rfl

theorem State.raiseRecord_load (s : State) (c : Cause) :
    (s.raiseRecord c).link.load = s.link.load ∧ (s.raiseRecord c).link.restartDue = s.link.restartDue := by
  rw [State.raiseRecord_link]
  exact ⟨LinkPort.pushAll_load _ _, LinkPort.pushAll_restartDue _ _⟩

theorem work_raiseCause (s : State) (c : Cause) : Work s (s.raiseCause c) := by
  obtain ⟨hload, hdue⟩ := s.raiseRecord_load c
  have hcurrent : (s.raiseRecord c).wind.current = s.wind.current := by simp
  unfold State.raiseCause
  split
  next hnone =>
    exact ⟨flow_raiseRecord s c, hload, hdue, by simp, fun hs => hs.raiseRecord c,
      .congr (State.raiseRecord_latch_of_none hnone) hcurrent, .congr hcurrent⟩
  next =>
    obtain ⟨hwork, hclear⟩ := work_handLatch (s.raiseRecord c) c
    have hproof : (s.raiseRecord c).proof = s.proof := by simp
    refine ⟨(flow_raiseRecord s c).trans hwork.toFlow, ?_, ?_, ?_, fun hs => hwork.trip (hs.raiseRecord c),
      fun _ => hclear, fun hs => hwork.furthest (hs.congr hcurrent)⟩
    · rw [hwork.load, hload]
    · rw [hwork.restartDue, hdue]
    · rw [hwork.proof, hproof]

theorem work_judgeLoadLost (s : State) : Work s s.judgeLoadLost := by
  unfold State.judgeLoadLost
  split
  next => exact work_setRope _ _
  next =>
    split
    next => exact work_setRope _ _
    next =>
      split
      next => exact .rfl
      next => exact (work_setRope _ _).trans (work_raiseCause _ _)

end Sys2Proof.Machine
end


section
/-! The work of each block, operation by operation: the drum unit, the depth tracker, the envelope computer, the wind
controller and the rope load unit keep what Laws/Flow and coherence ask. -/

namespace Sys2Proof.Machine

/-! ## The drum unit (R22 to R38) -/

theorem State.setDrum_setDrum (s : State) (d : Side) (x y : Drum) : (s.setDrum d x).setDrum d y = s.setDrum d y := by
  cases d <;> rfl

theorem State.setDrum_self (s : State) (d : Side) : s.setDrum d (s.drums.drum.get d) = s := by
  cases d <;> rfl

/-- A drum as it enters another state (R23, R28, R32). -/
def Drum.enter (x : Drum) (new : DrumState) : Drum :=
  { x with state := new, disagree := false, agreeing := 0, history := if sameSource x.state new then x.history else [] }

/-- The cause of a drum's new state raised, if it has one (R25, R26). -/
def State.raiseEntry (s : State) (d : Side) (new : DrumState) : State :=
  match entryCause d new with
  | some c => s.raiseCause c
  | none => s

/-- What a drum that has changed its state hands on: its cause, the end of its advisory, the DRUM report and the degrade
state, from the drum as it was (R25, R26, R96). -/
def State.announceDrum (s : State) (d : Side) (x : Drum) (new : DrumState) (degrades : Bool) (v0 : Int) : State :=
  let s2 := s.raiseEntry d new
  let s3 := if x.disagree then s2.clearAdvisory (.encoderDisagreement d) else s2
  let s4 := s3.report (.drum d x.state new x.enc.a.failed x.enc.b.failed x.theta)
  if degrades then s4.startDegrade v0 else s4

theorem State.changeDrum_of_same {s : State} {d : Side} {new : DrumState} (h : (s.drums.drum.get d).state = new) :
    s.changeDrum d new = s := if_pos h

theorem State.changeDrum_of_ne {s : State} {d : Side} {new : DrumState} (h : (s.drums.drum.get d).state ≠ new) :
    s.changeDrum d new = (s.setDrum d ((s.drums.drum.get d).enter new)).announceDrum d (s.drums.drum.get d) new
      (decide ((s.drums.drum.get d).state = .dual) && s.inPlay d) s.playSpeed := by
  unfold State.changeDrum State.announceDrum
  rw [if_neg h]
  simp only [Bool.and_eq_true, decide_eq_true_eq]
  rfl

theorem work_raiseEntry (s : State) (d : Side) (new : DrumState) : Work s (s.raiseEntry d new) := by
  unfold State.raiseEntry
  split
  next => exact work_raiseCause _ _
  next => exact .rfl

theorem work_announceDrum (s : State) (d : Side) (x : Drum) (new : DrumState) (b : Bool) (v : Int) :
    Work s (s.announceDrum d x new b v) :=
  (((work_raiseEntry s d new).trans (.onlyIf (work_clearAdvisory _ _))).trans (work_report _ _)).trans
    (.onlyIf (work_startDegrade _ _))

/-- A drum fits its encoders when its state is the one their health gives. -/
theorem Drum.Fits.of_health {x y : Drum} (hx : x.Fits) (ha : y.enc.a.failed = true ∨ y.enc.a.failed = x.enc.a.failed)
    (hb : y.enc.b.failed = true ∨ y.enc.b.failed = x.enc.b.failed) (hs : y.state = stateOfHealth y.enc x.state)
    (hh : y.history = x.history ∧ y.state = x.state ∨ y.history = if sameSource x.state y.state then x.history else []) :
    y.Fits := by
  obtain ⟨hlost, hB, hA, hlen, hempty⟩ := hx
  have hstate : (y.state = .lost ↔ y.enc.a.failed = true ∧ y.enc.b.failed = true) ∧
      (y.state = .singleB ↔ y.enc.a.failed = true ∧ y.enc.b.failed = false) ∧
      (y.state = .singleA ↔ y.enc.a.failed = false ∧ y.enc.b.failed = true) := by
    rw [hs]
    unfold stateOfHealth
    cases hya : y.enc.a.failed <;> cases hyb : y.enc.b.failed <;> simp_all
  obtain ⟨h1, h2, h3⟩ := hstate
  refine ⟨h1, h2, h3, ?_, fun hl => ?_⟩
  · rcases hh with ⟨hsame, -⟩ | hnew
    · rw [hsame]; exact hlen
    · rw [hnew]; split
      · exact hlen
      · exact Nat.zero_le _
  · rcases hh with ⟨hsame, hst⟩ | hnew
    · rw [hsame]; exact hempty (hst ▸ hl)
    · rw [hnew, hl]
      split
      next hsrc =>
        refine hempty ?_
        cases hx : x.state <;> rw [hx] at hsrc <;> first | rfl | (exact absurd hsrc (by decide))
      next => rfl

/-- The encoders of a drum after failures (R22, R27). -/
def Drum.failing (x : Drum) (a b : Bool) : Drum :=
  { x with enc := ⟨{ x.enc.a with failed := x.enc.a.failed || a }, { x.enc.b with failed := x.enc.b.failed || b }⟩ }

theorem State.failEncoders_eq (s : State) (d : Side) (a b : Bool) :
    s.failEncoders d a b = (s.setDrum d ((s.drums.drum.get d).failing a b)).changeDrum d
      (stateOfHealth ((s.drums.drum.get d).failing a b).enc (s.drums.drum.get d).state) := rfl

/-- Encoders that fail change the drum at once, so that it fits them all along. -/
theorem work_failEncoders (s : State) (d : Side) (a b : Bool) : Work s (s.failEncoders d a b) := by
  rw [State.failEncoders_eq]
  generalize hx : s.drums.drum.get d = x
  have hor (p q : Bool) : (p || q) = true ∨ (p || q) = p := by cases p <;> cases q <;> simp
  by_cases hsame : x.state = stateOfHealth (x.failing a b).enc x.state
  · rw [State.changeDrum_of_same (by rw [State.setDrum_get]; exact hsame)]
    refine work_setDrum s d _ (by rw [hx]; exact ⟨rfl, rfl⟩) fun hf => ?_
    rw [hx] at hf
    exact hf.of_health (hor _ _) (hor _ _) hsame (.inl ⟨rfl, rfl⟩)
  · rw [State.changeDrum_of_ne (by rw [State.setDrum_get]; exact hsame), State.setDrum_get, State.setDrum_setDrum]
    refine Work.trans (work_setDrum s d _ (by rw [hx]; exact ⟨rfl, rfl⟩) fun hf => ?_) (work_announceDrum ..)
    rw [hx] at hf
    exact hf.of_health (hor _ _) (hor _ _) rfl (.inr rfl)

theorem work_failEncoder (s : State) (d : Side) (e : Twin) : Work s (s.failEncoder d e) := work_failEncoders _ _ _ _

/-- A change out of DUAL into DIVERGED. -/
theorem work_diverge (s : State) (d : Side) (h : (s.drums.drum.get d).state = .dual) :
    Work s (s.changeDrum d .diverged) := by
  rw [State.changeDrum_of_ne (by rw [h]; decide)]
  refine Work.trans (work_setDrum s d (Drum.enter _ .diverged) ⟨rfl, rfl⟩ fun hf => ?_) (work_announceDrum ..)
  obtain ⟨hlost, hB, hA, hlen, -⟩ := hf
  rw [h] at hlost hB hA
  refine ⟨?_, ?_, ?_, ?_, nofun⟩
  · exact ⟨nofun, fun hboth => absurd (hlost.mpr hboth) (by decide)⟩
  · exact ⟨nofun, fun hboth => absurd (hB.mpr hboth) (by decide)⟩
  · exact ⟨nofun, fun hboth => absurd (hA.mpr hboth) (by decide)⟩
  · simpa [Drum.enter, h, sameSource] using hlen

theorem work_voteDual (s : State) (d : Side) (h : (s.drums.drum.get d).state = .dual) : Work s (s.voteDual d) := by
  have hset (n : Nat) (b : Bool) : Work s (s.setDrum d { s.drums.drum.get d with agreeing := n, disagree := b }) :=
    work_setDrum s d _ ⟨rfl, rfl⟩ id
  unfold State.voteDual
  dsimp only
  split
  next => exact work_diverge s d h
  next =>
    split
    next => exact ((hset 0 true).trans (.unless (work_setAdvisory _ _ rfl))).trans (work_countSide _ _ _)
    next =>
      split
      next => exact (hset _ _).trans (work_clearAdvisory _ _)
      next => exact hset _ _

theorem work_vote (s : State) (d : Side) : Work s (s.vote d) := by
  unfold State.vote
  dsimp only
  refine Work.trans (Work.trans (t := s.setDrum d { s.drums.drum.get d with theta := (s.drums.drum.get d).formTheta })
    (work_setDrum s d _ ⟨rfl, rfl⟩ id) ?_) (work_setDrum _ d _ ⟨rfl, rfl⟩ id)
  split
  next h => exact work_voteDual _ d (by rw [State.setDrum_get]; exact h)
  next => exact .rfl

theorem work_measure (s : State) (d : Side) (take : Bool) : Work s (s.measure d take) := by
  refine work_setDrum s d _ ⟨rfl, rfl⟩ fun ⟨h1, h2, h3, _, _⟩ => ⟨h1, h2, h3, ?_, fun hlost => if_pos hlost⟩
  dsimp only
  split
  next => exact Nat.zero_le _
  next => simp only [List.length_cons, List.length_take]; omega

theorem work_takeHold (s : State) : Work s s.takeHold := by
  unfold State.takeHold
  refine .onlyIf (.trans (work_setDrums s _ ?_ ?_) (work_setWind _ _ ?_ ?_ ?_))
  · exact fun _ => ⟨rfl, rfl⟩
  · exact id
  · exact rfl
  · exact rfl
  · exact rfl

theorem work_sampleDrums (s : State) : Work s s.sampleDrums := by
  unfold State.sampleDrums
  have hclear : Work s s.clearRestMarks := work_setDrums s _ (fun d => by cases d <;> exact ⟨rfl, rfl⟩) id
  exact (((((hclear.trans (work_vote _ _)).trans (work_vote _ _)).trans (work_measure _ _ _)).trans
    (work_measure _ _ _)).trans (work_takeHold _)).trans (work_setDrums _ _ (fun d => ⟨rfl, rfl⟩) id)

end Sys2Proof.Machine
end


section
/-! The work of the depth tracker, the envelope computer, the wind controller and the rope load unit at their events. -/

namespace Sys2Proof.Machine

/-! ## The depth tracker (R61 to R77) -/

/-- A track is bounded whatever flags, distances, depths and last direction it carries. -/
theorem Track.Bounded.of_same {t x : Track} {m : Int} (h : t.Bounded m) (hK : x.K = t.K) (hs : x.searches = t.searches)
    (hr : x.rejects = t.rejects) (hl : x.lock = t.lock) (hn : x.next = t.next) : x.Bounded m := by
  unfold Track.Bounded at *
  rwa [hK, hs, hr, hl, hn]

/-- A track whose rejections are cleared, outside LOCKED and SUSPECT with no marker expected. -/
theorem Track.Bounded.cleared {t x : Track} {m : Int} (h : t.Bounded m) (hK : x.K = t.K) (hs : x.searches = t.searches)
    (hr : x.rejects = 0) (hn : x.lock.referenced = false → x.next = none) : x.Bounded m := by
  obtain ⟨hlo, hhi, hsearch, -, -, -⟩ := h
  exact ⟨by rwa [hK], by rwa [hK], by rwa [hs], by omega, fun _ => hr, hn⟩

theorem Track.Bounded.rejects_of_ne {t : Track} {m : Int} (h : t.Bounded m) (hl : t.lock ≠ .suspect) :
    t.rejects = 0 := by
  obtain ⟨-, -, -, -, hr, -⟩ := h
  exact hr hl

theorem Track.Bounded.next_of_unreferenced {t : Track} {m : Int} (h : t.Bounded m) (hl : t.lock.referenced = false) :
    t.next = none := by
  obtain ⟨-, -, -, -, -, hn⟩ := h
  exact hn hl

theorem clamp_bounds {lo hi x : Int} (h : lo ≤ hi) : lo ≤ clamp lo hi x ∧ clamp lo hi x ≤ hi := by
  unfold clamp
  split
  next => exact ⟨Int.le_refl _, h⟩
  next => split <;> omega

/-- A corrected offset lies within the authority (R61). -/
theorem State.TracksBounded.clampK {s : State} (h : s.TracksBounded) (k : Int) :
    -s.authority ≤ s.clampK k ∧ s.clampK k ≤ s.authority := by
  obtain ⟨h0, -⟩ := h
  exact clamp_bounds (by omega)

/-- A new offset within the authority, with the rejections cleared. -/
theorem Track.Bounded.corrected {t x : Track} {m : Int} (h : t.Bounded m) (hK : -m ≤ x.K ∧ x.K ≤ m)
    (hs : x.searches = t.searches ∨ x.searches = 0) (hr : x.rejects = 0)
    (hn : x.lock.referenced = false → x.next = none) : x.Bounded m := by
  obtain ⟨-, -, hsearch, -, -, -⟩ := h
  exact ⟨hK.1, hK.2, by omega, by omega, fun _ => hr, hn⟩

theorem work_changeTrack (s : State) (d : Side) (t : Track) (marker : Option Nat)
    (h : s.TracksBounded → t.Bounded s.authority) : Work s (s.changeTrack d t marker) := by
  unfold State.changeTrack
  have hset := work_setTrack s d t h
  dsimp only
  split
  next => exact hset
  next => exact hset.trans (work_report _ _)

theorem work_enterLost (s : State) (d : Side) (marker : Option Nat) : Work s (s.enterLost d marker) := by
  refine .trans (work_changeTrack s d _ marker ?_) (work_raiseCause _ _)
  exact fun hb => (hb.get d).cleared rfl rfl rfl fun _ => rfl

/-- A side that is not referenced enters SEARCHING. -/
theorem work_enterSearching (s : State) (d : Side) (h : (s.depth.get d).lock.referenced = false) :
    Work s (s.enterSearching d) := by
  refine work_changeTrack s d _ none fun hb => ?_
  have hrejects := (hb.get d).rejects_of_ne fun hl => by rw [hl] at h; contradiction
  exact (hb.get d).cleared rfl rfl hrejects fun _ => (hb.get d).next_of_unreferenced h

theorem work_countReject (s : State) (d : Side) (marker : Option Nat) : Work s (s.countReject d marker) := by
  unfold State.countReject
  dsimp only
  split
  next => exact work_enterLost s d marker
  next h =>
    refine work_changeTrack s d _ marker fun hb => ?_
    have hrejects := (hb.get d).rejects_of_ne
    obtain ⟨hlo, hhi, hsearch, htwo, -, -⟩ := hb.get d
    refine ⟨hlo, hhi, hsearch, ?_, fun hne => absurd rfl hne, nofun⟩
    by_cases hl : (s.depth.get d).lock = .suspect
    · have : ¬ 3 ≤ (s.depth.get d).rejects + 1 := fun h3 => h ⟨hl, h3⟩
      dsimp only; omega
    · have := hrejects hl
      dsimp only; omega

theorem work_handMissed (d : Side) (n : Nat) (s : State) : Work s (s.handMissed d n) := by
  induction n generalizing s with
  | zero => exact .rfl
  | succ n ih => exact (work_countSide s d _).trans (ih _)

theorem work_judgeClamp (s : State) (d : Side) (b : Bool) : Work s (s.judgeClamp d b) := by
  have hset (f : Bool) : Work s (s.setTrack d { s.depth.get d with limitFlag := f }) :=
    work_setTrack s d _ fun hb => (hb.get d).of_same rfl rfl rfl rfl rfl
  unfold State.judgeClamp
  exact .ite ((hset true).trans (work_setAdvisory _ _ rfl)) (.onlyIf ((hset false).trans (work_clearAdvisory _ _)))

theorem work_clearSearch (s : State) (d : Side) : Work s (s.clearSearch d) := by
  unfold State.clearSearch
  refine .onlyIf (.trans (work_setTrack s d _ ?_) (work_clearAdvisory _ _))
  exact fun hb => (hb.get d).of_same rfl rfl rfl rfl rfl

theorem State.countSide_authority (s : State) (d : Side) (f : SideCounts → SideCounts) :
    (s.countSide d f).authority = s.authority := by
  unfold State.authority
  rw [State.countSide_table]

/-- The hand-overs of an accepted or rejected edge leave the table and the tracks. -/
theorem State.handMissed_tracks (d : Side) (n : Nat) (s : State) :
    (s.handMissed d n).depth = s.depth ∧ (s.handMissed d n).table = s.table := by
  induction n generalizing s with
  | zero => exact ⟨rfl, rfl⟩
  | succ n ih => exact ⟨(ih _).1.trans (by simp), (ih _).2.trans (by simp)⟩

theorem State.authority_congr {s t : State} (h : t.table.active = s.table.active) : t.authority = s.authority := by
  unfold State.authority
  rw [h]

theorem work_acceptEdge (s : State) (d : Side) (dir : Dir) (m : Marker) (r : Int) : Work s (s.acceptEdge d dir m r) := by
  generalize hk : s.clampK ((s.depth.get d).K + r) = k
  have hhanded : Work s ((s.countSide d addAccepted).countSide d (addCorrection (k - (s.depth.get d).K))) :=
    (work_countSide s d _).trans (work_countSide _ d _)
  have hmissed := hhanded.trans (work_handMissed d (s.passedOver d dir m) _)
  -- the track changed on a state that has the tracks and the table of `s`
  have hchange {u : State} (hu : Work s u) (hd : u.depth = s.depth) (ht : u.table = s.table) (x : Track)
      (hx : (s.depth.get d).Bounded s.authority → -s.authority ≤ k ∧ k ≤ s.authority → x.Bounded s.authority) :
      Work s (u.changeTrack d x (some m.id)) := by
    refine hu.trans (work_changeTrack u d x _ fun hb => ?_)
    have hauth : u.authority = s.authority := State.authority_congr (by rw [ht])
    have hget := hb.get d
    rw [hauth, hd] at hget
    rw [hauth]
    refine hx hget (hk ▸ ?_)
    obtain ⟨h0, -⟩ := hb
    rw [hauth] at h0
    exact clamp_bounds (by omega)
  have hdepth : ((s.countSide d addAccepted).countSide d (addCorrection (k - (s.depth.get d).K))).depth = s.depth := by
    simp
  have htable : ((s.countSide d addAccepted).countSide d (addCorrection (k - (s.depth.get d).K))).table = s.table := by
    simp
  have hcounted := State.handMissed_tracks d (s.passedOver d dir m)
    ((s.countSide d addAccepted).countSide d (addCorrection (k - (s.depth.get d).K)))
  unfold State.acceptEdge
  dsimp only
  rw [hk]
  split
  next hl =>
    refine .trans (hchange hhanded hdepth htable _ fun hb hkb => ?_) (work_judgeClamp _ _ _)
    have hnone := hb.next_of_unreferenced (by rw [hl]; rfl)
    exact hb.corrected hkb (.inl rfl) (hb.rejects_of_ne (by rw [hl]; decide)) fun _ => hnone
  next hl =>
    refine .trans (.trans (hchange hhanded hdepth htable _ fun hb hkb => ?_) (work_judgeClamp _ _ _))
      (work_clearSearch _ _)
    exact hb.corrected hkb (.inr rfl) rfl nofun
  next hl =>
    refine .trans (hchange hmissed (hcounted.1.trans hdepth) (hcounted.2.trans htable) _ fun hb hkb => ?_)
      (work_judgeClamp _ _ _)
    exact hb.corrected hkb (.inl rfl) rfl fun href => absurd href (by simp [hl, Lock.referenced])
  next hl =>
    refine .trans (.trans (hchange hmissed (hcounted.1.trans hdepth) (hcounted.2.trans htable) _ fun hb hkb => ?_)
      (work_judgeClamp _ _ _)) (work_clearSearch _ _)
    exact hb.corrected hkb (.inr rfl) rfl nofun
  next => exact .rfl
  next => exact .rfl

theorem work_rejectEdge (s : State) (d : Side) (m : Marker) : Work s (s.rejectEdge d m) := by
  have hhanded := work_countSide s d addRejected
  unfold State.rejectEdge
  dsimp only
  split
  next => exact hhanded
  next hl =>
    refine (hhanded.trans (work_countSide _ d _)).trans (work_changeTrack _ d _ _ fun hb => ?_)
    have hauth := State.countSide_authority (s.countSide d addRejected) d (addCorrection (-(s.depth.get d).K))
    have h0 : 0 ≤ s.authority := by
      obtain ⟨h0, -⟩ := hb
      rwa [hauth, State.countSide_authority] at h0
    have hget := hb.get d
    simp only [State.countSide_authority, State.countSide_depth] at hget ⊢
    exact hget.corrected ⟨by dsimp only; omega, h0⟩ (.inl rfl) (hget.rejects_of_ne (by rw [hl]; decide))
      fun _ => hget.next_of_unreferenced (by rw [hl]; rfl)
  next => exact hhanded.trans (work_countReject _ _ _)
  next => exact hhanded.trans (work_countReject _ _ _)
  next => exact .rfl
  next => exact .rfl

theorem work_strayEdge (s : State) (d : Side) : Work s (s.strayEdge d) := by
  unfold State.strayEdge
  exact .onlyIf ((work_countSide _ _ _).trans (work_countReject _ _ _))

theorem work_formDepth (s : State) (d : Side) : Work s (s.formDepth d) :=
  work_setTrack s d _ fun hb => (hb.get d).of_same rfl rfl rfl rfl rfl

theorem work_lockOnMotion (s : State) (d : Side) : Work s (s.lockOnMotion d) := by
  unfold State.lockOnMotion
  dsimp only
  refine .ite (work_enterLost _ _ _) (.unless ?_)
  split
  next h => exact work_enterSearching s d (by rw [h]; rfl)
  next =>
    split
    next h => exact work_enterSearching s d (by rw [h.1]; rfl)
    next => exact .rfl

theorem work_followDirection (s : State) (d : Side) : Work s (s.followDirection d) := by
  unfold State.followDirection
  dsimp only
  refine .unless (.unless (work_setTrack s d _ fun hb => ?_))
  obtain ⟨hlo, hhi, hsearch, htwo, hrejects, hnext⟩ := hb.get d
  refine ⟨hlo, hhi, hsearch, htwo, hrejects, fun href => ?_⟩
  have href' : (s.depth.get d).lock.referenced = false := href
  simp only [href', Bool.false_eq_true, if_false]
  exact hnext href'

/-- An expected marker of a referenced side replaced. -/
theorem work_setNext (s : State) (d : Side) (n : Option Nat) (h : (s.depth.get d).lock.referenced = true) :
    Work s (s.setTrack d { s.depth.get d with next := n }) := by
  refine work_setTrack s d _ fun hb => ?_
  obtain ⟨hlo, hhi, hsearch, htwo, hrejects, -⟩ := hb.get d
  exact ⟨hlo, hhi, hsearch, htwo, hrejects, fun href => absurd (h.symm.trans href) (by decide)⟩

theorem work_judgeMisses (d : Side) (n : Nat) (s : State) : Work s (s.judgeMisses d n) := by
  induction n generalizing s with
  | zero => exact .rfl
  | succ n ih =>
    unfold State.judgeMisses
    dsimp only
    split
    next =>
      split
      next h =>
        rw [Bool.and_eq_true] at h
        exact (((work_setNext s d _ h.1).trans (work_countSide _ _ _)).trans (work_countReject _ _ _)).trans (ih _)
      next => exact .rfl
    next => exact .rfl

theorem work_search (s : State) (d : Side) : Work s (s.search d) := by
  have hset (far : Int) (n : Nat) (p : Int) (f : Bool) : Work s (s.setTrack d { s.depth.get d with
      travelled := far, searches := n % 64, lastPayout := p, searchFlag := f }) := by
    refine work_setTrack s d _ fun hb => ?_
    obtain ⟨hlo, hhi, -, htwo, hrejects, hnext⟩ := hb.get d
    exact ⟨hlo, hhi, by dsimp only; omega, htwo, hrejects, hnext⟩
  unfold State.search
  dsimp only
  refine .ite (.ite ((hset _ _ _ _).trans (work_setAdvisory _ _ rfl)) (hset _ _ _ _)) ?_
  exact work_setTrack s d _ fun hb => (hb.get d).of_same rfl rfl rfl rfl rfl

theorem work_sampleLock (s : State) (d : Side) : Work s (s.sampleLock d) :=
  (((work_lockOnMotion s d).trans (work_followDirection _ d)).trans (work_judgeMisses d _ _)).trans (work_search _ d)

theorem work_sampleDepth (s : State) : Work s s.sampleDepth :=
  (((work_formDepth s .one).trans (work_formDepth _ .two)).trans (work_sampleLock _ .one)).trans
    (work_sampleLock _ .two)

/-- An expected marker belongs to a referenced side. -/
theorem State.referenced_of_expected {s : State} {d : Side} {e : Marker} (hb : (s.depth.get d).Bounded s.authority)
    (h : s.expected d = some e) : (s.depth.get d).lock.referenced = true := by
  cases href : (s.depth.get d).lock.referenced with
  | true => rfl
  | false =>
    unfold State.expected at h
    rw [hb.next_of_unreferenced href] at h
    contradiction

theorem work_satisfy (s : State) (d : Side) (line : Fin 16) : Work s (s.satisfy d line) := by
  unfold State.satisfy
  dsimp only
  split
  next dir e hdir he =>
    refine .onlyIf (work_setTrack s d _ fun hb => ?_)
    have href := State.referenced_of_expected (hb.get d) he
    obtain ⟨hlo, hhi, hsearch, htwo, hrejects, -⟩ := hb.get d
    exact ⟨hlo, hhi, hsearch, htwo, hrejects, fun h => absurd (href.symm.trans h) (by decide)⟩
  next => exact .rfl

theorem work_meetEdge (s : State) (d : Side) (line : Fin 16) : Work s (s.meetEdge d line) := by
  unfold State.meetEdge
  refine .ite (work_satisfy s d line) ?_
  split
  next h => exact work_enterSearching s d (by rw [h]; rfl)
  next => exact .rfl

theorem work_failOther (s : State) (d : Side) (kept : Option Twin) : Work s (s.failOther d kept) := by
  unfold State.failOther
  split
  next => exact .rfl
  next => exact work_failEncoder _ _ _
  next => exact work_failEncoder _ _ _

theorem work_failBoth (s : State) (d : Side) (kept : Option Twin) : Work s (s.failBoth d kept) := by
  unfold State.failBoth
  split
  next => exact .rfl
  next => exact work_failEncoders _ _ _ _

theorem work_settleSide (s : State) (d : Side) (claimed marked : Bool) (p : EdgePart) :
    Work s (s.settleSide d claimed marked p) := by
  unfold State.settleSide
  split
  next => exact .rfl
  next => exact .unless (work_strayEdge s d)
  next => exact .ite ((work_failOther _ _ _).trans (work_acceptEdge _ _ _ _ _))
            (.unless ((work_failBoth _ _ _).trans (work_rejectEdge _ _ _)))

theorem work_judgeEdge (s : State) (line : Fin 16) : Work s (s.judgeEdge line) :=
  (((work_meetEdge s .one line).trans (work_meetEdge _ .two line)).trans (work_settleSide _ _ _ _ _)).trans
    (work_settleSide _ _ _ _ _)

/-! ## The envelope computer (R86 to R104) -/

theorem work_judgeStageSpeed (s : State) (k : Stage) : Work s (s.judgeStageSpeed k) := by
  unfold State.judgeStageSpeed
  split
  next => exact work_setEnv _ _
  next => exact .ite ((work_setEnv _ _).trans (work_raiseCause _ _)) (work_setEnv _ _)

theorem work_judgeSpeed (s : State) (phase : Option Phase) : Work s (s.judgeSpeed phase) := by
  unfold State.judgeSpeed
  split
  next => exact work_setEnv _ _
  next => exact work_setEnv _ _
  next => exact ((work_judgeStageSpeed s .s1).trans (work_judgeStageSpeed _ .s2)).trans (work_judgeStageSpeed _ .s3)

theorem work_judgeLimit (s : State) (d : Side) : Work s (s.judgeLimit d) := by
  unfold State.judgeLimit
  dsimp only
  refine .unless ?_
  have hended := (work_setEnv s { s.env with limit := s.env.limit.set d (limitState (s.sideData d) (s.depth.get d).D) }
    ).trans (.unless (p := s.env.limit.get d = .inside) (work_dropActive _ (Cause.isLimitOf d)))
  split
  next => exact hended
  next =>
    refine hended.trans (.trans (work_setWind _ _ ?_ ?_ ?_) (work_raiseCause _ _))
    · exact rfl
    · exact rfl
    · exact rfl

theorem work_judgeOvertravel (s : State) (w : Option OpenWind) : Work s (s.judgeOvertravel w) := by
  unfold State.judgeOvertravel
  split
  next => exact .rfl
  next => exact .onlyIf (work_raiseCause _ _)

theorem work_sampleEnvelope (s : State) : Work s s.sampleEnvelope := by
  unfold State.sampleEnvelope
  exact .ite (((((work_setEnv s _).trans (work_judgeSpeed _ _)).trans (work_judgeLimit _ _)).trans
    (work_judgeLimit _ _)).trans (work_judgeOvertravel _ _)) (work_setEnv s _)

end Sys2Proof.Machine
end


section
/-! The work of the wind controller at a drum sample, of the rope load unit, and at the events of inputs and timers. -/

namespace Sys2Proof.Machine

/-! ## The wind controller at a drum sample (R109 to R126) -/

theorem Dir.sign_sq (d : Dir) : d.sign * d.sign = 1 := by cases d <;> rfl

/-- The furthest point only moves away from the start. -/
theorem OpenWind.advance_furthest (w : OpenWind) (p : Int) :
    (w.furthest - w.startPayout) * w.dir.sign ≤ ((w.advance p).furthest - w.startPayout) * w.dir.sign ∧
      ((w.advance p).furthest = w.furthest ∨ (w.advance p).furthest = p) := by
  unfold OpenWind.advance
  split
  next h =>
    refine ⟨?_, .inr rfl⟩
    have : (p - w.startPayout) * w.dir.sign - (w.furthest - w.startPayout) * w.dir.sign =
        (p - w.furthest) * w.dir.sign := by
      rw [← Int.sub_mul]
      exact congrArg (· * w.dir.sign) (by omega)
    dsimp only
    omega
  next => exact ⟨Int.le_refl _, .inl rfl⟩

/-- An advance moves the furthest point and nothing else. -/
theorem OpenWind.advance_eq (w : OpenWind) (p : Int) : w.advance p = { w with furthest := (w.advance p).furthest } := by
  unfold OpenWind.advance
  split <;> rfl

/-- An advance of a wind that has left ACCEPTED, or that stays less than 100 mm from its start. -/
theorem OpenWind.Fits.advance {w : OpenWind} (h : w.Fits) (p : Int) (phase : Phase) (start : Timer)
    (hphase : w.phase ≠ .stopping) (hnear : phase = .accepted → w.phase = .accepted ∧
      (p - w.startPayout) * w.dir.sign < 100) : OpenWind.Fits { w.advance p with phase := phase, start := start } := by
  obtain ⟨hbehind, hacc⟩ := h
  obtain ⟨hfar, hpoint⟩ := w.advance_furthest p
  rw [w.advance_eq p]
  refine ⟨fun _ => Int.le_trans (hbehind hphase) hfar, fun hp => ?_⟩
  obtain ⟨hwas, hp100⟩ := hnear hp
  dsimp only
  rcases hpoint with h | h <;> rw [h]
  · exact hacc hwas
  · exact hp100

theorem work_enterRunning (s : State) (w : OpenWind) (p : Int) (hw : s.wind.current = some w)
    (hphase : w.phase = .accepted) : Work s (s.enterRunning (w.advance p)) := by
  refine .trans (.trans (.trans (work_setCurrent s w _ hw ?_ ?_) (work_report _ _)) (work_setEnv _ _))
    (work_judgeLoadLost _)
  · rw [hphase]; nofun
  · exact fun hf => hf.advance p .running none (by rw [hphase]; decide) nofun

theorem work_watchStart (s : State) : Work s s.watchStart := by
  unfold State.watchStart
  split
  next => exact .rfl
  next w hw =>
    dsimp only
    split
    next hphase =>
      split
      next => exact work_enterRunning s w _ hw hphase
      next hnear =>
        refine work_setCurrent s w _ hw (by rw [hphase]; nofun) fun hf => ?_
        have h := hf.advance (s.payout w.lead) w.phase w.start (by rw [hphase]; decide) fun _ => ⟨hphase, by omega⟩
        rw [w.advance_eq] at h ⊢
        exact h
    next hphase =>
      refine work_setCurrent s w _ hw (by rw [hphase]; nofun) fun hf => ?_
      have h := hf.advance (s.payout w.lead) w.phase w.start (by rw [hphase]; decide)
        fun hacc => by rw [hphase] at hacc; contradiction
      rw [w.advance_eq] at h ⊢
      exact h
    next => exact .rfl
    next => exact .rfl

theorem work_watchDirection (s : State) : Work s s.watchDirection := by
  unfold State.watchDirection
  split
  next => exact .rfl
  next => exact .onlyIf (work_raiseCause _ _)

theorem work_watchCreep (s : State) : Work s s.watchCreep := by
  unfold State.watchCreep
  split
  next => exact .rfl
  next w hw =>
    split
    next h =>
      refine .trans (work_setCurrent s w _ hw ?_ ?_) (work_report _ _)
      · rw [h.1]; nofun
      · exact fun hf => ⟨fun _ => hf.1 (by rw [h.1]; decide), nofun⟩
    next => exact .rfl

theorem work_watchDwell (s : State) : Work s s.watchDwell := by
  unfold State.watchDwell
  split
  next => exact .rfl
  next w hw => exact .unless (.ite (.onlyIf (work_setCurrent s w _ hw id id)) (work_setCurrent s w _ hw id id))

theorem work_watchPeaks (s : State) : Work s s.watchPeaks := by
  unfold State.watchPeaks
  split
  next => exact .rfl
  next w hw => exact work_setCurrent s w _ hw id id

/-- A flag of the wind controller set with the cause it stands for. -/
theorem work_flagged (s : State) (x : WindUnit) (c : Cause) (hc : x.current = s.wind.current)
    (hn : x.number = s.wind.number) (hh : x.history = s.wind.history) : Work s ((s.setWind x).raiseCause c) :=
  (work_setWind s x hc hn hh).trans (work_raiseCause _ c)

theorem work_watchRest (s : State) (d : Side) : Work s (s.watchRest d) := by
  unfold State.watchRest
  exact .onlyIf (work_flagged s _ _ rfl rfl rfl)

theorem work_watchCreep2 (s : State) : Work s s.watchCreep2 := by
  unfold State.watchCreep2
  split
  next => exact .rfl
  next => exact .onlyIf (work_flagged s _ _ rfl rfl rfl)

theorem work_watchRecovery (s : State) (d : Side) : Work s (s.watchRecovery d) := by
  unfold State.watchRecovery
  split
  next => exact .rfl
  next =>
    split
    next => exact .rfl
    next => exact .ite (work_flagged s _ _ rfl rfl rfl) (work_setWind s _ rfl rfl rfl)

theorem work_sampleWind (s : State) : Work s s.sampleWind :=
  have hwind := ((((work_watchStart s).trans (work_watchDirection _)).trans (work_watchCreep _)).trans
    (work_watchDwell _)).trans (work_watchPeaks _)
  ((((hwind.trans (work_watchRest _ .one)).trans (work_watchRest _ .two)).trans (work_watchCreep2 _)).trans
    (work_watchRecovery _ .one)).trans (work_watchRecovery _ .two)

/-- A drum sample up to the proof unit. -/
theorem work_atProof (s : State) : Work s s.atProof :=
  (((work_sampleDrums s).trans (work_sampleDepth _)).trans (work_sampleEnvelope _)).trans (work_sampleWind _)

/-! ## The rope load unit (R43 to R57) -/

theorem work_setLoadChan (s : State) (d : Side) (r : Twin) (x : LoadChannel) : Work s (s.setLoadChan d r x) :=
  work_setRopeSide s d _

theorem work_judgeBothBad (s : State) (d : Side) : Work s (s.judgeBothBad d) := by
  unfold State.judgeBothBad
  exact .unless (((work_setRopeSide s d _).trans (.onlyIf (work_startDegrade _ _))).trans (work_judgeLoadLost _))

theorem work_updateChannel (s : State) (d : Side) (r : Twin) (value : Option Half) :
    Work s (s.updateChannel d r value) := by
  unfold State.updateChannel
  dsimp only
  split
  next => exact work_setLoadChan _ _ _ _
  next => exact ((work_setLoadChan _ _ _ _).trans (.onlyIf (work_clearAdvisory _ _))).trans (work_judgeBothBad _ _)

theorem work_updateChannels (s : State) (v : PerSide (PerTwin (Option Half))) : Work s (s.updateChannels v) :=
  (((work_updateChannel s .one .a _).trans (work_updateChannel _ .one .b _)).trans
    (work_updateChannel _ .two .a _)).trans (work_updateChannel _ .two .b _)

theorem work_weigh (s : State) (d : Side) : Work s (s.weigh d) := work_setRopeSide s d _

theorem work_judgeAlarm (s : State) (d : Side) (i : Int) : Work s (s.judgeAlarm d i) := by
  unfold State.judgeAlarm
  have hset := work_setRopeSide s d
  exact .ite (.ite ((hset _).trans (work_setAdvisory _ _ rfl)) (hset _))
    (.ite (hset _) (.ite ((hset _).trans (work_clearAdvisory _ _)) (hset _)))

theorem work_judgeImbalance (s : State) (d : Side) (i : Int) : Work s (s.judgeImbalance d i) := by
  unfold State.judgeImbalance
  have hset := work_setRopeSide s d
  exact .ite (hset _) (.ite ((hset _).trans (work_raiseCause _ _)) (hset _))

theorem work_judgeBalance (s : State) (d : Side) : Work s (s.judgeBalance d) := by
  unfold State.judgeBalance
  exact .onlyIf ((work_judgeAlarm _ _ _).trans (work_judgeImbalance _ _ _))

theorem work_judgeSlack (s : State) (d : Side) : Work s (s.judgeSlack d) := by
  unfold State.judgeSlack
  have hset := work_setRopeSide s d
  exact .ite (hset _) (.ite ((hset _).trans (work_raiseCause _ _)) (hset _))

theorem work_superviseRopes (s : State) : Work s s.superviseRopes := by
  unfold State.superviseRopes
  exact .onlyIf ((((work_judgeBalance s .one).trans (work_judgeBalance _ .two)).trans (work_judgeSlack _ .one)).trans
    (work_judgeSlack _ .two))

theorem work_judgeLoads (s : State) : Work s s.judgeLoads :=
  ((work_judgeBothBad s .one).trans (work_judgeBothBad _ .two)).trans (work_judgeLoadLost _)

theorem work_evaluateFrame (s : State) (v : PerSide (PerTwin (Option Half))) : Work s (s.evaluateFrame v) := by
  unfold State.evaluateFrame
  exact (work_updateChannels s v).trans (.onlyIf ((((work_weigh _ _).trans (work_weigh _ _)).trans
    (work_superviseRopes _)).trans (work_judgeLoads _)))

theorem work_evaluateTimer (s : State) : Work s s.evaluateTimer := by
  unfold State.evaluateTimer
  exact (work_setRope s _).trans (.onlyIf (((work_weigh _ _).trans (work_weigh _ _)).trans (work_judgeLoads _)))

theorem work_expireHold (s : State) (d : Side) (r : Twin) : Work s (s.expireHold d r) := by
  unfold State.expireHold
  exact ((work_setLoadChan _ _ _ _).trans (.unless (work_setAdvisory _ _ rfl))).trans (work_judgeBothBad _ _)

/-! ## The other events of the blocks -/

theorem work_expireMismatch (s : State) (k : Stage) (c : Chan) : Work s (s.expireMismatch k c) := by
  refine .trans (work_setChannel s k c _ ?_) (work_raiseCause _ _)
  rfl

theorem work_abortWind (s : State) : Work s s.abortWind := by
  unfold State.abortWind
  split
  next => exact .rfl
  next w hw =>
    have hn : s.wind.current ≠ none := by simp [hw]
    split
    next => exact work_closeWind _ _
    next => exact work_enterStopping _ _ _ hn
    next => exact work_enterStopping _ _ _ hn
    next => exact .rfl

theorem work_clutchDrums (s : State) : Work s s.clutchDrums := by
  unfold State.clutchDrums
  refine .ite (.trans (work_setDrums s _ ?_ ?_) (work_setWind _ _ ?_ ?_ ?_)) (work_markHold s)
  · exact fun _ => ⟨rfl, rfl⟩
  · exact id
  · exact rfl
  · exact rfl
  · exact rfl

theorem work_clutchWind (s : State) : Work s s.clutchWind := by
  unfold State.clutchWind
  exact .ite (work_abortWind s) (work_raiseCause s _)

theorem work_clutchEnvelope (s : State) : Work s s.clutchEnvelope := by
  unfold State.clutchEnvelope
  exact .onlyIf (work_startDegrade s _)

end Sys2Proof.Machine
end


section
/-! The proof unit's own work (R152 to R157), and what every command makes of the parts that only some of them move. -/

namespace Sys2Proof.Machine

/-! ## The conduct of the proof -/

/-- The proof unit's work from `s` to `t`: what it shares with the other blocks, and the latches, the wind and the open
load as they stood; outside step 5 the channels follow the latches again. -/
structure ProofWork (s t : State) : Prop extends FlowBase s t where
  load : t.link.load = s.link.load
  current : t.wind.current = s.wind.current
  latch : t.trip.latch = s.trip.latch
  standing : t.trip.active ⊆ s.trip.active
  ready : s.proof.readiness ≠ .noTable → t.proof.readiness ≠ .noTable
  channels : s.ChannelsFollow → t.ChannelsFollow

theorem ProofWork.rfl {s : State} : ProofWork s s :=
  ⟨.rfl, .refl _, .refl _, .refl _, List.Subset.refl _, id, id⟩

theorem ProofWork.trans {s t u : State} (h : ProofWork s t) (g : ProofWork t u) : ProofWork s u :=
  ⟨h.toFlowBase.trans g.toFlowBase, g.load.trans h.load, g.current.trans h.current, g.latch.trans h.latch,
    List.Subset.trans g.standing h.standing, fun x => g.ready (h.ready x), fun x => g.channels (h.channels x)⟩

theorem flowBase_setProof (s : State) (x : ProofUnit) : FlowBase s (s.setProof x) :=
  ⟨rfl, rfl, rfl, rfl, rfl, .rfl, .rfl, fun _ h => h, fun _ => ⟨rfl, rfl⟩, id, id⟩

theorem proofWork_report (s : State) (b : ReportBody) : ProofWork s (s.report b) := by
  have hwork := work_report s b
  refine ⟨hwork.toFlowBase, hwork.load, by simp, by simp, by simp, by simp, fun hs => ?_⟩
  simpa only [State.ChannelsFollow, State.inTripTest, State.latched, State.channel, State.report_trip,
    State.report_proof] using hs

/-- The proof unit replaced, neither from step 5 nor into NO TABLE. -/
theorem proofWork_setProof (s : State) (x : ProofUnit) (h : s.inTripTest = false) (hx : x.readiness ≠ .noTable) :
    ProofWork s (s.setProof x) :=
  ⟨flowBase_setProof s x, rfl, rfl, rfl, List.Subset.refl _, fun _ => hx, fun hs _ => hs h⟩

/-! ### The channels released at the end of step 5 -/

/-- One channel set by its latch and compared afresh (R156). -/
def State.releaseChannel (s : State) (k : Stage) (c : Chan) : State :=
  (s.setChannel k c ⟨!s.latched k, none⟩).compareChannel k c

theorem State.releaseChannels_eq (s : State) : s.releaseChannels =
    ((((((s.releaseChannel .s1 .x).releaseChannel .s1 .y).releaseChannel .s2 .x).releaseChannel .s2 .y).releaseChannel
      .s3 .x).releaseChannel .s3 .y) := rfl

/-- A released channel follows its latch, and no latch, no other command and no other block changes. -/
structure Released (s t : State) (p : Stage → Chan → Prop) : Prop extends FlowBase s t where
  samePort : t.link = s.link
  sameWind : t.wind = s.wind
  proof : t.proof = s.proof
  latch : t.trip.latch = s.trip.latch
  standing : t.trip.active ⊆ s.trip.active
  released : ∀ j h, p j h → (t.channel j h).commanded = !s.latched j
  kept : ∀ j h, ¬ p j h → (t.channel j h).commanded = (s.channel j h).commanded

theorem State.releaseChannel_released (s : State) (k : Stage) (c : Chan) :
    Released s (s.releaseChannel k c) fun j h => j = k ∧ h = c := by
  have hflow := (flow_setChannel s k c ⟨!s.latched k, none⟩).trans (flow_compareChannel _ k c)
  refine ⟨hflow.toFlowBase, by simp [State.releaseChannel], by simp [State.releaseChannel],
    by simp [State.releaseChannel], (channelWork_compareChannel _ k c).latch,
    (State.compareChannel_active_subset _ k c), ?_, fun j h hne => ?_⟩
  · rintro j h ⟨rfl, rfl⟩
    rw [State.releaseChannel, State.compareChannel_commanded, State.channel_setChannel_self]
  · rw [State.releaseChannel, State.compareChannel_commanded,
      State.channel_setChannel_ne _ _ fun hj hh => hne ⟨hj, hh⟩]

theorem Released.trans {s t u : State} {p q : Stage → Chan → Prop} (h : Released s t p) (g : Released t u q) :
    Released s u fun j c => p j c ∨ q j c := by
  refine ⟨h.toFlowBase.trans g.toFlowBase, g.samePort.trans h.samePort, g.sameWind.trans h.sameWind, g.proof.trans h.proof,
    g.latch.trans h.latch, List.Subset.trans g.standing h.standing, fun j c hj => ?_, fun j c hj => ?_⟩
  · by_cases hq : q j c
    · rw [g.released j c hq, State.latched_congr h.latch]
    · rw [g.kept j c hq]
      exact h.released j c (hj.resolve_right hq)
  · rw [g.kept j c fun hq => hj (.inr hq), h.kept j c fun hp => hj (.inl hp)]

theorem State.releaseChannels_released (s : State) : Released s s.releaseChannels fun _ _ => True := by
  have hall := (((((s.releaseChannel_released .s1 .x).trans (State.releaseChannel_released _ .s1 .y)).trans
    (State.releaseChannel_released _ .s2 .x)).trans (State.releaseChannel_released _ .s2 .y)).trans
    (State.releaseChannel_released _ .s3 .x)).trans (State.releaseChannel_released _ .s3 .y)
  rw [State.releaseChannels_eq]
  refine { hall with released := fun j h _ => hall.released j h ?_, kept := fun _ _ hn => absurd trivial hn }
  cases j <;> cases h <;> simp

/-! ### Steps passing and failing -/

/-- The end of a proof, or of its step 5 (R152). -/
theorem proofWork_leaveProof (s : State) (r : Readiness) (hr : r ≠ .noTable) : ProofWork s (s.leaveProof r) := by
  unfold State.leaveProof
  split
  next =>
    have h := (s.setReadiness r).releaseChannels_released
    refine ⟨(flowBase_setProof s _).trans h.toFlowBase, ?_, ?_, h.latch, h.standing, fun _ => ?_, fun _ _ j c => ?_⟩
    · rw [h.samePort]; rfl
    · rw [h.sameWind]; rfl
    · rw [h.proof]; exact hr
    · rw [h.released j c trivial, State.latched_congr h.latch]
  next h => exact proofWork_setProof s _ (eq_false_of_ne_true h) hr

/-- After the end of a proof its readiness stands. -/
theorem State.leaveProof_proof (s : State) (r : Readiness) : (s.leaveProof r).proof = { s.proof with readiness := r } := by
  unfold State.leaveProof
  split
  next => rw [(s.setReadiness r).releaseChannels_released.proof]; rfl
  next => rfl

theorem proofWork_failProof (s : State) (step code detail : Nat) : ProofWork s (s.failProof step code detail) := by
  have hleft : (s.leaveProof .proofFailed).inTripTest = false := by
    unfold State.inTripTest; rw [State.leaveProof_proof]
  exact ((proofWork_leaveProof s .proofFailed nofun).trans (proofWork_setProof _ _ hleft (by
    rw [State.leaveProof_proof]; nofun))).trans (proofWork_report _ _)

theorem proofWork_passProof (s : State) (h : s.inTripTest = false) : ProofWork s s.passProof :=
  (proofWork_setProof s ⟨.proven, none⟩ h nofun).trans (proofWork_report _ _)

theorem proofWork_sendProbe (s : State) (pattern : Half) (h : s.inTripTest = false) :
    ProofWork s (s.sendProbe pattern) :=
  (proofWork_setProof s (s.awaiting pattern) h nofun).trans (proofWork_report _ _)

theorem State.report_inTripTest (s : State) (b : ReportBody) : (s.report b).inTripTest = s.inTripTest :=
  State.inTripTest_congr (by simp)

theorem proofWork_passTripPaths (s : State) : ProofWork s s.passTripPaths := by
  have hleft : ((s.leaveProof .unproven).report (.proofStep 5)).inTripTest = false := by
    rw [State.report_inTripTest]; unfold State.inTripTest; rw [State.leaveProof_proof]
  have hstep := (proofWork_leaveProof s .unproven nofun).trans (proofWork_report _ (.proofStep 5))
  unfold State.passTripPaths
  dsimp only
  split
  next => exact hstep.trans (proofWork_passProof _ hleft)
  next => exact hstep.trans (proofWork_sendProbe _ _ hleft)

/-- In step 5 the proof unit commands the channels (R156). -/
theorem proofWork_commandHalf (s : State) (k : Stage) (c : Chan) (e : Bool) (timer : Timer) :
    ProofWork s ((s.setReadiness (.proving (.tripPaths k c e timer))).commandHalf k c e) := by
  have hflow := flow_setTrip (s.setReadiness (.proving (.tripPaths k c e timer))) (((s.setReadiness
    (.proving (.tripPaths k c e timer))).commandHalf k c e).trip) rfl
  refine ⟨(flowBase_setProof s _).trans hflow.toFlowBase, rfl, rfl, rfl, List.Subset.refl _, fun _ => nofun,
    fun _ htest => ?_⟩
  contradiction

theorem proofWork_beginHalf (n : Nat) (s : State) (k : Stage) (c : Chan) (e : Bool) :
    ProofWork s (s.beginHalf n k c e) := by
  induction n generalizing s k c e with
  | zero => exact .rfl
  | succ n ih =>
    unfold State.beginHalf
    dsimp only
    split
    next =>
      split
      next => exact (proofWork_commandHalf s k c e _).trans (ih _ _ _ _)
      next => exact (proofWork_commandHalf s k c e _).trans (proofWork_passTripPaths _)
    next => exact proofWork_commandHalf s k c e _

theorem proofWork_passHalf (s : State) (k : Stage) (c : Chan) (e : Bool) : ProofWork s (s.passHalf k c e) := by
  unfold State.passHalf
  split
  next => exact proofWork_beginHalf _ _ _ _ _
  next => exact proofWork_passTripPaths s

theorem proofWork_passLoads (s : State) : ProofWork s s.passLoads :=
  (proofWork_report s _).trans (proofWork_beginHalf _ _ _ _ _)

/-- A step passed with its report, outside step 5. -/
theorem proofWork_passStep (s : State) (r : Readiness) (b : ReportBody) (h : s.inTripTest = false)
    (hr : r ≠ .noTable) : ProofWork s ((s.setReadiness r).report b) :=
  (proofWork_setProof s _ h hr).trans (proofWork_report _ b)

theorem proofWork_judgeTable (s : State) (h : s.inTripTest = false) : ProofWork s s.judgeTable := by
  unfold State.judgeTable
  split
  next => exact proofWork_passStep s _ _ h nofun
  next => exact proofWork_failProof s _ _ _

theorem proofWork_judgeEncoders (s : State) (h : s.inTripTest = false) : ProofWork s s.judgeEncoders := by
  unfold State.judgeEncoders
  split
  next => exact proofWork_failProof s _ _ _
  next =>
    split
    next => exact proofWork_failProof s _ _ _
    next => exact proofWork_passStep s _ _ h nofun

theorem proofWork_judgeMarkers (s : State) (h : s.inTripTest = false) : ProofWork s s.judgeMarkers := by
  unfold State.judgeMarkers
  split
  next => exact proofWork_failProof s _ _ _
  next => exact proofWork_passStep s _ _ h nofun

theorem proofWork_judgeReturn (s : State) (awaited : Half) (outstanding : Bool) (got : Half)
    (h : s.inTripTest = false) : ProofWork s (s.judgeReturn awaited outstanding got) := by
  unfold State.judgeReturn
  split
  next => exact proofWork_failProof s _ _ _
  next =>
    split
    next =>
      unfold State.passExchange
      split
      next => exact (proofWork_report s _).trans (proofWork_passProof _ (by rwa [State.report_inTripTest]))
      next => exact proofWork_sendProbe s _ h
    next => exact proofWork_failProof s _ _ _

/-! ## What a sitting of the blocks keeps of the whole -/

/-- The work of the blocks and of the proof unit from `s` to `t`. -/
structure Duty (s t : State) : Prop extends Flow s t where
  coherent : s.Coherent → t.Coherent
  furthest : s.FurthestFits → t.FurthestFits

theorem Duty.rfl {s : State} : Duty s s := ⟨.rfl, id, id⟩

theorem Duty.trans {s t u : State} (h : Duty s t) (g : Duty t u) : Duty s u :=
  ⟨h.toFlow.trans g.toFlow, fun x => g.coherent (h.coherent x), fun x => g.furthest (h.furthest x)⟩

theorem Duty.ite {s t u : State} {p : Prop} [Decidable p] (h : Duty s t) (g : Duty s u) :
    Duty s (if p then t else u) := by
  split
  next => exact h
  next => exact g

theorem State.hasTable_congr {s t : State} (h : t.table.active = s.table.active) : t.hasTable = s.hasTable := by
  unfold State.hasTable
  rw [h]

theorem Work.duty {s t : State} (h : Work s t) : Duty s t := by
  refine ⟨h.toFlow, fun hs => ?_, h.furthest⟩
  obtain ⟨hlatches, hchannels, hconditions⟩ := h.trip hs.tripSound
  have hproving := State.isProving_congr h.proof
  refine ⟨hlatches, hchannels, h.winds hs.winds, ?_, ?_, ?_, hconditions⟩
  · intro hload
    rw [h.load] at hload
    obtain ⟨hnone, hp⟩ := hs.load hload
    exact ⟨h.wind.closed hnone, hproving.trans hp⟩
  · intro hp
    rw [hproving] at hp
    obtain ⟨h3, hnone⟩ := hs.proof hp
    exact ⟨h.latched .s3 h3, h.wind.closed hnone⟩
  · unfold State.ReadinessFits
    rw [h.proof, State.hasTable_congr h.active]
    exact hs.readiness

theorem State.ready_of_isProving {s : State} (h : s.isProving = true) : s.proof.readiness ≠ .noTable := by
  intro hr
  unfold State.isProving at h
  rw [hr] at h
  contradiction

/-- A proof that runs may go anywhere but into NO TABLE. -/
theorem ProofWork.duty {s t : State} (h : ProofWork s t) (hp : s.isProving = true) : Duty s t := by
  refine ⟨h.toFlowBase.flow hp, fun hs => ?_, .congr h.current⟩
  have hlatched := State.latched_congr h.latch
  obtain ⟨h3, hnone⟩ := hs.proof hp
  have hclosed : t.wind.current = none := h.current.trans hnone
  refine ⟨?_, h.channels hs.channels, State.windsClear_of_none hclosed, ?_, ?_, ?_, ?_⟩
  · simpa only [State.LatchesOrdered, hlatched] using hs.latches
  · intro hload
    rw [h.load] at hload
    have := (hs.load hload).2
    rw [hp] at this
    contradiction
  · exact fun _ => ⟨by rw [hlatched]; exact h3, hclosed⟩
  · have hready := State.ready_of_isProving hp
    have htable : s.hasTable ≠ false := fun hno => hready (hs.readiness.mpr hno)
    unfold State.ReadinessFits
    rw [State.hasTable_congr h.active]
    exact ⟨fun hno => absurd hno (h.ready hready), fun hno => absurd hno htable⟩
  · intro x hx hcond hother
    rw [hlatched]
    exact hs.conditions x (h.standing hx) hcond hother

theorem State.isProving_of_readiness {s : State} {step : ProofStep} (h : s.proof.readiness = .proving step) :
    s.isProving = true := by
  unfold State.isProving
  rw [h]

theorem duty_sampleProof (s : State) : Duty s s.sampleProof := by
  unfold State.sampleProof
  split
  next step hr =>
    have hp := State.isProving_of_readiness hr
    refine .ite ((proofWork_failProof s _ _ _).duty hp) (.ite ((proofWork_failProof s _ _ _).duty hp) ?_)
    split
    next => exact (proofWork_judgeEncoders s (by unfold State.inTripTest; rw [hr])).duty hp
    next => exact (proofWork_judgeMarkers s (by unfold State.inTripTest; rw [hr])).duty hp
    all_goals exact .rfl
  next => exact .rfl

theorem duty_sampleLoads (s : State) : Duty s s.sampleLoads := by
  unfold State.sampleLoads
  split
  next hr =>
    have hp := State.isProving_of_readiness hr
    have hfail (n : Nat) : Duty s (s.failProof 4 0x85 n) := (proofWork_failProof s _ _ _).duty hp
    split
    next => exact hfail _
    next => exact .ite (hfail _) (.ite (hfail _) ((proofWork_passLoads s).duty hp))
  next => exact .rfl

theorem duty_judgeReadback (s : State) (k : Stage) (c : Chan) (level : Bool) : Duty s (s.judgeReadback k c level) := by
  unfold State.judgeReadback
  split
  next hr => exact .ite ((proofWork_passHalf s _ _ _).duty (State.isProving_of_readiness hr)) .rfl
  next => exact (work_compareChannel s k c).duty

end Sys2Proof.Machine
end


section
/-! The activation of a table (R15, R83) and the resets of the part (R19, R20), block by block. -/

namespace Sys2Proof.Machine

/-! ## A track changed, with the LOCK report of a changed lock (R81) -/

/-- The report of a side whose lock state changes, with the values after the change (R81). -/
def State.lockReports (s : State) (d : Side) (t : Track) (marker : Option Nat) : List ReportBody :=
  if (s.depth.get d).lock = t.lock then []
  else [.lock d (s.depth.get d).lock t.lock t.K (s.uncertainty t.lock) t.rejects t.searches marker]

theorem State.changeTrack_eq (s : State) (d : Side) (t : Track) (marker : Option Nat) :
    s.changeTrack d t marker = { s with
      link := s.link.pushAll ((s.lockReports d t marker).map s.stamped), depth := s.depth.set d t } := by
  unfold State.changeTrack State.lockReports
  dsimp only
  split
  next => rfl
  next => rw [State.report_eq]; rfl

/-! ## The activation of the staged table (R15, R83) -/

/-- A side's track after an activation, under the new authority (R83). -/
def Track.activate (t : Track) (authority : Int) : Track :=
  { t with
    K := clamp (-authority) authority t.K, lock := .unreferenced, rejects := 0, travelled := 0, lastDir := none
    next := none }

/-- The LOCK reports of an activation: one for each side that was not UNREFERENCED (R81). -/
def State.activationReports (s : State) (records : List RawRecord) : List ReportBody :=
  let sup := (effective records).sup
  let one (d : Side) : List ReportBody :=
    let t := (s.depth.get d).activate sup.authority
    if (s.depth.get d).lock = t.lock then []
    else [.lock d (s.depth.get d).lock t.lock t.K sup.search t.rejects t.searches none]
  one .one ++ one .two

/-- The state with the staged table activated, before the end of recovery. -/
def State.activated (s : State) (check : Half) : State :=
  let records := s.table.staged
  let bound := (effective records).sup.authority
  { s with
    link := LinkPort.pushAll { s.link with load := none } ((s.activationReports records).map s.stamped)
    table := { s.table with
      active := some (ActiveTable.of records check), staged := [], stored := none, storeWrite := some ⟨records, check⟩ }
    depth := ⟨s.depth.one.activate bound, s.depth.two.activate bound⟩
    proof := { s.proof with readiness := .unproven }
    drums := { s.drums with
      drum := ⟨{ s.drums.drum.one with history := [], restDue := true },
        { s.drums.drum.two with history := [], restDue := true }⟩
      holdDue := !s.inputs.clutch || s.drums.holdDue }
    rope := { s.rope with side := ⟨s.rope.side.one.activate, s.rope.side.two.activate⟩ }
    wind := { s.wind with lastLanded := ⟨none, none⟩, unintended := ⟨false, false⟩ } }

theorem State.activate_eq (s : State) (check : Half) : s.activate check = (s.activated check).endRecovery := by
  unfold State.activate State.activateWind State.activateTrack State.activateDrums
  dsimp only
  rw [State.changeTrack_eq, State.changeTrack_eq, State.markHold_eq]
  simp only [State.closeLoad, State.setTable, State.setLink, State.setProof, State.setDrums, State.markRest,
    State.beginStoreWrite, State.setRope, State.setWind, State.activated, State.activationReports, List.map_append,
    LinkPort.pushAll_append]
  rfl

/-! ## The resets, block by block -/

/-- The authority of a table lies from 0 to 5,000 mm (R3). -/
theorem effective_authority (records : List RawRecord) :
    0 ≤ (effective records).sup.authority ∧ (effective records).sup.authority ≤ Config.maxK := by
  show 0 ≤ (tableSup records).authority ∧ (tableSup records).authority ≤ Config.maxK
  unfold tableSup
  split
  next b _ _ => exact clamp_bounds (lo := 0) (hi := 5000) (x := u16At b 10) (by decide)
  next => decide

theorem Track.Bounded.activate {t : Track} {m a : Int} (h : t.Bounded m) (ha : 0 ≤ a) : (t.activate a).Bounded a := by
  obtain ⟨-, -, hsearch, -, -, -⟩ := h
  obtain ⟨hlo, hhi⟩ := clamp_bounds (x := t.K) (show -a ≤ a by omega)
  exact ⟨hlo, hhi, hsearch, Nat.zero_le _, fun _ => rfl, fun _ => rfl⟩

theorem Track.Bounded.restart {t : Track} {m : Int} (h : t.Bounded m) : t.restart.Bounded m := by
  obtain ⟨hlo, hhi, hsearch, -, -, -⟩ := h
  exact ⟨hlo, hhi, hsearch, Nat.zero_le _, fun _ => rfl, fun _ => rfl⟩

theorem Track.bounded_atPowerOn {K m : Int} (hlo : -m ≤ K) (hhi : K ≤ m) : (powerOnTrack K).Bounded m :=
  ⟨hlo, hhi, Nat.zero_le _, Nat.zero_le _, fun _ => rfl, fun _ => rfl⟩

/-- A drum in DUAL with healthy encoders and no history fits. -/
theorem Drum.fits_of_fresh {x : Drum} (hs : x.state = .dual) (ha : x.enc.a.failed = false)
    (hb : x.enc.b.failed = false) (hh : x.history = []) : x.Fits := by
  unfold Drum.Fits
  rw [hs, ha, hb, hh]
  decide

theorem authorityOf_bounds (stored : Option StoredTable) :
    0 ≤ authorityOf (restoredTable stored) ∧ authorityOf (restoredTable stored) ≤ Config.maxK := by
  unfold restoredTable
  split
  next =>
    split
    next => exact effective_authority _
    next => decide
  next => decide

theorem parkK_bounds (park : Option Park) {a : Int} (h : 0 ≤ a) (clutch : Bool) (d : Side) :
    -a ≤ parkK park a clutch d ∧ parkK park a clutch d ≤ a := by
  unfold parkK
  split
  next => omega
  next =>
    split
    next => omega
    next => exact clamp_bounds (by omega)

/-- The comparisons and failures that follow a reset at once. -/
theorem work_failUnmonitored (s : State) (d : Side) : Work s (s.failUnmonitored d) := by
  unfold State.failUnmonitored
  dsimp only
  have hfirst : Work s (if (s.pins.monitors.get d).a = true then s else s.failEncoder d .a) :=
    .unless (work_failEncoder _ _ _)
  exact .ite hfirst (hfirst.trans (work_failEncoder _ _ _))

theorem work_compareAll (s : State) : Work s s.compareAll :=
  ((((((work_compareChannel s .s1 .x).trans (work_compareChannel _ .s1 .y)).trans
    (work_compareChannel _ .s2 .x)).trans (work_compareChannel _ .s2 .y)).trans
    (work_compareChannel _ .s3 .x)).trans (work_compareChannel _ .s3 .y))

theorem work_afterReset (s : State) : Work s s.afterReset :=
  ((work_compareAll s).trans (work_failUnmonitored _ .one)).trans (work_failUnmonitored _ .two)

end Sys2Proof.Machine
end


section
/-! What each command makes of the parts that only some commands move, and of the invariants of the whole machine. -/

namespace Sys2Proof.Machine

/-! ## The effect of a command -/

/-- What the command `c` may make of `s`: input levels, time stamp, counts, active table, latches, winds and readiness each
move only at their own commands, and the ring, the drums and the tracks keep their bounds. -/
structure Effect (c : Instr) (s t : State) : Prop where
  pending : t.pending = s.pending
  pins : t.pins ≠ s.pins →
    (∃ x, c = .inputLevelChange x) ∨ (∃ n, c = .markerEdge n) ∨ (∃ d e, c = .lineMonitorInactive d e) ∨
      (∃ k h l, c = .readbackChange k h l) ∨ ∃ p, c = .powerOn p
  clock : t.clock ≠ s.clock → c = .transmitFrameEnd ∨ ∃ p, c = .powerOn p
  counts : ∀ d e, ((t.drums.drum.get d).enc.get e).count ≠ ((s.drums.drum.get d).enc.get e).count →
    (∃ f, c = .encoderStep d e f) ∨ c = .transmitFrameEnd ∨ ∃ p, c = .powerOn p
  active : t.table.active ≠ s.table.active → (∃ tag body, c = .tableClose tag body) ∨ ∃ p, c = .powerOn p
  latched : ∀ k, s.latched k = true → t.latched k = false → ∃ tag body, c = .tripReset tag body
  opens : s.wind.current = none → t.wind.current ≠ none → ∃ tag body, c = .wind tag body
  number : t.wind.number ≠ s.wind.number → (∃ tag body, c = .wind tag body) ∨ ∃ p, c = .powerOn p
  proven : t.proof.readiness = .proven → s.proof.readiness = .proven ∨ s.isProving = true
  history : s.wind.history.length ≤ Config.maxHistory → t.wind.history.length ≤ Config.maxHistory
  drums : s.DrumsFit → t.DrumsFit
  tracks : s.TracksBounded → t.TracksBounded

/-- The work of the blocks is within the effect of any command. -/
theorem FlowBase.effect {s t : State} (h : FlowBase s t) (c : Instr)
    (proven : t.proof.readiness = .proven → s.proof.readiness = .proven ∨ s.isProving = true) : Effect c s t where
  pending := h.pending
  pins hne := absurd h.pins hne
  clock hne := absurd h.clock hne
  counts d e hne := by
    obtain ⟨ha, hb⟩ := h.counts d
    cases e
    · exact absurd ha hne
    · exact absurd hb hne
  active hne := absurd h.active hne
  latched k hs ht := by rw [h.latched k hs] at ht; contradiction
  opens hs ht := absurd (h.wind.closed hs) ht
  number hne := absurd h.wind.number hne
  proven := proven
  history := h.wind.history
  drums := h.drums
  tracks := h.tracks

theorem Flow.effect {s t : State} (h : Flow s t) (c : Instr) : Effect c s t := h.toFlowBase.effect c h.proven

/-- Work of the blocks after an effect. -/
theorem Effect.flowBase {c : Instr} {s u t : State} (e : Effect c s u) (h : FlowBase u t)
    (proven : t.proof.readiness = .proven → s.proof.readiness = .proven ∨ s.isProving = true) : Effect c s t where
  pending := h.pending.trans e.pending
  pins hne := e.pins (h.pins ▸ hne)
  clock hne := e.clock (h.clock ▸ hne)
  counts d x hne := by
    obtain ⟨ha, hb⟩ := h.counts d
    refine e.counts d x ?_
    cases x
    · exact ha ▸ hne
    · exact hb ▸ hne
  active hne := e.active (h.active ▸ hne)
  latched k hs ht := by
    refine e.latched k hs (eq_false_of_ne_true fun hu => ?_)
    rw [h.latched k hu] at ht
    contradiction
  opens hs ht := e.opens hs fun hu => ht (h.wind.closed hu)
  number hne := e.number (h.wind.number ▸ hne)
  proven := proven
  history hs := h.wind.history (e.history hs)
  drums hs := h.drums (e.drums hs)
  tracks hs := h.tracks (e.tracks hs)

/-- Work of the blocks after an effect that has left the proof unit. -/
theorem Effect.flow {c : Instr} {s u t : State} (e : Effect c s u) (hp : u.proof = s.proof) (h : Flow u t) :
    Effect c s t :=
  e.flowBase h.toFlowBase fun ht => by
    have := h.proven ht
    rwa [hp, State.isProving_congr hp] at this

/-! ## A state met by its event -/

/-- The state after what an event does first, before any block works on it: levels, settled inputs, the link port and the
staged records. -/
def State.met (s : State) (p : Pins) (i : Inputs) (l : LinkPort) (staged : List RawRecord) : State :=
  { s with pins := p, inputs := i, link := l, table := { s.table with staged := staged } }

/-- What a command does to the state its event has met, it does to the state before. -/
theorem Effect.of_met {c : Instr} {s t : State} {p : Pins} {i : Inputs} {l : LinkPort} {staged : List RawRecord}
    (e : Effect c (s.met p i l staged) t) (hpins : p ≠ s.pins →
      (∃ x, c = .inputLevelChange x) ∨ (∃ n, c = .markerEdge n) ∨ (∃ d e, c = .lineMonitorInactive d e) ∨
        (∃ k h l, c = .readbackChange k h l) ∨ ∃ p, c = .powerOn p) : Effect c s t where
  pending := e.pending
  pins hne := by
    by_cases hp : p = s.pins
    · exact e.pins fun ht => hne (ht.trans hp)
    · exact hpins hp
  clock := e.clock
  counts := e.counts
  active := e.active
  latched := e.latched
  opens := e.opens
  number := e.number
  proven := e.proven
  history := e.history
  drums := e.drums
  tracks := e.tracks

theorem State.Coherent.met {s : State} (h : s.Coherent) (p : Pins) (i : Inputs) {l : LinkPort}
    (staged : List RawRecord) (hl : l.load = none ∨ l.load = s.link.load) : (s.met p i l staged).Coherent := by
  obtain ⟨hlatches, hchannels, hwinds, hload, hproof, hready, hconditions⟩ := h
  refine ⟨hlatches, hchannels, hwinds, fun hne => ?_, hproof, hready, hconditions⟩
  exact hload fun hs => hne (hl.elim id fun h => h.trans hs)

/-- The end of a command at the link port touches nothing else. -/
theorem Effect.setLink {c : Instr} {s t : State} (e : Effect c s t) (l : LinkPort) : Effect c s (t.setLink l) :=
  ⟨e.pending, e.pins, e.clock, e.counts, e.active, e.latched, e.opens, e.number, e.proven, e.history, e.drums, e.tracks⟩

theorem State.Coherent.setLink {s : State} (h : s.Coherent) {l : LinkPort} (hl : l.load = s.link.load) :
    (s.setLink l).Coherent := h.met s.pins s.inputs s.table.staged (.inr hl)

/-! ## A command taken -/

/-- What the command `c` makes of the machine: its effect, and the invariants kept. -/
structure Stepped (c : Instr) (s t : State) : Prop extends Effect c s t where
  replies : s.link.replies.length ≤ Config.maxReplies → t.link.replies.length ≤ Config.maxReplies
  reports : s.link.reports.length ≤ Config.maxReports → t.link.reports.length ≤ Config.maxReports
  serves : s.TransmitterServes → t.TransmitterServes
  coherent : s.Coherent → t.Coherent
  furthest : s.FurthestFits → t.FurthestFits

theorem State.transmit_serves (s : State) : s.transmit.TransmitterServes := by
  intro hq ht
  rw [State.transmit_link] at hq ht ⊢
  exact s.link.serve_serves hq ht

theorem State.transmit_eq (s : State) : s.transmit = s.setLink s.link.serve := by
  have hlink : ∀ t, s.transmit = t → t = s.setLink t.link := by
    unfold State.transmit
    split <;> (intro t ht; rw [← ht]; rfl)
  rw [← State.transmit_link]
  exact hlink _ rfl

/-- A command that ends with the transmitter's choice. -/
theorem Stepped.of_transmit {c : Instr} {s u : State} (e : Effect c s u)
    (replies : s.link.replies.length ≤ Config.maxReplies → u.link.replies.length ≤ Config.maxReplies)
    (reports : s.link.reports.length ≤ Config.maxReports → u.link.reports.length ≤ Config.maxReports)
    (coherent : s.Coherent → u.Coherent) (furthest : s.FurthestFits → u.FurthestFits) :
    Stepped c s u.transmit := by
  obtain ⟨hreplies, hreports⟩ := u.link.serve_lengths
  refine ⟨?_, fun h => ?_, fun h => ?_, fun _ => u.transmit_serves, fun h => ?_, fun h => ?_⟩
  · rw [State.transmit_eq]; exact e.setLink _
  · rw [State.transmit_link]; exact Nat.le_trans hreplies (replies h)
  · rw [State.transmit_link]; exact Nat.le_trans hreports (reports h)
  · rw [State.transmit_eq]; exact (coherent h).setLink (by simp)
  · rw [State.transmit_eq]; exact furthest h

/-- A command that leaves what waits at the link port. -/
theorem Stepped.of_still {c : Instr} {s t : State} (e : Effect c s t) (hr : t.link.replies = s.link.replies)
    (hp : t.link.reports = s.link.reports) (ht : t.link.tx = s.link.tx) (hq : t.link.quiet = s.link.quiet)
    (coherent : s.Coherent → t.Coherent) (furthest : s.FurthestFits → t.FurthestFits) : Stepped c s t := by
  refine ⟨e, fun h => by rwa [hr], fun h => by rwa [hp], fun h => ?_, coherent, furthest⟩
  unfold State.TransmitterServes
  rw [hr, hp, ht, hq]
  exact h

theorem Stepped.rfl {c : Instr} {s : State} : Stepped c s s :=
  .of_still (Flow.rfl.effect c) (Eq.refl _) (Eq.refl _) (Eq.refl _) (Eq.refl _) id id

theorem Stepped.ite {c : Instr} {s t u : State} {p : Prop} [Decidable p] (h : Stepped c s t) (g : Stepped c s u) :
    Stepped c s (if p then t else u) := by
  split
  next => exact h
  next => exact g

/-- An event that meets the state, then lets the blocks work, and ends with the transmitter's choice. -/
theorem Stepped.of_duty {c : Instr} {s u : State} {p : Pins} {i : Inputs} {l : LinkPort} {staged : List RawRecord}
    (h : Duty (s.met p i l staged) u) (hpins : p ≠ s.pins →
      (∃ x, c = .inputLevelChange x) ∨ (∃ n, c = .markerEdge n) ∨ (∃ d e, c = .lineMonitorInactive d e) ∨
        (∃ k h l, c = .readbackChange k h l) ∨ ∃ p, c = .powerOn p)
    (hl : l.load = none ∨ l.load = s.link.load) (hreplies : l.replies = s.link.replies)
    (hreports : s.link.reports.length ≤ Config.maxReports → l.reports.length ≤ Config.maxReports) :
    Stepped c s u.transmit := by
  refine .of_transmit ((h.toFlow.effect c).of_met hpins) (fun hs => ?_) (fun hs => h.link.reports (hreports hs))
    (fun hs => h.coherent (hs.met p i staged hl)) h.furthest
  rw [h.link.replies]
  show l.replies.length ≤ _
  rwa [hreplies]

/-- The blocks work on the state as it stands. -/
theorem Stepped.of_duty_self {c : Instr} {s u : State} (h : Duty s u) : Stepped c s u.transmit :=
  .of_duty (p := s.pins) (i := s.inputs) (l := s.link) (staged := s.table.staged) h (absurd (Eq.refl _)) (.inr (Eq.refl _))
    (Eq.refl _) id

theorem Stepped.of_work_self {c : Instr} {s u : State} (h : Work s u) : Stepped c s u.transmit := .of_duty_self h.duty

/-! ## The arrival and the answer of a request -/

theorem LinkFlow.pushAll (rs : List Report) (p : LinkPort) : LinkFlow p (p.pushAll rs) := by
  induction rs generalizing p with
  | nil => exact .rfl
  | cons r rs ih => exact (LinkFlow.push p r).trans (ih _)

/-- A request that is received meets the state: the port has no load open unless the code keeps it, and nothing waits that
did not. -/
theorem State.frameArrives_met (s : State) (n : Nat) : ∃ l staged,
    s.frameArrives n = s.met s.pins s.inputs l staged ∧ l.replies = s.link.replies ∧
      (s.link.reports.length ≤ Config.maxReports → l.reports.length ≤ Config.maxReports) ∧
      (l.load = none ∨ l.load = s.link.load) ∧ (keepsLoad n = false → l.load = none) := by
  cases hk : keepsLoad n with
  | true => exact ⟨_, _, State.frameArrives_kept s n hk, rfl, id, .inr rfl, nofun⟩
  | false =>
    refine ⟨_, _, State.frameArrives_eq s n hk, ?_⟩
    rw [State.frameArrives_link s n hk]
    simp only [LinkPort.pushAll_replies, LinkPort.pushAll_load, true_or, true_and, implies_true, and_true]
    exact (LinkFlow.pushAll (s.abandonReports.map s.stamped) { s.link with
      rx := .hunting, silence := some Config.silenceMs, status := .live, load := none }).reports

/-- What the owner of a request may make of the state it is handed. -/
structure Owning (c : Instr) (s : State) (o : Owned) : Prop where
  effect : Effect c s o.state
  link : LinkFlow s.link o.state.link
  coherent : s.Coherent → o.state.Coherent
  furthest : s.FurthestFits → o.state.FurthestFits

theorem Duty.owning {c : Instr} {s : State} {o : Owned} (h : Duty s o.state) : Owning c s o :=
  ⟨h.toFlow.effect c, h.link, h.coherent, h.furthest⟩

theorem Work.owning {c : Instr} {s : State} {o : Owned} (h : Work s o.state) : Owning c s o := h.duty.owning

theorem owning_deny {c : Instr} {s : State} {why : Result} : Owning c s (s.deny why) := Duty.owning .rfl

/-- A request received, answered by its owner. -/
theorem stepped_finish {c : Instr} {s : State} {n : Nat} {code tag : Byte} {o : Owned} (hr : s.receives = true)
    (h : (keepsLoad n = false → (s.frameArrives n).link.load = none) → Owning c (s.frameArrives n) o) :
    Stepped c s (o.finish code tag) := by
  obtain ⟨l, staged, hmet, hreplies, hreports, hload, hclosed⟩ := s.frameArrives_met n
  rw [hmet] at h
  obtain ⟨heffect, hlink, hcoherent, hfurthest⟩ := h hclosed
  have hroom : s.link.replies.length < Config.maxReplies := by
    simp only [State.receives, Bool.and_eq_true, decide_eq_true_eq] at hr
    exact hr.2
  refine .of_transmit ((heffect.of_met (absurd rfl)).setLink _) (fun _ => ?_)
    (fun hs => hlink.reports (hreports hs)) (fun hs => (hcoherent (hs.met s.pins s.inputs staged hload)).setLink rfl)
    hfurthest
  show (o.state.link.replies ++ [_]).length ≤ _
  rw [hlink.replies, List.length_append]
  show l.replies.length + 1 ≤ _
  rw [hreplies]
  exact hroom

theorem stepped_discard {c : Instr} {s : State} : Stepped c s s.discardFrame :=
  .of_still ((Flow.rfl.effect c).setLink _) rfl rfl rfl rfl (fun h => h.setLink rfl) id

/-- A request of a fixed length, whatever the port makes of it. -/
theorem stepped_request {c : Instr} {s : State} {code tag : Byte} {n : Nat} {body : List Byte} {owner : State → Owned}
    (h : ∀ x : State, (keepsLoad code.toNat = false → x.link.load = none) → Owning c x (owner x)) :
    Stepped c s (s.request code tag n body owner) := by
  unfold State.request
  split
  next => exact stepped_discard
  next hr =>
    rw [Bool.not_eq_true', Bool.not_eq_false] at hr
    refine stepped_finish (n := code.toNat) hr fun hload => ?_
    split
    next => exact owning_deny
    next =>
      split
      next => exact owning_deny
      next => exact h _ hload

end Sys2Proof.Machine
end


section
/-! Every command taken: the requests at their owners, the events of the blocks, and the resets. -/

namespace Sys2Proof.Machine

/-! ## The requests that grant something -/

/-- What a WIND that passes its checks has found (R110). -/
theorem State.judgeWind_ok {s : State} {station : Nat} {mode : Mode} {lead : Side} {target : Int}
    (h : s.judgeWind station mode lead = .ok target) :
    s.windOpen = false ∧ s.anyLatched = false ∧ s.hasTable = true ∧ s.proof.readiness = .proven := by
  rw [State.judgeWind_eq] at h
  cases hr : firstRefusal (s.windChecks station mode lead) with
  | some why => rw [hr] at h; contradiction
  | none =>
    simp only [firstRefusal_eq_none, State.windChecks, List.forall_mem_cons, decide_eq_false_iff_not] at hr
    obtain ⟨hopen, hlatched, htable, hready, -⟩ := hr
    exact ⟨hopen, hlatched, by simpa using htable, Decidable.not_not.mp hready⟩

theorem effect_acceptWind (s : State) (w : OpenWind) (tag : Byte) (body : List Byte) :
    Effect (.wind tag body) s (s.acceptWind w) := by
  rw [State.acceptWind_eq]
  refine ⟨rfl, fun h => absurd rfl h, fun h => absurd rfl h, fun _ _ h => absurd rfl h, fun h => absurd rfl h,
    fun k hs ht => ?_, fun _ _ => ⟨_, _, rfl⟩, fun _ => .inl ⟨_, _, rfl⟩, .inl, id, id, id⟩
  exact absurd (hs.symm.trans ht) (by decide)

/-- WIND at its owner: an accepted one opens over a clear, proven part, with the furthest point at the start. -/
theorem owning_wind {s : State} (tag : Byte) (body : List Byte) (hload : s.link.load = none) :
    Owning (.wind tag body) s (s.ownWind body) := by
  unfold State.ownWind
  split
  next mode lead _ _ =>
    split
    next => exact owning_deny
    next target hjudged =>
      obtain ⟨hopen, hclear, htable, hready⟩ := State.judgeWind_ok hjudged
      refine ⟨effect_acceptWind s _ tag body, ?_, fun hs => ?_, ?_⟩
      · rw [State.done, State.acceptWind_eq]; exact LinkFlow.push _ _
      · rw [State.done, State.acceptWind_eq]
        refine ⟨hs.latches, hs.channels, fun hany => ?_, fun hne => ?_, fun hp => ?_, hs.readiness,
          hs.conditions⟩
        · exact absurd (hclear.symm.trans hany) (by decide)
        · exact absurd (by simpa using hload) hne
        · unfold State.isProving at hp
          rw [hready] at hp
          contradiction
      · rw [State.done, State.acceptWind_eq]
        intro _ w hw
        cases hw
        simp only [State.newWind, Int.sub_self, Int.zero_mul]
        exact ⟨fun _ => Int.le_refl _, fun _ => by decide⟩
  next => exact owning_deny

/-- A reset of latches touches the trip unit alone. -/
theorem State.setLatch_eq (s : State) (k : Stage) (l : Latch) : s.setLatch k l = s.setTrip (s.setLatch k l).trip :=
  calc s.setLatch k l = { s.setLatch k l with trip := (s.setLatch k l).trip } := rfl
    _ = _ := by
      simp only [State.setLatch_pending, State.setLatch_pins, State.setLatch_clock, State.setLatch_link,
        State.setLatch_table, State.setLatch_drums, State.setLatch_inputs, State.setLatch_rope, State.setLatch_depth,
        State.setLatch_env, State.setLatch_wind, State.setLatch_proof]
      rfl

theorem State.clearLatches_eq (ks : List Stage) (s : State) :
    ks.foldl (fun x j => x.setLatch j .clear) s = s.setTrip (ks.foldl (fun x j => x.setLatch j .clear) s).trip := by
  induction ks generalizing s with
  | nil => rfl
  | cons k ks ih =>
    rw [List.foldl_cons, ih, State.setLatch_eq]
    rfl

theorem State.unlatch_eq (s : State) (k : Stage) : s.unlatch k = s.setTrip (s.unlatch k).trip :=
  State.clearLatches_eq _ s

/-- A TRIP-RESET may replace the trip unit. -/
theorem effect_setTrip (s : State) (x : TripUnit) (tag : Byte) (body : List Byte) :
    Effect (.tripReset tag body) s (s.setTrip x) :=
  ⟨rfl, fun h => absurd rfl h, fun h => absurd rfl h, fun _ _ h => absurd rfl h, fun h => absurd rfl h,
    fun _ _ _ => ⟨_, _, rfl⟩, fun hs ht => absurd hs ht, fun h => absurd rfl h, .inl, id, id, id⟩

/-- What follows the clearing of the latches (R140, R142). -/
theorem work_resetTrip (s : State) (k : Stage) (recover : Bool) : Work (s.unlatch k) (s.resetTrip k recover) := by
  unfold State.resetTrip State.clearMotionFlags State.enterRecovery
  have hmarked := ((work_report (s.unlatch k) (.tripReset k (s.unlatch k).latches)).trans (work_markRest _)).trans
    (work_markHold _)
  refine .trans (hmarked.trans (work_setWind _ _ ?_ ?_ ?_)) (.onlyIf (work_setWind _ _ ?_ ?_ ?_))
  all_goals rfl

/-- The checks passed at a latched stage leave no active condition but LIMIT (R139). -/
theorem State.Coherent.limits_of_passed {s : State} (hs : s.Coherent) {k : Stage} {flag : Byte}
    (hpassed : firstRefusal (s.resetChecks k flag) = none) (hk : s.latched k = true) :
    ∀ c ∈ s.trip.active, c.isCondition = true → c.isLimit = true := by
  intro c hc hcond
  have hlatched := (hs.resettable hpassed hk).latched .s3
  simp only [firstRefusal_eq_none, State.resetChecks, List.forall_mem_cons, decide_eq_false_iff_not,
    Bool.and_eq_false_iff, Bool.not_eq_false', decide_eq_true_eq] at hpassed
  obtain ⟨-, -, hcauses, -⟩ := hpassed
  refine Decidable.byContradiction fun hother => ?_
  have h3 := hs.conditions c hc hcond (eq_false_of_ne_true hother)
  have hk3 : k = .s3 := by
    rw [h3] at hlatched
    cases k <;> first | rfl | exact absurd hlatched (by decide)
  rcases hcauses with hnone | ⟨-, -, hall⟩
  · exact hnone ⟨hk3, c, hc, hcond⟩
  · exact hother (hall c hc hcond)

/-- With every stage clear and every channel energised a coherent part stays so. -/
theorem State.Coherent.unlatch {s : State} (hs : s.Coherent) {k : Stage} {flag : Byte}
    (hpassed : firstRefusal (s.resetChecks k flag) = none) (hk : s.latched k = true) : (s.unlatch k).Coherent := by
  have hreset := hs.resettable hpassed hk
  have hclear := hreset.unlatch_latched
  have hproof : (s.unlatch k).proof = s.proof := by rw [State.unlatch_eq]; rfl
  have hwind : (s.unlatch k).wind = s.wind := by rw [State.unlatch_eq]; rfl
  have hactive : (s.unlatch k).trip.active = s.trip.active := by rw [hreset.cleared_unlatch.rest]
  have hproving : (s.unlatch k).isProving = s.isProving := State.isProving_congr hproof
  refine ⟨⟨fun h => ?_, fun h => ?_⟩, fun _ j h => ?_, fun hany => ?_, fun hne => ?_, fun hp => ?_, ?_,
    fun c hc hcond hother => ?_⟩
  · rw [hclear] at h; contradiction
  · rw [hclear] at h; contradiction
  · rw [hreset.unlatch_commanded, hclear]; rfl
  · simp only [State.anyLatched, hclear] at hany
    contradiction
  · rw [hwind, hproving]
    refine hs.load fun hload => hne ?_
    rw [State.unlatch_eq]
    exact hload
  · rw [hproving] at hp
    have hrest : s.proof.readiness ≠ .proven := fun hr => by
      unfold State.isProving at hp
      rw [hr] at hp
      contradiction
    have h3 := (hs.proof hp).1
    rw [hreset.latched] at h3
    have hk3 : k = .s3 := by cases k <;> first | rfl | exact absurd h3 (by decide)
    simp only [firstRefusal_eq_none, State.resetChecks, List.forall_mem_cons, decide_eq_false_iff_not] at hpassed
    obtain ⟨-, -, -, hproven, -⟩ := hpassed
    exact absurd ⟨by rw [hk3]; decide, hrest⟩ hproven
  · unfold State.ReadinessFits
    rw [hproof, State.unlatch_eq]
    exact hs.readiness
  · rw [hactive] at hc
    rw [hs.limits_of_passed hpassed hk c hc hcond] at hother
    contradiction

/-- TRIP-RESET at its owner. -/
theorem owning_tripReset (s : State) (tag : Byte) (body : List Byte) :
    Owning (.tripReset tag body) s (s.ownTripReset body) := by
  unfold State.ownTripReset
  split
  next k recover hk hrecover =>
    split
    next => exact owning_deny
    next hpassed =>
      split
      next hlatched =>
        have hwork := work_resetTrip s k recover
        have hunlatch := State.unlatch_eq s k
        obtain ⟨flag, rfl⟩ : ∃ flag : Byte, recover = decide (flag = 1) := by
          cases recover
          · exact ⟨0, rfl⟩
          · exact ⟨1, rfl⟩
        rw [State.resetRefusal_eq_firstRefusal] at hpassed
        refine ⟨?_, ?_, fun hs => hwork.duty.coherent (hs.unlatch hpassed hlatched), fun hs => hwork.furthest ?_⟩
        · refine Effect.flow (hunlatch ▸ effect_setTrip s _ tag body) ?_ hwork.toFlow
          rw [hunlatch]; rfl
        · refine LinkFlow.trans (.of_eq ?_) hwork.link
          rw [hunlatch]; rfl
        · rw [hunlatch]; exact hs
      next => exact Duty.owning .rfl
  next => exact owning_deny

/-- The checks of PROOF as a list in their order (R151). -/
theorem State.proofRefusal_eq_firstRefusal (s : State) : s.proofRefusal = firstRefusal
    [(s.isProving, .busy), (s.windOpen, .busy), (!s.hasTable, .noTable), (!s.bothStationary, .moving)] := rfl

/-- A raise leaves latched every stage it reaches. -/
theorem State.raiseCause_latched {s : State} {c : Cause} {k : Stage} (h : c.reaches k = true) :
    (s.raiseCause c).latched k = true := by
  have hrecord : (s.raiseRecord c).latched k = true := by rw [State.raiseRecord_latched, h, Bool.or_true]
  unfold State.raiseCause
  split
  next => exact hrecord
  next => exact (work_handLatch _ c).1.latched k hrecord

/-- A proof that begins over a part with every stage latched, no wind and no load. -/
theorem State.Coherent.beginProof {s t : State} (hs : s.Coherent) (h : ProofWork s t) (hload : s.link.load = none)
    (hwind : s.wind.current = none) (hlatched : s.latched .s3 = true) (htable : s.hasTable = true) : t.Coherent := by
  have hl := State.latched_congr h.latch
  have hclosed : t.wind.current = none := h.current.trans hwind
  refine ⟨?_, h.channels hs.channels, State.windsClear_of_none hclosed, fun hne => absurd (h.load.trans hload) hne,
    fun _ => ⟨by rw [hl]; exact hlatched, hclosed⟩, ?_, fun x hx hcond hother => ?_⟩
  · simpa only [State.LatchesOrdered, hl] using hs.latches
  · have hready : s.proof.readiness ≠ .noTable := fun hr => by
      rw [hs.readiness.mp hr] at htable; contradiction
    unfold State.ReadinessFits
    rw [State.hasTable_congr h.active, htable]
    exact ⟨fun hno => absurd hno (h.ready hready), nofun⟩
  · rw [hl]; exact hlatched

theorem State.failProof_readiness (s : State) (step code detail : Nat) :
    (s.failProof step code detail).proof.readiness = .proofFailed := by
  unfold State.failProof
  rw [State.report_proof, State.setProof_proof, State.leaveProof_proof]

theorem State.judgeTable_readiness (s : State) : s.judgeTable.proof.readiness ≠ .proven := by
  unfold State.judgeTable
  split
  next => rw [State.report_proof]; nofun
  next => rw [State.failProof_readiness]; nofun

/-- PROOF at its owner: an accepted one begins with every stage latched and no wind open (R145, R151). -/
theorem owning_proof {s : State} (c : Instr) (hload : s.link.load = none) : Owning c s s.ownProof := by
  unfold State.ownProof
  split
  next => exact owning_deny
  next hpassed =>
    simp only [State.proofRefusal_eq_firstRefusal, firstRefusal_eq_none, List.forall_mem_cons] at hpassed
    obtain ⟨hproving, hopen, htable, -⟩ := hpassed
    have hraise := work_raiseCause s .proof
    have htest : (s.raiseCause .proof).inTripTest = false := by
      refine eq_false_of_ne_true fun hin => ?_
      have := State.isProving_of_inTripTest hin
      rw [State.isProving_congr hraise.proof, hproving] at this
      contradiction
    have hjudge := proofWork_judgeTable _ htest
    have hnone : s.wind.current = none := by simpa [State.windOpen] using hopen
    refine ⟨(hraise.toFlowBase.trans hjudge.toFlowBase).effect c fun hr => ?_, hraise.link.trans hjudge.link,
      fun hs => (hraise.duty.coherent hs).beginProof hjudge (hraise.load.trans hload) (hraise.wind.closed hnone)
        (State.raiseCause_latched rfl) ?_, fun hs => (hraise.furthest hs).congr hjudge.current⟩
    · exact absurd hr (State.judgeTable_readiness _)
    · rw [State.hasTable_congr hraise.active]
      simpa using htable

/-- ECHO-RETURN at its owner. -/
theorem owning_echoReturn (s : State) (c : Instr) (body : List Byte) : Owning c s (s.ownEchoReturn body) := by
  unfold State.ownEchoReturn
  split
  next hr =>
    exact Duty.owning ((proofWork_judgeReturn s _ _ _ (State.inTripTest_of_echo hr)).duty
      (State.isProving_of_readiness hr))
  next => exact owning_deny

/-! ## The requests of the shaft table -/

/-- TABLE-OPEN at its owner: a load opens with no wind and no proof. -/
theorem owning_tableOpen (s : State) (c : Instr) (body : List Byte) : Owning c s (s.ownTableOpen body) := by
  unfold State.ownTableOpen
  split
  next => exact owning_deny
  next hpassed =>
    simp only [State.openRefusal_eq_firstRefusal, firstRefusal_eq_none, List.forall_mem_cons] at hpassed
    obtain ⟨-, hopen, hproving, -⟩ := hpassed
    have hnone : s.wind.current = none := by simpa [State.windOpen] using hopen
    refine ⟨(flow_setTable s { s.table with staged := [] } rfl).effect c |>.setLink _, ?_, fun hs => ?_, id⟩
    · exact ⟨rfl, rfl, rfl, rfl, rfl, rfl, rfl, id⟩
    · obtain ⟨hlatches, hchannels, hwinds, -, hproof, hready, hconditions⟩ := hs
      exact ⟨hlatches, hchannels, hwinds, fun _ => ⟨hnone, hproving⟩, hproof, hready, hconditions⟩

/-- A load that ends leaves the port and the staged table. -/
theorem State.closeLoad_met (s : State) :
    s.closeLoad = s.met s.pins s.inputs { s.link with load := none } [] := rfl

theorem State.abandonLoad_met (s : State) : ∃ l staged, s.abandonLoad = s.met s.pins s.inputs l staged ∧
    LinkFlow s.link l ∧ l.load = none := by
  unfold State.abandonLoad
  split
  next h => exact ⟨_, _, rfl, .rfl, h⟩
  next l _ =>
    refine ⟨_, [], State.report_eq _ _, ?_, LinkPort.push_load _ _⟩
    refine LinkFlow.trans (q := { s.link with load := none }) ?_ (.push _ _)
    exact ⟨rfl, rfl, rfl, rfl, rfl, rfl, rfl, id⟩

/-- An owner that leaves the blocks alone and opens no load. -/
theorem owning_met {c : Instr} {s : State} {o : Owned} {l : LinkPort} {staged : List RawRecord}
    (ho : o.state = s.met s.pins s.inputs l staged) (hl : LinkFlow s.link l)
    (hload : l.load = none ∨ l.load = s.link.load ∨ s.link.load ≠ none) : Owning c s o := by
  refine ⟨?_, ?_, fun hs => ?_, fun hs => ?_⟩
  · rw [ho]
    exact (Flow.rfl.effect c).of_met (s := s) (t := s.met s.pins s.inputs l staged) (absurd rfl)
  · rw [ho]; exact hl
  · rw [ho]
    obtain ⟨hlatches, hchannels, hwinds, hload', hproof, hready, hconditions⟩ := hs
    refine ⟨hlatches, hchannels, hwinds, fun hne => hload' ?_, hproof, hready, hconditions⟩
    rcases hload with h | h | h
    · exact absurd h hne
    · exact fun hs => hne (h.trans hs)
    · exact h
  · rw [ho]; exact hs

theorem owning_failRecord (s : State) (c : Instr) (why : Result) : Owning c s (s.failRecord why) := by
  obtain ⟨l, staged, hmet, hl, hload⟩ := s.abandonLoad_met
  exact owning_met hmet hl (.inl hload)

theorem owning_arriveRecord (s : State) (c : Instr) (body : List Byte) : Owning c s (s.arriveRecord body) := by
  unfold State.arriveRecord
  split
  next => exact owning_failRecord s c _
  next =>
    split
    next => exact owning_deny
    next =>
      unfold State.ownTableRecord
      split
      next => exact owning_deny
      next l hl =>
        dsimp only
        split
        next => exact owning_failRecord s c _
        next => exact owning_met rfl ⟨rfl, rfl, rfl, rfl, rfl, rfl, rfl, id⟩ (.inr (.inr (by rw [hl]; nofun)))

/-- The activation of a table moves the active table alone of what only some commands move. -/
theorem effect_activated (s : State) (check : Half) (tag : Byte) (body : List Byte) :
    Effect (.tableClose tag body) s (s.activated check) := by
  refine ⟨rfl, fun h => absurd rfl h, fun h => absurd rfl h, fun d e h => ?_, fun _ => .inl ⟨_, _, rfl⟩,
    fun k hs ht => ?_, fun hs ht => absurd hs ht, fun h => absurd rfl h, nofun, id, fun hs => ?_, fun hs => ?_⟩
  · cases d <;> exact absurd rfl h
  · exact absurd (hs.symm.trans ht) (by decide)
  · obtain ⟨⟨h1, h2, h3, -, -⟩, ⟨g1, g2, g3, -, -⟩⟩ := hs
    exact ⟨⟨h1, h2, h3, Nat.zero_le _, fun _ => rfl⟩, ⟨g1, g2, g3, Nat.zero_le _, fun _ => rfl⟩⟩
  · obtain ⟨-, -, hone, htwo⟩ := hs
    obtain ⟨h0, hmax⟩ := effective_authority s.table.staged
    exact ⟨h0, hmax, hone.activate h0, htwo.activate h0⟩

theorem State.Coherent.activated {s : State} (hs : s.Coherent) {check : Half} (hload : s.link.load ≠ none) :
    (s.activated check).Coherent ∧ (s.activated check).wind.current = none := by
  obtain ⟨hnone, hproving⟩ := hs.load hload
  have htest : s.inTripTest = false := by
    refine eq_false_of_ne_true fun hin => ?_
    rw [State.isProving_of_inTripTest hin] at hproving
    contradiction
  refine ⟨⟨hs.latches, fun _ => hs.channels htest, State.windsClear_of_none hnone, fun _ => ⟨hnone, rfl⟩, nofun, ?_,
    hs.conditions⟩, hnone⟩
  exact ⟨nofun, nofun⟩

/-- TABLE-CLOSE at its owner. -/
theorem owning_tableClose (s : State) (tag : Byte) (body : List Byte) :
    Owning (.tableClose tag body) s s.ownTableClose := by
  unfold State.ownTableClose
  split
  next => exact owning_deny
  next l hl =>
    split
    next =>
      obtain ⟨p, staged, hmet, hp, hload⟩ := s.abandonLoad_met
      exact owning_met hmet hp (.inl hload)
    next =>
      split
      next => exact owning_met s.closeLoad_met ⟨rfl, rfl, rfl, rfl, rfl, rfl, rfl, id⟩ (.inl rfl)
      next =>
        have hload : s.link.load ≠ none := by rw [hl]; nofun
        have hflow := flow_endRecovery (s.activated l.check)
        have hopened : LinkFlow s.link { s.link with load := none } := ⟨rfl, rfl, rfl, rfl, rfl, rfl, rfl, id⟩
        refine ⟨?_, ?_, fun hs => ?_, fun hs => ?_⟩ <;> rw [State.done, State.activate_eq]
        · refine (effect_activated s l.check tag body).flowBase hflow.toFlowBase fun hr => ?_
          rw [State.endRecovery_proof] at hr
          contradiction
        · exact (hopened.trans (.pushAll _ _)).trans hflow.link
        · obtain ⟨hcoherent, hnone⟩ := hs.activated (check := l.check) hload
          exact (work_endRecovery _ hnone).duty.coherent hcoherent
        · obtain ⟨-, -, -, hwind⟩ := (s.activated l.check).endRecovery_ends
          exact State.FurthestFits.congr (s := s.activated l.check) (by rw [hwind]) hs

/-! ## The encoders' steps, the end of a frame, and the resets -/

theorem State.setDrum_counts {s : State} {d e : Side} {x : Drum} {i : Twin}
    (h : (((s.setDrum d x).drums.drum.get e).enc.get i).count ≠ ((s.drums.drum.get e).enc.get i).count) :
    e = d ∧ (x.enc.get i).count ≠ ((s.drums.drum.get d).enc.get i).count := by
  by_cases he : e = d
  · subst he
    rw [State.setDrum_get] at h
    exact ⟨rfl, h⟩
  · rw [State.setDrum_drum, PerSide.get_set_ne _ _ _ _ he] at h
    exact absurd rfl h

theorem stepEncoder_failed (enc : Encoder) (sense forward : Bool) :
    (stepEncoder enc sense forward).failed = enc.failed := by
  unfold stepEncoder
  split <;> rfl

/-- A counted step moves one count and leaves every encoder's health. -/
theorem Drum.Fits.countStep {x : Drum} (h : x.Fits) (e : Twin) (sense forward : Bool) :
    Drum.Fits { x with enc := x.enc.set e (stepEncoder (x.enc.get e) sense forward) } := by
  unfold Drum.Fits at *
  cases e <;> simpa only [PerTwin.get_a, PerTwin.get_b, PerTwin.set_a, PerTwin.set_b, stepEncoder_failed] using h

theorem stepped_countStep (s : State) (d : Side) (e : Twin) (forward : Bool) :
    Stepped (.encoderStep d e forward) s (s.countStep d e forward) := by
  refine .of_still ⟨rfl, fun h => absurd rfl h, fun h => absurd rfl h, fun i j hne => ?_, fun h => absurd rfl h,
    fun k hs ht => absurd (hs.symm.trans ht) (by decide), fun hs ht => absurd hs ht, fun h => absurd rfl h, .inl, id,
    fun hs => ?_, id⟩ rfl rfl rfl rfl (fun hs => ?_) id
  · obtain ⟨rfl, hcount⟩ := State.setDrum_counts hne
    by_cases hj : j = e
    · subst hj; exact .inl ⟨_, rfl⟩
    · rw [PerTwin.get_set_ne _ _ _ _ hj] at hcount
      exact absurd rfl hcount
  · cases d
    · exact ⟨hs.1.countStep e _ _, hs.2⟩
    · exact ⟨hs.1, hs.2.countStep e _ _⟩
  · exact ⟨hs.latches, hs.channels, hs.winds, hs.load, hs.proof, hs.readiness, hs.conditions⟩

/-- With every latch set, all channels off and nothing open, readiness alone has to fit. -/
theorem State.coherent_of_reset {s : State} (hl : ∀ k, s.latched k = true) (hc : s.trip.chan = channelsOff)
    (hw : s.wind.current = none) (hload : s.link.load = none)
    (hr : s.proof.readiness = readinessAfter s.hasTable) : s.Coherent := by
  have hproving : s.isProving = false := by
    unfold State.isProving
    rw [hr]
    unfold readinessAfter
    cases s.hasTable <;> rfl
  refine ⟨⟨fun _ => hl _, fun _ => hl _⟩, fun _ k h => ?_, State.windsClear_of_none hw,
    fun hne => absurd hload hne, fun hp => ?_, ?_, fun _ _ _ _ => hl _⟩
  · rw [hl, State.channel, hc]
    cases k <;> cases h <;> rfl
  · rw [hproving] at hp
    contradiction
  · unfold State.ReadinessFits readinessAfter at *
    rw [hr]
    cases s.hasTable <;> decide

theorem Latch.restart_isLatched (l : Latch) : l.restart.isLatched = true := by cases l <;> rfl

theorem State.restartBlocks_latched (s : State) (k : Stage) : s.restartBlocks.latched k = true := by
  cases k <;> exact Latch.restart_isLatched _

theorem State.Coherent.restartBlocks (s : State) : s.restartBlocks.Coherent :=
  State.coherent_of_reset s.restartBlocks_latched rfl rfl rfl rfl

theorem readinessAfter_ne_proven (b : Bool) : readinessAfter b ≠ .proven := by
  cases b <;> decide

/-- The blocks at a restart proper (R160). -/
theorem effect_restartBlocks (s : State) : Effect .transmitFrameEnd s s.requestPark.restartBlocks := by
  have hactive : s.requestPark.restartBlocks.table.active = s.table.active := by
    rw [State.requestPark_eq]; exact s.tableParked_active
  refine ⟨?_, ?_, fun _ => .inl rfl, fun _ _ _ => .inr (.inl rfl), fun h => absurd hactive h,
    fun k _ ht => ?_, fun _ ht => absurd rfl ht, ?_, fun h => absurd h (readinessAfter_ne_proven _), ?_, fun _ => ?_,
    fun hs => ?_⟩
  · rw [State.requestPark_eq]; rfl
  · rw [State.requestPark_eq]; exact fun h => absurd rfl h
  · rw [State.restartBlocks_latched] at ht
    contradiction
  · rw [State.requestPark_eq]; exact fun h => absurd rfl h
  · rw [State.requestPark_eq]; exact id
  · exact ⟨Drum.fits_of_fresh rfl rfl rfl rfl, Drum.fits_of_fresh rfl rfl rfl rfl⟩
  · obtain ⟨h0, hmax, hone, htwo⟩ := hs
    unfold State.TracksBounded
    rw [State.authority_congr hactive, State.requestPark_eq]
    exact ⟨h0, hmax, hone.restart, htwo.restart⟩

/-- The restart proper leaves the link port as a reset does, and everything coherent. -/
theorem stepped_restartProper (s : State) : Stepped .transmitFrameEnd s s.restartProper.transmit := by
  have hafter : Work s.requestPark.restartBlocks s.restartProper := work_afterReset _
  have hready : s.restartProper.proof.readiness ≠ .proven := by
    rw [hafter.proof]; exact readinessAfter_ne_proven _
  refine .of_transmit ((effect_restartBlocks s).flowBase hafter.toFlowBase fun hr => absurd hr hready) (fun _ => ?_)
    (fun _ => hafter.link.reports (Nat.zero_le _)) (fun _ => hafter.duty.coherent (State.Coherent.restartBlocks _))
    (fun _ => State.furthestFits_of_none (hafter.wind.closed rfl))
  rw [hafter.link.replies]
  exact Nat.zero_le _

/-- The end of a frame: the transmitter is idle, and the proof unit or the restart is handed what it awaits (R168). -/
theorem stepped_endFrame (s : State) : Stepped .transmitFrameEnd s s.endFrame := by
  unfold State.endFrame
  split
  next => exact .rfl
  next f _ =>
    have hidle : s.setLink { s.link with tx := none } =
        s.met s.pins s.inputs { s.link with tx := none } s.table.staged := rfl
    have hduty {u : State} (h : Duty (s.met s.pins s.inputs { s.link with tx := none } s.table.staged) u) :
        Stepped .transmitFrameEnd s u.transmit := .of_duty h (absurd rfl) (.inr rfl) rfl id
    unfold State.handFrameEnd
    split
    next r =>
      split
      next =>
        unfold State.probeSent
        split
        next hr =>
          split
          next =>
            refine hduty ((proofWork_setProof _ _ (State.inTripTest_of_echo hr) ?_).duty
              (State.isProving_of_readiness hr))
            nofun
          next => exact hduty .rfl
        next => exact hduty .rfl
      next => exact hduty .rfl
    next =>
      split
      next =>
        rw [hidle]
        have h := stepped_restartProper (s.met s.pins s.inputs { s.link with tx := none } s.table.staged)
        exact ⟨h.toEffect.of_met (absurd rfl), h.replies, h.reports, fun _ => State.transmit_serves _,
          fun hs => h.coherent (hs.met _ _ _ (.inr rfl)), h.furthest⟩
      next => exact hduty .rfl

/-- The end of the quiet period: RESTARTED at the head of a queue that keeps its capacity (R161). -/
theorem stepped_endQuiet (s : State) : Stepped .quietPeriodExpiry s s.endQuiet := by
  refine Stepped.of_duty (p := s.pins) (i := s.inputs) (staged := s.table.staged)
    (l := { (s.placeAtHead s.restartedReport).link with quiet := none }) .rfl (absurd rfl) (.inr rfl) rfl fun _ => ?_
  show (s.restartedReport :: s.link.reports.take (Config.maxReports - 1)).length ≤ _
  rw [List.length_cons, List.length_take]
  have : 1 ≤ Config.maxReports := by decide
  omega

/-- Power-on starts every block from the store and the levels (8.6). -/
theorem stepped_powerOn (s : State) (pins : Pins) : Stepped (.powerOn pins) s (s.powerOnBlocks pins).afterReset := by
  have hafter : Work (s.powerOnBlocks pins) (s.powerOnBlocks pins).afterReset := work_afterReset _
  have hlatched (k : Stage) : (s.powerOnBlocks pins).latched k = true := by cases k <;> rfl
  have hready : (s.powerOnBlocks pins).proof.readiness ≠ .proven := readinessAfter_ne_proven _
  have hauth : (s.powerOnBlocks pins).authority = authorityOf (restoredTable s.table.stored) := rfl
  obtain ⟨h0, hmax⟩ := authorityOf_bounds s.table.stored
  have htrack (d : Side) : (powerOnTrack (parkK s.table.park (authorityOf (restoredTable s.table.stored)) pins.clutch
      d)).Bounded (authorityOf (restoredTable s.table.stored)) := by
    obtain ⟨hlo, hhi⟩ := parkK_bounds s.table.park h0 pins.clutch d
    exact Track.bounded_atPowerOn hlo hhi
  have heffect : Effect (.powerOn pins) s (s.powerOnBlocks pins) := by
    refine ⟨rfl, fun _ => ?_, fun _ => .inr ⟨_, rfl⟩, fun _ _ _ => .inr (.inr ⟨_, rfl⟩), fun _ => .inr ⟨_, rfl⟩,
      fun k _ ht => ?_, fun _ ht => absurd rfl ht, fun _ => .inr ⟨_, rfl⟩, fun h => absurd h hready,
      fun _ => Nat.zero_le _, fun _ => ?_, fun _ => ?_⟩
    · exact .inr (.inr (.inr (.inr ⟨_, rfl⟩)))
    · rw [hlatched] at ht
      contradiction
    · exact ⟨Drum.fits_of_fresh rfl rfl rfl rfl, Drum.fits_of_fresh rfl rfl rfl rfl⟩
    · unfold State.TracksBounded
      rw [hauth]
      exact ⟨h0, hmax, htrack .one, htrack .two⟩
  have hcoherent : (s.powerOnBlocks pins).Coherent := State.coherent_of_reset hlatched rfl rfl rfl rfl
  refine ⟨heffect.flowBase hafter.toFlowBase fun hr => ?_, fun _ => ?_, fun _ => hafter.link.reports (Nat.zero_le _),
    fun _ hq => ?_, fun _ => hafter.duty.coherent hcoherent,
    fun _ => State.furthestFits_of_none (hafter.wind.closed rfl)⟩
  · rw [hafter.proof] at hr
    exact absurd hr hready
  · rw [hafter.link.replies]
    exact Nat.zero_le _
  · rw [hafter.link.quiet] at hq
    contradiction

/-! ## Every command -/

/-- A redirection sets both payouts of a waiting wind to one, and leaves those of a wind under way. -/
theorem work_redirect (s : State) {w v : OpenWind} (b : ReportBody) (hw : s.wind.current = some w)
    (hphase : w.phase ≠ .stopping) (hfits : w.Fits → v.Fits) : Work s ((s.setCurrent v).report b) :=
  (work_setCurrent s w v hw (fun h => absurd h hphase) hfits).trans (work_report _ b)

theorem owning_redirect (s : State) (c : Instr) (body : List Byte) : Owning c s (s.ownRedirect body) := by
  unfold State.ownRedirect
  split
  next => exact owning_deny
  next w hw =>
    split
    next => exact owning_deny
    next hphase =>
      unfold State.redirectTo
      split
      next => exact owning_deny
      next target _ =>
        split
        next => exact owning_deny
        next =>
          split
          next =>
            split
            next => exact owning_deny
            next =>
              refine Work.owning (work_redirect s _ hw hphase fun _ => ?_)
              unfold OpenWind.Fits
              simp only [Int.sub_self, Int.zero_mul]
              exact ⟨fun _ => Int.le_refl _, fun _ => by decide⟩
          next =>
            split
            next => exact owning_deny
            next =>
              refine Work.owning (work_redirect s _ hw hphase fun hf => ⟨fun _ => hf.1 hphase, fun hacc => ?_⟩)
              have hmoving : s.redirectedPhase w target = .accepted := hacc
              unfold State.redirectedPhase at hmoving
              split at hmoving <;> contradiction

theorem owning_clearFaults (s : State) (c : Instr) : Owning c s s.ownClearFaults := by
  unfold State.ownClearFaults
  split
  next => exact owning_deny
  next => exact Work.owning (.of_trip (flow_setTrip s _ rfl) rfl rfl rfl rfl (fun _ _ => rfl) (fun _ hx => .inl hx) rfl)

theorem owning_restart (s : State) (c : Instr) : Owning c s s.ownRestart := by
  unfold State.ownRestart
  split
  next => exact owning_deny
  next =>
    split
    next => exact owning_deny
    next => exact owning_met (l := { s.link with restartDue := true }) (staged := s.table.staged) rfl
              ⟨rfl, rfl, rfl, rfl, rfl, rfl, rfl, id⟩ (.inr (.inl rfl))

/-- A command that works on one block and tells nobody. -/
theorem Stepped.of_silent {c : Instr} {s t : State} (h : Work s t) (hl : t.link = s.link) : Stepped c s t :=
  .of_still (h.toFlow.effect c) (by rw [hl]) (by rw [hl]) (by rw [hl]) (by rw [hl]) h.duty.coherent h.furthest

/-- A command that sets levels and settled inputs, or the receiver, and no more. -/
theorem Stepped.of_met {c : Instr} {s : State} {p : Pins} {i : Inputs} {l : LinkPort}
    (hpins : p ≠ s.pins → (∃ x, c = .inputLevelChange x) ∨ (∃ n, c = .markerEdge n) ∨
      (∃ d e, c = .lineMonitorInactive d e) ∨ (∃ k h l, c = .readbackChange k h l) ∨ ∃ p, c = .powerOn p)
    (hl : l = { s.link with rx := l.rx }) : Stepped c s (s.met p i l s.table.staged) := by
  refine .of_still ((Flow.rfl.effect c).of_met hpins) ?_ ?_ ?_ ?_ (fun hs => hs.met p i _ (.inr (by rw [hl]))) id
  case refine_1 => exact (congrArg LinkPort.replies hl :)
  case refine_2 => exact (congrArg LinkPort.reports hl :)
  case refine_3 => exact (congrArg LinkPort.tx hl :)
  case refine_4 => exact (congrArg LinkPort.quiet hl :)

theorem stepped_inputLevelChange (s : State) (x : InputChange) {t : State}
    (h : exec (.inputLevelChange x) s = .next t) : Stepped (.inputLevelChange x) s t := by
  cases h
  have hpins {p : Pins} (hp : p ≠ s.pins) : (∃ y, Instr.inputLevelChange x = .inputLevelChange y) ∨
      (∃ n, Instr.inputLevelChange x = .markerEdge n) ∨ (∃ d e, Instr.inputLevelChange x = .lineMonitorInactive d e) ∨
      (∃ k h l, Instr.inputLevelChange x = .readbackChange k h l) ∨
      ∃ p, Instr.inputLevelChange x = .powerOn p := .inl ⟨_, rfl⟩
  cases x with
  | clutch level => exact .ite .rfl (.of_met hpins rfl)
  | held level => exact .ite .rfl (.of_met hpins rfl)
  | permissive level => exact .ite .rfl (.of_met hpins rfl)
  | lineReleased line => exact .of_met (i := s.inputs) hpins rfl
  | monitorActive drum enc => exact .of_met (i := s.inputs) hpins rfl

/-- Every command is within its effect and keeps the invariants of the whole machine. -/
theorem exec_stepped (c : Instr) (s : State) : ∃ t, exec c s = .next t ∧ Stepped c s t := by
  cases c with
  | poll tag body =>
    refine ⟨_, rfl, stepped_request fun x _ => owning_met (l := { x.link with lost := false }) (staged := x.table.staged)
      rfl ⟨rfl, rfl, rfl, rfl, rfl, rfl, rfl, id⟩ (.inr (.inl rfl))⟩
  | wind tag body => exact ⟨_, rfl, stepped_request fun x hx => owning_wind tag body (hx rfl)⟩
  | redirect tag body => exact ⟨_, rfl, stepped_request fun x _ => owning_redirect x _ body⟩
  | abort tag body =>
    refine ⟨_, rfl, stepped_request fun x _ => ?_⟩
    unfold State.ownAbort
    split
    next => exact (work_abortWind x).owning
    next => exact owning_deny
  | tripReset tag body => exact ⟨_, rfl, stepped_request fun x _ => owning_tripReset x tag body⟩
  | proof tag body => exact ⟨_, rfl, stepped_request fun x hx => owning_proof _ (hx rfl)⟩
  | echoReturn tag body => exact ⟨_, rfl, stepped_request fun x _ => owning_echoReturn x _ body⟩
  | tableOpen tag body => exact ⟨_, rfl, stepped_request fun x _ => owning_tableOpen x _ body⟩
  | tableRecord tag body =>
    refine ⟨_, rfl, ?_⟩
    split
    next hr => exact stepped_finish (n := 9) hr fun _ => owning_arriveRecord _ _ body
    next => exact stepped_discard
  | tableClose tag body => exact ⟨_, rfl, stepped_request fun x _ => owning_tableClose x tag body⟩
  | readTable tag body =>
    refine ⟨_, rfl, stepped_request fun x _ => ?_⟩
    unfold State.ownReadTable
    split
    next => exact owning_deny
    next =>
      split
      next => exact Duty.owning .rfl
      next => exact owning_deny
  | readFaults tag body => exact ⟨_, rfl, stepped_request fun x _ => Duty.owning .rfl⟩
  | clearFaults tag body => exact ⟨_, rfl, stepped_request fun x _ => owning_clearFaults x _⟩
  | readHistory tag body =>
    refine ⟨_, rfl, stepped_request fun x _ => ?_⟩
    unfold State.ownReadHistory
    split
    next => exact Duty.owning .rfl
    next => exact owning_deny
  | restart tag body => exact ⟨_, rfl, stepped_request fun x _ => owning_restart x _⟩
  | unknownRequest code tag body =>
    refine ⟨_, rfl, ?_⟩
    split
    next hr => exact stepped_finish (n := code.toNat) hr fun _ => owning_deny
    next => exact stepped_discard
  | linkFrameDiscarded why => exact ⟨_, rfl, stepped_discard⟩
  | linkByteGap next =>
    exact ⟨_, rfl, .ite stepped_discard (.of_met (p := s.pins) (i := s.inputs)
      (l := { s.link with rx := (linkRxByte .hunting next).1 }) (absurd rfl) rfl)⟩
  | transmitFrameEnd => exact ⟨_, rfl, stepped_endFrame s⟩
  | quietPeriodExpiry => exact ⟨_, rfl, .ite (stepped_endQuiet s) .rfl⟩
  | linkSilenceExpiry =>
    refine ⟨_, rfl, .ite (.of_duty (p := s.pins) (i := s.inputs) (staged := s.table.staged)
      (l := { s.link with silence := none, status := .silent }) (Work.duty ?_) (absurd rfl) (.inr rfl) rfl id) .rfl⟩
    exact .onlyIf (work_raiseCause _ _)
  | loadSample frame =>
    refine ⟨_, rfl, .ite (.of_silent (work_setRope s _) rfl) (.of_duty_self ?_)⟩
    exact ((work_setRope s _).trans (work_evaluateFrame _ _)).duty.trans (duty_sampleLoads _)
  | loadFrameDiscarded why => exact ⟨_, rfl, .of_silent (work_setRope s _) rfl⟩
  | loadByteGap next => exact ⟨_, rfl, .of_silent (work_setRope s _) rfl⟩
  | frameTimerExpiry =>
    refine ⟨_, rfl, .ite (.of_duty_self ?_) .rfl⟩
    exact ((work_setRope s _).trans (work_evaluateTimer _)).duty.trans (duty_sampleLoads _)
  | holdTimerExpiry side rope => exact ⟨_, rfl, .ite (.of_work_self (work_expireHold s side rope)) .rfl⟩
  | encoderStep drum enc forward => exact ⟨_, rfl, stepped_countStep s drum enc forward⟩
  | quadratureError drum enc => exact ⟨_, rfl, .of_work_self (work_failEncoder s drum enc)⟩
  | lineMonitorInactive drum enc =>
    exact ⟨_, rfl, .of_duty (i := s.inputs) (l := s.link) (staged := s.table.staged) (work_failEncoder _ drum enc).duty
      (fun _ => .inr (.inr (.inl ⟨_, _, rfl⟩))) (.inr rfl) rfl id⟩
  | drumSample => exact ⟨_, rfl, .of_duty_self ((work_atProof s).duty.trans (duty_sampleProof _))⟩
  | markerEdge line =>
    refine ⟨_, rfl, .ite ?_ (.of_met (i := s.inputs) (l := s.link) (fun _ => .inr (.inl ⟨_, rfl⟩)) rfl)⟩
    exact .of_duty (i := s.inputs) (l := s.link) (staged := s.table.staged) (work_judgeEdge _ line).duty
      (fun _ => .inr (.inl ⟨_, rfl⟩)) (.inr rfl) rfl id
  | inputLevelChange change => exact ⟨_, rfl, stepped_inputLevelChange s change rfl⟩
  | clutchSettledChange =>
    refine ⟨_, rfl, .ite (.of_duty (p := s.pins) (i := { s.inputs with clutch := s.pins.clutch, clutchTimer := none })
      (l := s.link) (staged := s.table.staged) (Work.duty ?_) (absurd rfl) (.inr rfl) rfl id) .rfl⟩
    exact (((work_clutchDrums _).trans (work_clutchWind _)).trans (work_clutchEnvelope _)).trans (work_judgeLoadLost _)
  | drum2HeldSettledChange =>
    refine ⟨_, rfl, .ite (.of_duty (p := s.pins) (i := { s.inputs with held := s.pins.held, heldTimer := none })
      (l := s.link) (staged := s.table.staged) (Work.duty ?_) (absurd rfl) (.inr rfl) rfl id) .rfl⟩
    exact .onlyIf (work_raiseCause _ _)
  | resetPermissiveSettledChange =>
    exact ⟨_, rfl, .ite (.of_met (p := s.pins) (l := s.link) (absurd rfl) rfl) .rfl⟩
  | readbackChange stage chan level =>
    refine ⟨_, rfl, .ite .rfl (.of_duty (i := s.inputs) (l := s.link) (staged := s.table.staged)
      (duty_judgeReadback _ stage chan level) (fun _ => ?_) (.inr rfl) rfl id)⟩
    exact .inr (.inr (.inr (.inl ⟨_, _, _, rfl⟩)))
  | mismatchTimerExpiry stage chan => exact ⟨_, rfl, .ite (.of_work_self (work_expireMismatch s stage chan)) .rfl⟩
  | tableStoreWriteEnd readBack =>
    refine ⟨_, rfl, ?_⟩
    split
    next =>
      refine .of_work_self (.trans (work_setTable s _ ?_) (work_report _ _))
      rfl
    next => exact .rfl
  | parkWriteEnd agrees =>
    refine ⟨_, rfl, ?_⟩
    split
    next =>
      unfold State.endParkWrite
      split <;> exact .of_silent (work_setTable s _ rfl) rfl
    next => exact .rfl
  | startTimerExpiry =>
    refine ⟨_, rfl, ?_⟩
    split
    next => exact .ite (.of_work_self (work_closeWind s _)) .rfl
    next => exact .rfl
  | dwellTimerExpiry =>
    refine ⟨_, rfl, ?_⟩
    split
    next => exact .ite (.of_work_self (work_closeWind s _)) .rfl
    next => exact .rfl
  | echoTimerExpiry =>
    refine ⟨_, rfl, ?_⟩
    split
    next hr =>
      exact .ite (.of_duty_self ((proofWork_failProof s _ _ _).duty (State.isProving_of_readiness hr))) .rfl
    next => exact .rfl
  | testTimerExpiry =>
    refine ⟨_, rfl, ?_⟩
    split
    next hr =>
      exact .ite (.of_duty_self ((proofWork_failProof s _ _ _).duty (State.isProving_of_readiness hr))) .rfl
    next => exact .rfl
  | powerOn pins => exact ⟨_, rfl, stepped_powerOn s pins⟩

/-- A command answers one state, and that is within its effect. -/
theorem stepped_of_exec {c : Instr} {s t : State} (h : exec c s = .next t) : Stepped c s t := by
  obtain ⟨u, hu, hstepped⟩ := exec_stepped c s
  cases h.symm.trans hu
  exact hstepped

/-! ## One millisecond -/

theorem State.runTimers_isProving (s : State) : s.runTimers.isProving = s.isProving := by
  unfold State.isProving State.runTimers Readiness.run
  cases s.proof.readiness <;> rfl

theorem State.runTimers_inTripTest (s : State) : s.runTimers.inTripTest = s.inTripTest := by
  unfold State.inTripTest State.runTimers Readiness.run
  cases s.proof.readiness with
  | proving step => cases step <;> rfl
  | _ => rfl

theorem State.runTimers_current {s : State} {v : OpenWind} (h : s.runTimers.wind.current = some v) :
    ∃ w, s.wind.current = some w ∧ v = w.run := by
  obtain ⟨w, hw, rfl⟩ := Option.map_eq_some_iff.mp (show s.wind.current.map OpenWind.run = some v from h)
  exact ⟨w, hw, rfl⟩

/-- A millisecond moves timers and counts of milliseconds alone. -/
theorem State.Coherent.runTimers {s : State} (hs : s.Coherent) : s.runTimers.Coherent := by
  obtain ⟨hlatches, hchannels, hwinds, hload, hproof, hready, hconditions⟩ := hs
  have hclosed (h : s.wind.current = none) : s.runTimers.wind.current = none := by
    show s.wind.current.map OpenWind.run = none
    rw [h]; rfl
  refine ⟨hlatches, fun htest k h => ?_, fun hany v hv => ?_, fun hne => ?_, fun hp => ?_, ?_, hconditions⟩
  · rw [State.runTimers_inTripTest] at htest
    have hkept := hchannels htest k h
    cases k <;> cases h <;> exact hkept
  · obtain ⟨w, hw, rfl⟩ := State.runTimers_current hv
    exact hwinds hany w hw
  · obtain ⟨hnone, hproving⟩ := hload hne
    exact ⟨hclosed hnone, by rw [State.runTimers_isProving]; exact hproving⟩
  · rw [State.runTimers_isProving] at hp
    obtain ⟨h3, hnone⟩ := hproof hp
    exact ⟨h3, hclosed hnone⟩
  · have hrun : s.runTimers.proof.readiness = .noTable ↔ s.proof.readiness = .noTable := by
      show s.proof.readiness.run = .noTable ↔ _
      cases s.proof.readiness <;> simp [Readiness.run]
    exact hrun.trans hready

theorem State.FurthestFits.runTimers {s : State} (hs : s.FurthestFits) : s.runTimers.FurthestFits := by
  intro v hv
  obtain ⟨w, hw, rfl⟩ := State.runTimers_current hv
  exact hs w hw

/-! ## Every step keeps the invariants -/

/-- What every command and every millisecond keep, a step keeps: the queue is no part of it. -/
theorem step_keeps {P : State → Prop} (hqueue : ∀ s x, P s → P (s.setPending x)) (htick : ∀ s, P s → P s.runTimers)
    (hexec : ∀ c s t, Stepped c s t → P s → P t) {s t : State} (hs : P s) (h : step s = .next t) : P t := by
  unfold step at h
  split at h
  next c rest _ => exact hexec c _ t (stepped_of_exec h) (hqueue s rest hs)
  next => cases h; exact hqueue _ _ (htick s hs)

/-- Settles O33: WIND and REDIRECT set both payouts to one, and the work of a drum sample keeps the furthest point. -/
theorem stepsKeepTheFurthestPointFitting : Obligations.StepsKeepTheFurthestPointFitting := fun _ _ hs h =>
  step_keeps (P := State.FurthestFits) (fun _ _ h => h) (fun _ h => h.runTimers) (fun _ _ _ g => g.furthest) hs h

/-- Settles O56: each operation of the blocks, of the proof unit and of the requests keeps the blocks coherent. -/
theorem stepsKeepTheBlocksCoherent : Obligations.StepsKeepTheBlocksCoherent := fun _ _ hs h =>
  step_keeps (P := State.Coherent)
    (fun _ _ h => ⟨h.latches, h.channels, h.winds, h.load, h.proof, h.readiness, h.conditions⟩)
    (fun _ h => h.runTimers) (fun _ _ _ g => g.coherent) hs h

/-- A stopped timer stays stopped, and none stops by running. -/
theorem runTimer_eq_none {t : Option Nat} : runTimer t = none ↔ t = none := by
  cases t <;> simp [runTimer]

/-- Settles O57: lists grow only where there is room, and a command that adds to them lets the transmitter choose. -/
theorem stepsKeepTheCapacities : Obligations.StepsKeepTheCapacities := fun _ _ hs hserves h =>
  step_keeps (P := fun x => x.WithinCapacity ∧ x.TransmitterServes) (fun _ _ h => h)
    (fun _ ⟨h, g⟩ => ⟨h, fun hq => g (runTimer_eq_none.mp hq)⟩)
    (fun _ _ _ g ⟨⟨h1, h2, h3⟩, h⟩ => ⟨⟨g.replies h1, g.reports h2, g.history h3⟩, g.serves h⟩) ⟨hs, hserves⟩ h

/-- Settles O58: each change of a track keeps it within the authority in force. -/
theorem stepsKeepTheTracksBounded : Obligations.StepsKeepTheTracksBounded := fun _ _ hs h =>
  step_keeps (P := State.TracksBounded) (fun _ _ h => h) (fun _ h => h) (fun _ _ _ g => g.tracks) hs h

/-- Settles O59: an encoder fails together with the change of its drum's state, and a history is cut to nine entries. -/
theorem stepsKeepTheDrumsFitting : Obligations.StepsKeepTheDrumsFitting := fun _ _ hs h =>
  step_keeps (P := State.DrumsFit) (fun _ _ h => h) (fun _ h => h) (fun _ _ _ g => g.drums) hs h

/-- Settles O2: no meaning stops, and none touches the queue. -/
theorem everyCommandLeavesTheQueue : Obligations.EveryCommandLeavesTheQueue := fun c s =>
  let ⟨t, ht, hstepped⟩ := exec_stepped c s
  ⟨t, ht, hstepped.pending⟩

/-- Settles O3: the effect of each command names the only ones that move levels, time stamp, counts and table. -/
theorem onlyTheirEventsMovePinsClockCountsAndTable : Obligations.OnlyTheirEventsMovePinsClockCountsAndTable :=
  fun _ _ _ h =>
    have g := stepped_of_exec h
    ⟨g.pins, g.clock, g.counts, g.active⟩

/-- Settles O60: the effect of each command names the only ones that clear a latch, open a wind or make PROVEN. -/
theorem onlyItsOwnCommandGrants : Obligations.OnlyItsOwnCommandGrants := fun _ _ _ h =>
  have g := stepped_of_exec h
  ⟨g.latched, g.opens, g.number, g.proven⟩

end Sys2Proof.Machine
end


section
/-! The machine's own steps: the front command, the idle millisecond, discarded frames, and the state after reset. -/

namespace Sys2Proof.Machine

/-- Settles O1: a step is defined by the front of the queue. -/
theorem stepTakesFrontCommand : Obligations.StepTakesFrontCommand := by
  intro c rest s h
  unfold step
  rw [h]
  rfl

/-! ## Discarded frames (R161, R162, R163) -/

/-- A request frame that is not received only leaves the receiver hunting. -/
theorem State.request_of_not_receives {s : State} {code tag : Byte} {n : Nat} {body : List Byte}
    {owner : State → Owned} (h : s.receives = false) : s.request code tag n body owner = s.discardFrame := by
  simp [State.request, h]

theorem exec_requestOf_of_not_receives {s : State} (code tag : Byte) (body : List Byte) (h : s.receives = false) :
    exec (requestOf code tag body) s = .next s.discardFrame := by
  rcases requestOf_cases code tag body with ⟨n, hn⟩ | ⟨-, hcode⟩ | ⟨-, hcode⟩
  · obtain ⟨owner, hexec⟩ := exec_requestOf hn tag body s
    rw [hexec, State.request_of_not_receives h]
  · rw [hcode]
    show Host.Outcome.next (if s.receives then _ else _) = _
    rw [h]
    rfl
  · rw [hcode]
    show Host.Outcome.next (if s.receives then _ else _) = _
    rw [h]
    rfl

/-- Settles O4: no discarded frame and no gap reaches more than a receiver. -/
theorem discardedFramesLeaveNoTrace : Obligations.DiscardedFramesLeaveNoTrace := by
  refine ⟨fun why s => rfl, fun code tag body s h => ?_, fun next s hq => ?_, fun next s hq => ?_, fun next s => rfl,
    fun why s => rfl⟩
  · exact exec_requestOf_of_not_receives code tag body (receives_false h)
  · show Host.Outcome.next (if s.link.quiet.isSome then _ else _) = _
    rw [hq]
    rfl
  · show Host.Outcome.next (if s.link.quiet.isSome then _ else _) = _
    rw [Option.isSome_iff_ne_none.mpr hq]
    rfl

/-! ## The encoders' steps (R21) -/

theorem stepEncoder_of_failed {enc : Encoder} (h : enc.failed = true) (sense forward : Bool) :
    stepEncoder enc sense forward = enc := by
  simp [stepEncoder, h]

theorem stepEncoder_of_healthy {enc : Encoder} (h : enc.failed = false) (sense forward : Bool) :
    stepEncoder enc sense forward =
      ⟨enc.count + (if sense = forward then 1#32 else BitVec.ofInt 32 (-1)), false⟩ := by
  obtain ⟨count, failed⟩ := enc
  subst h
  unfold stepEncoder
  split
  next => contradiction
  next =>
    split
    next => rfl
    next => rw [BitVec.sub_eq_add_neg]; rfl

/-- With no table the sense is +1. -/
theorem State.senseOf_eq (s : State) (d : Side) (e : Twin) :
    s.senseOf d e = (s.table.active.map fun a => (a.eff.winder.sense.get d).get e).getD true := by
  unfold State.senseOf State.winder
  cases s.table.active with
  | none => cases d <;> cases e <;> rfl
  | some a => rfl

/-- Settles O34: a step goes to the count of its encoder alone. -/
theorem stepsCountByTheSense : Obligations.StepsCountByTheSense := by
  intro d e forward s
  refine ⟨fun h => ?_, fun h => ?_⟩
  · show Host.Outcome.next (s.countStep d e forward) = _
    unfold State.countStep
    dsimp only
    rw [stepEncoder_of_failed h, PerTwin.set_get, State.setDrum_self]
  · show Host.Outcome.next (s.countStep d e forward) = _
    unfold State.countStep
    dsimp only
    rw [stepEncoder_of_healthy h, State.senseOf_eq]
    rfl

/-! ## The idle millisecond (log entries 1 to 4) -/

theorem mem_dueAt {t : Timer} {c d : Instr} : c ∈ dueAt t d ↔ c = d ∧ t = some 1 := by
  unfold dueAt
  split
  next h => simp [h]
  next h => simp [h]

theorem State.mem_sampleDue {s : State} {c : Instr} : c ∈ s.sampleDue ↔ c = .drumSample ∧ s.clock.oddMs = true := by
  unfold State.sampleDue
  split
  next h => simp [h]
  next h => simp [h]

/-- A claim about some channel of the load unit is one about one of the four. -/
theorem exists_loadChannel {P : Side → Twin → Prop} :
    (∃ d r, P d r) ↔ P .one .a ∨ P .one .b ∨ P .two .a ∨ P .two .b :=
  ⟨fun ⟨d, r, h⟩ => by cases d <;> cases r <;> simp [h],
    fun h => h.elim (⟨_, _, ·⟩) fun h => h.elim (⟨_, _, ·⟩) fun h => h.elim (⟨_, _, ·⟩) (⟨_, _, ·⟩)⟩

/-- A claim about some output channel is one about one of the six. -/
theorem exists_outChannel {P : Stage → Chan → Prop} :
    (∃ k h, P k h) ↔ P .s1 .x ∨ P .s1 .y ∨ P .s2 .x ∨ P .s2 .y ∨ P .s3 .x ∨ P .s3 .y :=
  ⟨fun ⟨k, c, h⟩ => by cases k <;> cases c <;> simp [h],
    fun h => h.elim (⟨_, _, ·⟩) fun h => h.elim (⟨_, _, ·⟩) fun h => h.elim (⟨_, _, ·⟩) fun h =>
      h.elim (⟨_, _, ·⟩) fun h => h.elim (⟨_, _, ·⟩) (⟨_, _, ·⟩)⟩

theorem State.mem_expiriesDue {s : State} {c : Instr} : c ∈ s.expiriesDue ↔
    c = .quietPeriodExpiry ∧ s.link.quiet = some 1 ∨ c = .linkSilenceExpiry ∧ s.link.silence = some 1 ∨
    c = .clutchSettledChange ∧ s.inputs.clutchTimer = some 1 ∨
    c = .drum2HeldSettledChange ∧ s.inputs.heldTimer = some 1 ∨
    c = .resetPermissiveSettledChange ∧ s.inputs.permissiveTimer = some 1 ∨
    c = .frameTimerExpiry ∧ s.rope.frame = some 1 ∨
    (∃ d r, c = .holdTimerExpiry d r ∧ (s.loadChan d r).hold = some 1) ∨
    (∃ k h, c = .mismatchTimerExpiry k h ∧ (s.channel k h).mismatch = some 1) ∨
    c = .startTimerExpiry ∧ s.startTimer = some 1 ∨ c = .dwellTimerExpiry ∧ s.dwellTimer = some 1 ∨
    c = .echoTimerExpiry ∧ s.echoTimer = some 1 ∨ c = .testTimerExpiry ∧ s.testTimer = some 1 := by
  rw [exists_loadChannel, exists_outChannel]
  unfold State.expiriesDue State.holdTimer State.mismatchTimer
  simp only [List.mem_append, mem_dueAt]
  grind

theorem runTimer_eq_map (t : Timer) : runTimer t = t.map fun n => n - 1 := by cases t <;> rfl

theorem Readiness.run_eq (r : Readiness) : r.run =
    match r with
    | .proving (.tripPaths k h e x) => .proving (.tripPaths k h e (runTimer x))
    | .proving (.echo pattern made o x) => .proving (.echo pattern made o (runTimer x))
    | r => r := by
  cases r with
  | proving step => cases step <;> rfl
  | _ => rfl

/-- Settles O54: what falls due is what the timers say, and every block counts its milliseconds. -/
theorem idleStepIsOneMillisecond : Obligations.IdleStepIsOneMillisecond := by
  intro s hidle
  have hstep : step s = .next s.tick := by unfold step; rw [hidle]
  refine ⟨s.tick, hstep, rfl, fun c => ?_, ?_, rfl, rfl, rfl, rfl⟩
  · show c ∈ s.pending ++ (s.expiriesDue ++ s.sampleDue) ↔ _
    rw [hidle, List.nil_append, List.mem_append, or_comm, State.mem_sampleDue, State.mem_expiriesDue]
  · simp only [← runTimer_eq_map]
    refine ⟨rfl, rfl, rfl, fun d => ?_, fun d r => ?_, rfl, fun k h => ?_, rfl, rfl, rfl, ?_⟩
    · cases d <;> rfl
    · cases d <;> cases r <;> rfl
    · cases k <;> cases h <;> rfl
    · exact congrArg (ProofUnit.mk · _) s.proof.readiness.run_eq

/-! ## The state after reset (log entries 5 and 6) -/

/-- Settles O55: every latch is set, nothing waits and both drums are fresh. -/
theorem resetIsSound : Obligations.ResetIsSound := by
  refine ⟨rfl, ?_, ?_, ?_, ?_, ?_, ?_⟩
  · exact State.coherent_of_reset (fun k => by cases k <;> rfl) rfl rfl rfl rfl
  · exact ⟨by decide, by decide, by decide⟩
  · exact fun _ _ => ⟨rfl, rfl⟩
  · refine ⟨by decide, by decide, ?_, ?_⟩ <;> exact Track.bounded_atPowerOn (by decide) (by decide)
  · exact ⟨Drum.fits_of_fresh rfl rfl rfl rfl, Drum.fits_of_fresh rfl rfl rfl rfl⟩
  · exact State.furthestFits_of_none rfl

end Sys2Proof.Machine
end


section
/-! The arrival of a frame: one reply to each request, the screening before the owner, and the abandoned load. -/

namespace Sys2Proof.Machine

/-! ## What an owner answers -/

/-- A refusal other than INVALID carries no body (R166). -/
def Owned.Plain (o : Owned) : Prop := o.result ≠ .done → o.result ≠ .invalid → o.body = []

theorem plain_deny {s : State} {why : Result} : (s.deny why).Plain := fun _ _ => rfl

theorem plain_done {s : State} {body : List Byte} : (s.done body).Plain := fun h => absurd rfl h

theorem Owned.Plain.ite {p : Prop} [Decidable p] {o q : Owned} (ho : o.Plain) (hq : q.Plain) :
    Owned.Plain (if p then o else q) := by
  split
  next => exact ho
  next => exact hq

theorem plain_wind (s : State) (body : List Byte) : (s.ownWind body).Plain := by
  unfold State.ownWind
  split
  next =>
    split
    next => exact plain_deny
    next => exact plain_done
  next => exact plain_deny

theorem plain_redirect (s : State) (body : List Byte) : (s.ownRedirect body).Plain := by
  unfold State.ownRedirect State.redirectTo
  split
  next => exact plain_deny
  next =>
    refine .ite (plain_deny) ?_
    split
    next => exact plain_deny
    next =>
      exact .ite (plain_deny) (.ite (.ite (plain_deny) (plain_done)) (.ite (plain_deny) (plain_done)))

theorem plain_tripReset (s : State) (body : List Byte) : (s.ownTripReset body).Plain := by
  unfold State.ownTripReset
  split
  next =>
    split
    next => exact plain_deny
    next => exact .ite (plain_done) (plain_done)
  next => exact plain_deny

theorem plain_proof (s : State) : s.ownProof.Plain := by
  unfold State.ownProof
  split
  next => exact plain_deny
  next => exact plain_done

theorem plain_echoReturn (s : State) (body : List Byte) : (s.ownEchoReturn body).Plain := by
  unfold State.ownEchoReturn
  split
  next => exact plain_done
  next => exact plain_deny

theorem plain_tableOpen (s : State) (body : List Byte) : (s.ownTableOpen body).Plain := by
  unfold State.ownTableOpen
  split
  next => exact plain_deny
  next => exact plain_done

theorem plain_arriveRecord (s : State) (body : List Byte) : (s.arriveRecord body).Plain := by
  unfold State.arriveRecord State.ownTableRecord
  refine .ite (plain_deny) (.ite (plain_deny) ?_)
  split
  next => exact plain_deny
  next =>
    dsimp only
    split
    next => exact plain_deny
    next => exact plain_done

theorem plain_tableClose (s : State) : s.ownTableClose.Plain := by
  unfold State.ownTableClose
  split
  next => exact plain_deny
  next =>
    refine .ite (plain_deny) ?_
    split
    next => exact fun _ h => absurd rfl h
    next => exact plain_done

theorem plain_readTable (s : State) (body : List Byte) : (s.ownReadTable body).Plain := by
  unfold State.ownReadTable
  split
  next => exact plain_deny
  next =>
    split
    next => exact plain_done
    next => exact plain_deny

theorem plain_readHistory (s : State) (body : List Byte) : (s.ownReadHistory body).Plain := by
  unfold State.ownReadHistory
  split
  next => exact plain_done
  next => exact plain_deny

/-- What an owner may do to the port of the state it is handed, and how it may answer. -/
def Owned.Fair (x : State) (o : Owned) : Prop := LinkFlow x.link o.state.link ∧ o.Plain

/-- A request of a fixed length is handed to an owner that answers fairly. -/
theorem exec_requestOf_fair {code : Byte} {n : Nat} (h : fixedLength code.toNat = some n) (tag : Byte)
    (body : List Byte) (s : State) : ∃ owner : State → Owned,
      exec (requestOf code tag body) s = .next (s.request code tag n body owner) ∧
      ∀ x : State, (keepsLoad code.toNat = false → x.link.load = none) → (owner x).Fair x := by
  have lit (k : Nat) (hk : k < 256) (e : code.toNat = k) : code = BitVec.ofNat 8 k := by
    apply BitVec.eq_of_toNat_eq
    rw [e, BitVec.toNat_ofNat, Nat.mod_eq_of_lt hk]
  unfold fixedLength at h
  split at h <;> rename_i e <;> cases h <;> cases lit _ (by decide) e
  case h_1 => exact ⟨_, rfl, fun x _ => ⟨⟨rfl, rfl, rfl, rfl, rfl, rfl, rfl, id⟩, plain_done⟩⟩
  case h_2 => exact ⟨_, rfl, fun x hx => ⟨(owning_wind tag body (hx rfl)).link, plain_wind _ _⟩⟩
  case h_3 => exact ⟨_, rfl, fun x _ => ⟨(owning_redirect x (.redirect tag body) body).link, plain_redirect _ _⟩⟩
  case h_4 =>
    refine ⟨_, rfl, fun x _ => ?_⟩
    unfold State.ownAbort
    split
    next => exact ⟨(work_abortWind x).link, plain_done⟩
    next => exact ⟨.rfl, plain_deny⟩
  case h_5 => exact ⟨_, rfl, fun x _ => ⟨(owning_tripReset x tag body).link, plain_tripReset _ _⟩⟩
  case h_6 => exact ⟨_, rfl, fun x hx => ⟨(owning_proof (.proof tag body) (hx rfl)).link, plain_proof _⟩⟩
  case h_7 => exact ⟨_, rfl, fun x _ => ⟨(owning_echoReturn x (.echoReturn tag body) body).link, plain_echoReturn _ _⟩⟩
  case h_8 => exact ⟨_, rfl, fun x _ => ⟨(owning_tableOpen x (.tableOpen tag body) body).link, plain_tableOpen _ _⟩⟩
  case h_9 => exact ⟨_, rfl, fun x _ => ⟨(owning_tableClose x tag body).link, plain_tableClose _⟩⟩
  case h_10 =>
    refine ⟨_, rfl, fun x _ => ⟨?_, plain_readTable _ _⟩⟩
    unfold State.ownReadTable
    split
    next => exact .rfl
    next => split <;> exact .rfl
  case h_11 => exact ⟨_, rfl, fun x _ => ⟨.rfl, plain_done⟩⟩
  case h_12 =>
    exact ⟨_, rfl, fun x _ => ⟨(owning_clearFaults x (.clearFaults tag body)).link, .ite (plain_deny) (plain_done)⟩⟩
  case h_13 =>
    refine ⟨_, rfl, fun x _ => ⟨?_, plain_readHistory _ _⟩⟩
    unfold State.ownReadHistory
    split <;> exact .rfl
  case h_14 =>
    exact ⟨_, rfl, fun x _ => ⟨(owning_restart x (.restart tag body)).link,
      .ite (plain_deny) (.ite (plain_deny) (plain_done))⟩⟩

/-! ## One reply to each request (R163, R167) -/

/-- What the arrival of any frame makes of the port, a load and the reports apart. -/
theorem State.frameArrives_port (s : State) (n : Nat) :
    (s.frameArrives n).link.rx = .hunting ∧ (s.frameArrives n).link.silence = some Config.silenceMs ∧
      (s.frameArrives n).link.status = .live ∧ (s.frameArrives n).link.quiet = s.link.quiet ∧
      (s.frameArrives n).link.resetKind = s.link.resetKind ∧ (s.frameArrives n).link.replies = s.link.replies ∧
      (s.frameArrives n).link.tx = s.link.tx ∧ (s.frameArrives n).link.restartDue = s.link.restartDue := by
  cases hk : keepsLoad n with
  | true => rw [State.frameArrives_kept s n hk]; exact ⟨rfl, rfl, rfl, rfl, rfl, rfl, rfl, rfl⟩
  | false => simp [State.frameArrives_link s n hk]

theorem Owned.answered_of_flow {s : State} {n : Nat} {o : Owned} (code tag : Byte)
    (h : LinkFlow (s.frameArrives n).link o.state.link) :
    s.Answered (o.finish code tag) ⟨code, tag, o.result, o.body⟩ := by
  obtain ⟨hrx, hsilence, hstatus, hquiet, hkind, hreplies, htx, -⟩ := s.frameArrives_port n
  refine ⟨?_, ?_⟩
  · unfold State.repliesOut
    rw [Owned.finish_link, (LinkPort.serve_out _).1]
    simp [h.tx, h.replies, htx, hreplies]
  · simp [h.rx, h.silence, h.status, h.quiet, h.resetKind, hrx, hsilence, hstatus, hquiet, hkind]

theorem State.frameArrives_load (s : State) {n : Nat} (h : keepsLoad n = false) : (s.frameArrives n).link.load = none := by
  rw [State.frameArrives_link s n h]
  simp

/-- Settles O5: every owner answers the request it is handed, over a port that only reports have joined. -/
theorem everyDispatchedRequestGetsOneReply : Obligations.EveryDispatchedRequestGetsOneReply := by
  intro code tag body s hs
  have hreceives := receives_of_listening hs
  rcases requestOf_cases code tag body with ⟨n, hn⟩ | ⟨rfl, hcode⟩ | ⟨-, hcode⟩
  · obtain ⟨owner, hexec, howner⟩ := exec_requestOf_fair hn tag body s
    have hfair : ∃ o : Owned, s.request code tag n body owner = o.finish code tag ∧
        o.Fair (s.frameArrives code.toNat) := by
      unfold State.request
      rw [hreceives]
      dsimp only [Bool.not_true, Bool.false_eq_true, if_false]
      refine ⟨_, rfl, ?_⟩
      split
      next => exact ⟨.rfl, plain_deny⟩
      next =>
        split
        next => exact ⟨.rfl, plain_deny⟩
        next => exact howner _ s.frameArrives_load
    obtain ⟨o, ho, hflow, hplain⟩ := hfair
    exact ⟨o.result, o.body, ⟨_, hexec, ho ▸ Owned.answered_of_flow code tag hflow⟩, hplain⟩
  · have hexec : exec (requestOf 9 tag body) s = .next (((s.frameArrives 9).arriveRecord body).finish 9 tag) := by
      rw [hcode]
      exact congrArg _ (if_pos hreceives)
    exact ⟨_, _, ⟨_, hexec, Owned.answered_of_flow 9 tag (owning_arriveRecord _ (.tableRecord tag body) body).link⟩,
      plain_arriveRecord _ _⟩
  · have hexec : exec (requestOf code tag body) s =
        .next (((s.frameArrives code.toNat).deny .unknown).finish code tag) := by
      rw [hcode]
      exact congrArg _ (if_pos hreceives)
    exact ⟨_, _, ⟨_, hexec, Owned.answered_of_flow code tag .rfl⟩, plain_deny⟩

/-! ## What a frame meets before its owner (R160, R164, R166) -/

theorem keepsLoad_eq_false {n : Nat} (h : n ∉ [0x01, 0x09, 0x0A]) : keepsLoad n = false := by
  simpa [keepsLoad] using h

theorem keepsLoad_of_unknown {code : Byte} (h : isRequestCode code = false) : keepsLoad code.toNat = false := by
  refine keepsLoad_eq_false fun hmem => ?_
  have hout : ¬(1 ≤ code.toNat ∧ code.toNat ≤ 15) := of_decide_eq_false h
  simp only [List.mem_cons, List.not_mem_nil, or_false] at hmem
  omega

/-- A body of another length reaches no owner. -/
theorem State.request_length {s : State} {code tag : Byte} {n : Nat} {body : List Byte} {owner : State → Owned}
    (hs : s.listening) (hn : body.length ≠ n) :
    s.request code tag n body owner = ((s.frameArrives code.toNat).deny .length).finish code tag := by
  simp [State.request, receives_of_listening hs, hn]

/-- With a restart due a request of the right length reaches no owner. -/
theorem State.request_busy {s : State} {code tag : Byte} {body : List Byte} {owner : State → Owned}
    (hs : s.listening) (hdue : s.link.restartDue = true) :
    s.request code tag body.length body owner = ((s.frameArrives code.toNat).deny .busy).finish code tag := by
  obtain ⟨-, -, -, -, -, -, -, harrived⟩ := s.frameArrives_port code.toNat
  simp [State.request, receives_of_listening hs, harrived, hdue]

/-- A frame refused before its owner, by whether its code keeps an open load. -/
theorem State.answers_of_denied {c : Instr} {s : State} {code tag : Byte} {why : Result}
    (h : exec c s = .next (((s.frameArrives code.toNat).deny why).finish code tag)) :
    (keepsLoad code.toNat = false → Answers c s fun t => s.OnlyReplied t ⟨code, tag, why, []⟩) ∧
      (keepsLoad code.toNat = true → Answers c s fun t => s.RepliedWithLoad t ⟨code, tag, why, []⟩) :=
  ⟨fun hk => ⟨_, h, Owned.onlyReplied hk rfl⟩, fun hk => ⟨_, h, Owned.repliedWithLoad hk rfl⟩⟩

/-- Settles O6: the refusals of R164 come before any owner, each over the arrival alone. -/
theorem requestsAreScreenedBeforeTheirOwner : Obligations.RequestsAreScreenedBeforeTheirOwner := by
  refine ⟨fun code tag body s hs hcode => ⟨?_, rfl⟩, fun code tag body n s hs hn hne => ?_,
    fun code tag body s hs hdue hlen => ?_⟩
  · have hexec : exec (.unknownRequest code tag body) s =
        .next (((s.frameArrives code.toNat).deny .unknown).finish code tag) := congrArg _ (if_pos (receives_of_listening hs))
    exact (State.answers_of_denied hexec).1 (keepsLoad_of_unknown hcode)
  · obtain ⟨owner, hexec⟩ := exec_requestOf hn tag body s
    rw [State.request_length hs hne] at hexec
    obtain ⟨hdropped, hkept⟩ := State.answers_of_denied hexec
    refine ⟨fun hmem => hdropped (keepsLoad_eq_false fun hnine => ?_), fun hmem => hkept ?_⟩
    · have hnot : code.toNat ≠ 0x09 := fun heq => by rw [heq] at hn; cases hn
      simp only [List.mem_cons, List.not_mem_nil, or_false] at hmem hnine
      omega
    · simp only [List.mem_cons, List.not_mem_nil, or_false] at hmem
      simp only [keepsLoad, decide_eq_true_eq]
      omega
  · have hexec : exec (requestOf code tag body) s =
        .next (((s.frameArrives code.toNat).deny .busy).finish code tag) := by
      rcases hlen with hn | ⟨hnine, htwo⟩
      · obtain ⟨owner, hexec⟩ := exec_requestOf hn tag body s
        rw [hexec, State.request_busy hs hdue]
      · obtain rfl : code = 9 := BitVec.eq_of_toNat_eq hnine
        obtain ⟨-, -, -, -, -, -, -, harrived⟩ := s.frameArrives_port 9
        have harrive : (s.frameArrives 9).arriveRecord body = (s.frameArrives 9).deny .busy := by
          unfold State.arriveRecord
          rw [if_neg (by omega), harrived, hdue]
          rfl
        show Host.Outcome.next (if s.receives then _ else _) = _
        rw [receives_of_listening hs, if_pos rfl]
        exact congrArg (fun o => Host.Outcome.next (Owned.finish o 9 tag)) harrive
    obtain ⟨hdropped, hkept⟩ := State.answers_of_denied hexec
    refine ⟨fun hmem => hdropped (keepsLoad_eq_false hmem), fun hmem => hkept ?_⟩
    simpa [keepsLoad] using hmem

/-! ## The abandoned load (R12) -/

/-- A request of a fixed length but POLL is handed to one owner, whatever the state. -/
theorem exec_requestOf_owner {code : Byte} {n : Nat} (h : fixedLength code.toNat = some n) (hpoll : code.toNat ≠ 0x01)
    (tag : Byte) (body : List Byte) : ∃ owner : State → Owned,
      ∀ s, exec (requestOf code tag body) s = .next (s.request code tag n body owner) := by
  have lit (k : Nat) (hk : k < 256) (e : code.toNat = k) : code = BitVec.ofNat 8 k := by
    apply BitVec.eq_of_toNat_eq
    rw [e, BitVec.toNat_ofNat, Nat.mod_eq_of_lt hk]
  unfold fixedLength at h
  split at h <;> rename_i e <;> cases h <;> cases lit _ (by decide) e
  case h_1 => exact absurd rfl hpoll
  all_goals exact ⟨_, fun _ => rfl⟩

theorem State.abandonLoad_of_some {s : State} {l : TableLoad} (h : s.link.load = some l) :
    s.abandonLoad = s.closeLoad.report (.table .abandoned s.table.staged.length l.declared l.check) := by
  unfold State.abandonLoad
  rw [h]

/-- What a valid frame makes of the port looks at no report. -/
theorem State.report_frameValid (s : State) (b : ReportBody) : (s.report b).frameValid = s.frameValid.report b := by
  by_cases h : s.link.reports.length < Config.maxReports
  · have hvalid : s.frameValid.link.reports.length < Config.maxReports := h
    rw [State.report, State.report, if_pos h, if_pos hvalid]
    rfl
  · have hvalid : ¬s.frameValid.link.reports.length < Config.maxReports := h
    rw [State.report, State.report, if_neg h, if_neg hvalid]
    rfl

/-- Such a request finds the state as though its load had been abandoned before. -/
theorem State.abandonLoad_frameArrives {s : State} {l : TableLoad} {n : Nat} (hl : s.link.load = some l)
    (hk : keepsLoad n = false) : s.abandonLoad.frameArrives n = s.frameArrives n := by
  have hnone : s.abandonLoad.frameValid.link.load = none := by
    rw [State.abandonLoad_of_some hl, State.report_eq, State.frameValid, State.setLink_link, LinkPort.push_eq]
    rfl
  have hleft : s.abandonLoad.frameArrives n = s.abandonLoad.frameValid := by
    rw [State.frameArrives, hk, if_neg Bool.false_ne_true]
    unfold State.abandonLoad at hnone ⊢
    split at hnone <;> simp_all
  have hright : s.frameArrives n =
      s.frameValid.closeLoad.report (.table .abandoned s.table.staged.length l.declared l.check) := by
    rw [State.frameArrives, hk, if_neg Bool.false_ne_true]
    exact State.abandonLoad_of_some hl
  rw [hleft, hright, State.abandonLoad_of_some hl, State.report_frameValid]
  rfl

theorem State.abandonLoad_receives (s : State) : s.abandonLoad.receives = s.receives := by
  obtain ⟨l, staged, hmet, hflow, -⟩ := s.abandonLoad_met
  rw [hmet]
  unfold State.receives
  rw [← hflow.quiet, ← hflow.replies]
  rfl

/-- Settles O7: the arrival abandons the load first, and nothing else of the request has seen it. -/
theorem otherRequestsAbandonTheLoad : Obligations.OtherRequestsAbandonTheLoad := by
  intro code tag body s l hs hl hcode
  have hk := keepsLoad_eq_false hcode
  have harrives := State.abandonLoad_frameArrives hl hk
  have hreceives := s.abandonLoad_receives
  have habandoned : exec (requestOf code tag body) s = exec (requestOf code tag body) s.abandonLoad := by
    simp only [List.mem_cons, List.not_mem_nil, or_false, not_or] at hcode
    obtain ⟨hpoll, hrecord, -⟩ := hcode
    rcases requestOf_cases code tag body with ⟨n, hn⟩ | ⟨rfl, -⟩ | ⟨-, hunknown⟩
    · obtain ⟨owner, hexec⟩ := exec_requestOf_owner hn hpoll tag body
      rw [hexec, hexec]
      simp only [State.request, harrives, hreceives, receives_of_listening hs, Bool.not_true, Bool.false_eq_true,
        if_false]
    · exact absurd rfl hrecord
    · rw [hunknown]
      show Host.Outcome.next (if s.receives then _ else _) = .next (if s.abandonLoad.receives then _ else _)
      rw [hreceives, harrives, receives_of_listening hs]
      rfl
  rw [habandoned, State.abandonLoad_of_some hl]
  rfl

end Sys2Proof.Machine
end


section
/-! The link port's own events and requests: the transmitter (R168), the quiet period (R161), POLL (R169, R174), RESTART
(R160), and READ-HISTORY (R128). -/

namespace Sys2Proof.Machine

/-! ## The end of a frame (R157, R168) -/

/-- The port after the choice of an idle transmitter. -/
theorem LinkPort.serve_of_idle {p : LinkPort} (ht : p.tx = none) (hq : p.quiet = none) : p.serve = { p with
    tx := match p.replies, p.reports with
      | r :: _, _ => some (.reply r)
      | [], r :: _ => some (.report r)
      | [], [] => none
    replies := p.replies.tail
    reports := if p.replies = [] then p.reports.tail else p.reports } := by
  obtain ⟨rx, load, silence, status, quiet, kind, due, replies, reports, lost, tx⟩ := p
  dsimp only at ht hq
  subst ht hq
  cases replies with
  | cons r rest => rfl
  | nil => cases reports <;> rfl

/-- The proof unit at the end of a frame: an awaited probe becomes outstanding (R157, log entry 31). -/
def State.proofAtEnd (s : State) (f : Frame) : ProofUnit :=
  match f, s.proof.readiness with
  | .report ⟨.echoProbe pattern, stamp⟩, .proving (.echo awaited made outstanding timer) =>
    if pattern = awaited ∧ stamp = made then
      { s.proof with readiness := .proving (.echo awaited made true (some 1000)) }
    else { s.proof with readiness := .proving (.echo awaited made outstanding timer) }
  | _, _ => s.proof

theorem State.probeSent_eq (s : State) (pattern : Half) (stamp : Word) :
    s.probeSent pattern stamp = s.setProof (s.proofAtEnd (.report ⟨.echoProbe pattern, stamp⟩)) := by
  unfold State.probeSent State.proofAtEnd
  cases hr : s.proof.readiness with
  | proving step =>
    cases step with
    | echo awaited made outstanding timer =>
      dsimp only
      by_cases h : pattern = awaited ∧ stamp = made
      · obtain ⟨rfl, rfl⟩ := h
        rw [if_pos ⟨rfl, rfl⟩, if_pos ⟨rfl, rfl⟩]
        rfl
      · rw [if_neg h, if_neg fun hswap => h ⟨hswap.1.symm, hswap.2.symm⟩, ← hr]
        rfl
    | _ => rfl
  | _ => rfl

/-- The end of a frame that does not begin a restart hands the proof unit alone what it awaits. -/
theorem State.handFrameEnd_eq {s : State} {f : Frame}
    (h : ∀ r, f = .reply r → r.code = 0x0F → r.result = .done → s.link.restartDue = false) :
    s.handFrameEnd f = s.setProof (s.proofAtEnd f) := by
  cases f with
  | reply r =>
    have hnot : (r.isRestartDone && s.link.restartDue) = false := by
      unfold Reply.isRestartDone
      by_cases hdone : r.code = 0x0F ∧ r.result = .done
      · rw [h r rfl hdone.1 hdone.2, Bool.and_false]
      · rw [decide_eq_false hdone, Bool.false_and]
    show (if r.isRestartDone && s.link.restartDue then _ else s) = _
    rw [hnot]
    rfl
  | report r =>
    obtain ⟨body, stamp⟩ := r
    cases body with
    | echoProbe pattern => exact s.probeSent_eq pattern stamp
    | _ => rfl

/-- Settles O8: the frame is handed on, then an idle transmitter chooses. -/
theorem frameEndsChooseTheNextFrame : Obligations.FrameEndsChooseTheNextFrame := by
  refine ⟨fun s hidle => ?_, fun s f hf hq hdone => ?_⟩
  · show Host.Outcome.next s.endFrame = _
    unfold State.endFrame
    rw [hidle]
  · have hhanded := State.handFrameEnd_eq (s := s.setLink { s.link with tx := none }) (f := f) hdone
    have hend : s.endFrame = ((s.setLink { s.link with tx := none }).setProof (s.proofAtEnd f)).transmit := by
      unfold State.endFrame
      rw [hf]
      exact congrArg State.transmit hhanded
    refine ⟨_, congrArg Host.Outcome.next hend, ?_, ?_, ?_⟩
    · rw [State.transmit_link]
      exact LinkPort.serve_of_idle (p := { s.link with tx := none }) rfl hq
    · rw [State.transmit_proof]
      rfl
    · rw [State.transmit_eq]
      rfl

/-! ## The end of the quiet period (R161) -/

/-- Settles O9: the report goes to the head, and what the transmitter then takes is still on its way. -/
theorem quietPeriodEndsWithRestarted : Obligations.QuietPeriodEndsWithRestarted := by
  refine ⟨fun s hq => ?_, fun s hq hidle => ?_⟩
  · exact congrArg _ (if_neg fun hended => hq (of_decide_eq_true hended))
  · refine ⟨_, congrArg Host.Outcome.next (if_pos (decide_eq_true hq)), ?_, ?_, ?_, ?_⟩
    · unfold State.endQuiet
      rw [State.transmit_reportsOut]
      show Frame.reports s.link.tx ++ _ = _
      rw [hidle]
      rfl
    · unfold State.endQuiet
      rw [State.transmit_repliesOut]
      show Frame.replies s.link.tx ++ _ = _
      rw [hidle]
      rfl
    · unfold State.endQuiet
      rw [State.transmit_link, LinkPort.serve_eq]
      rfl
    · unfold State.endQuiet
      rw [State.transmit_eq]
      rfl

/-! ## POLL (R12, R169, R174) -/

/-- Eight flags packed in a byte are read back as its bits. -/
theorem byteOf_flags (b0 b1 b2 b3 b4 b5 b6 b7 : Bool) :
    [0, 1, 2, 3, 4, 5, 6, 7].map (byteOf (b0.toNat + 2 * b1.toNat + 4 * b2.toNat + 8 * b3.toNat + 16 * b4.toNat +
      32 * b5.toNat + 64 * b6.toNat + 128 * b7.toNat)).getLsbD = [b0, b1, b2, b3, b4, b5, b6, b7] := by
  revert b0 b1 b2 b3 b4 b5 b6 b7
  decide

theorem readyCode_lt (r : ReadyCode) : (byteOf r.code).toNat = r.code := by cases r <;> rfl

theorem byteOf_phaseCode (p : Option Phase) : (byteOf (phaseCode p)).toNat = phaseCode p := by
  rcases p with - | p
  · rfl
  · cases p <;> rfl

theorem State.pollFlags_bits (s : State) (wasSilent : Bool) :
    [0, 1, 2, 3, 4, 5, 6, 7].map (s.pollFlags wasSilent).getLsbD = [s.latched .s1, s.latched .s2, s.latched .s3,
      s.wind.recovery.isSome, s.inputs.clutch, wasSilent, s.link.lost, s.hasTable] :=
  byteOf_flags ..

/-- Settles O11: the reply is gathered from the state before the flag is cleared. -/
theorem pollGathersAndClearsTheLostFlag : Obligations.PollGathersAndClearsTheLostFlag := by
  intro tag s ⟨hlistening, hdue⟩
  have harrived := s.frameArrives_kept 0x01 rfl
  have hbits := s.pollFlags_bits (decide (s.link.status = .silent))
  simp only [List.map_cons, List.map_nil, List.cons.injEq, and_true] at hbits
  obtain ⟨h0, h1, h2, h3, h4, h5, h6, h7⟩ := hbits
  refine ⟨?_, rfl, readyCode_lt _, byteOf_phaseCode _, rfl, ?_, ?_⟩
  · have howned : s.request 0x01 tag 0 [] (fun x => x.ownPoll (decide (s.link.status = .silent))) =
        ((s.frameArrives 0x01).ownPoll (decide (s.link.status = .silent))).finish 0x01 tag := by
      simp [State.request, receives_of_listening hlistening, harrived, hdue]
    refine ⟨_, congrArg Host.Outcome.next howned, ?_, ?_, ?_, ?_, ?_, ?_⟩
    · have hflow : LinkFlow (s.frameArrives 0x01).link
          ((s.frameArrives 0x01).ownPoll (decide (s.link.status = .silent))).state.link :=
        ⟨rfl, rfl, rfl, rfl, rfl, rfl, rfl, id⟩
      have h := Owned.answered_of_flow 0x01 tag hflow
      rw [harrived] at h ⊢
      exact h
    · unfold State.reportsOut
      rw [Owned.finish_link, (LinkPort.serve_out _).2, harrived]
      rfl
    · rw [Owned.finish_link, LinkPort.serve_lost]
      rfl
    · rw [Owned.finish_link, LinkPort.serve_load, harrived]
      rfl
    · rw [Owned.finish_link, LinkPort.serve_restartDue, harrived]
      exact hdue
    · rw [Owned.finish_eq, harrived]
      rfl
  · exact congr (congrArg _ h0) (congr (congrArg _ h1) (congr (congrArg _ h2) rfl))
  · exact congr (congrArg _ h3) (congr (congrArg _ h4) (congr (congrArg _ h5) (congr (congrArg _ h6) (congr (congrArg _ h7) rfl))))

/-! ## RESTART (R160) -/

theorem exec_restart (tag : Byte) (s : State) :
    exec (.restart tag []) s = .next (s.request 0x0F tag 0 [] State.ownRestart) := rfl

/-- The transmitter's choice looks at no restart that is due. -/
theorem LinkPort.serve_setRestartDue (p : LinkPort) (b : Bool) :
    LinkPort.serve { p with restartDue := b } = { p.serve with restartDue := b } := by
  cases p
  dsimp only [LinkPort.serve]
  split <;> rfl

/-- Whether a request has been served does not turn on the restart that is due after it. -/
theorem State.Served.of_setRestartDue {s t u : State} {r : Reply} {bodies : List ReportBody} {b : Bool}
    (hu : s.Served u r bodies) (ht : t.link = { u.link with restartDue := b }) : s.Served t r bodies := by
  unfold State.Served State.Answered State.Reported State.repliesOut State.reportsOut at *
  rw [ht]
  exact hu

theorem State.ownRestart_of_passed {s : State} (hmoving : s.bothStationary = true) (hopen : s.windOpen = false) :
    s.ownRestart = (s.setLink { s.link with restartDue := true }).done [] := by
  simp [State.ownRestart, hmoving, hopen]

/-- Settles O12: two checks of what no arrival touches; passed, the restart is due when its reply has ended. -/
theorem restartIsJudgedAndAwaited : Obligations.RestartIsJudgedAndAwaited := by
  intro tag s hs
  have howner (p : LinkPort) (why : Result)
      (h : firstRefusal [(!s.bothStationary, .moving), (s.windOpen, .busy)] = some why) :
      (s.arrived p).ownRestart = (s.arrived p).deny why := by
    show (if !s.bothStationary then _ else if s.windOpen then _ else _) = _
    revert h
    cases s.bothStationary <;> cases s.windOpen <;> intro h <;> cases h <;> rfl
  refine ⟨fun why hwhy => ?_, fun hpassed => ?_⟩
  · exact State.request_denied (exec_restart tag s) hs rfl rfl fun p => howner p why hwhy
  · simp only [firstRefusal_eq_none, List.forall_mem_cons, List.not_mem_nil, false_implies, implies_true, and_true,
      Bool.not_eq_false'] at hpassed
    obtain ⟨hmoving, hopen⟩ := hpassed
    obtain ⟨p, hp⟩ := s.frameArrives_eq_arrived (n := 0x0F) rfl
    obtain ⟨hserved, ⟨hload, -⟩, -⟩ := Owned.onlyReplied (s := s) (o := (s.frameArrives 0x0F).done [])
      (code := 0x0F) (tag := tag) rfl rfl
    rw [hp] at hserved hload
    have hlink :
        ((((s.arrived p).setLink { (s.arrived p).link with restartDue := true }).done []).finish 0x0F tag).link =
        { (((s.arrived p).done []).finish 0x0F tag).link with restartDue := true } := by
      rw [Owned.finish_link, Owned.finish_link, ← LinkPort.serve_setRestartDue]
      rfl
    refine State.request_answers (exec_restart tag s) hs rfl rfl
      (hp ▸ State.ownRestart_of_passed (s := s.arrived p) hmoving hopen)
      ⟨hserved.of_setRestartDue hlink, (congrArg LinkPort.load hlink).trans hload,
        congrArg LinkPort.restartDue hlink, ?_⟩
    rw [Owned.finish_eq]
    rfl

/-! ## READ-HISTORY (R128, R170) -/

theorem exec_readHistory (tag : Byte) (body : List Byte) (s : State) :
    exec (.readHistory tag body) s = .next (s.request 0x0E tag 1 body fun x => x.ownReadHistory body) := rfl

/-- Settles O14: the ring is read as it stands, newest first. -/
theorem readHistoryReturnsTheRecordOfAnAge : Obligations.ReadHistoryReturnsTheRecordOfAnAge := by
  intro tag age s hs
  have hring : (s.frameArrives 0x0E).wind.history = s.wind.history := by rw [State.frameArrives_eq s _ rfl]
  have howned : (s.frameArrives 0x0E).ownReadHistory [age] = match s.wind.history[age.toNat]? with
      | some r => (s.frameArrives 0x0E).done r.bytes
      | none => (s.frameArrives 0x0E).deny .empty := by
    unfold State.ownReadHistory
    rw [hring]
    rfl
  refine ⟨fun r hr => ⟨rfl, ?_⟩, fun hbeyond => ?_⟩
  · rw [hr] at howned
    exact State.request_onlyReplied (exec_readHistory tag [age] s) hs rfl rfl howned
  · rw [List.getElem?_eq_none hbeyond] at howned
    exact State.request_onlyReplied (exec_readHistory tag [age] s) hs rfl rfl howned

end Sys2Proof.Machine
end


section
/-! The trip unit at work: comparisons of channels (R131, R132), a raise taken whole (R134), the mismatch of a channel, and
the channel tests of proof step 5 (R156). -/

namespace Sys2Proof.Machine

/-! ## Comparisons outside step 5 (R132) -/

/-- A channel after its comparison with a readback (R132). -/
def OutChannel.compared (x : OutChannel) (readback : Bool) : OutChannel :=
  { x with mismatch := if x.commanded = readback then none else x.mismatch.or (some 20) }

/-- The active set after the comparison of a channel (R136). -/
def State.activeCompared (s : State) (k : Stage) (c : Chan) : List Cause :=
  if (s.channel k c).commanded = s.readback k c then s.trip.active.filter fun x => !decide (x = .tripPath k c)
  else s.trip.active

theorem State.compareChannel_eq {s : State} (htest : s.inTripTest = false) (k : Stage) (c : Chan) :
    s.compareChannel k c =
      (s.setChannel k c ((s.channel k c).compared (s.readback k c))).setTrip
        { (s.setChannel k c ((s.channel k c).compared (s.readback k c))).trip with active := s.activeCompared k c } := by
  unfold State.compareChannel State.activeCompared OutChannel.compared
  rw [if_neg (ne_true_of_eq_false htest)]
  by_cases hagree : (s.channel k c).commanded = s.readback k c
  · rw [if_pos hagree, if_pos hagree, if_pos hagree]
    rfl
  · rw [if_neg hagree, if_neg hagree, if_neg hagree]
    cases hm : (s.channel k c).mismatch with
    | none => rfl
    | some n =>
      have hself : s.setChannel k c { s.channel k c with mismatch := some n } = s := by
        rw [← hm]
        exact s.setChannel_channel k c
      rw [if_neg (by simp), Option.some_or, hself]
      rfl

/-- Some channels have been commanded and compared: each holds what `g` says of it, a TRIP PATH of one that agrees has left
the active set, and nothing else has changed. -/
structure Compared (s t : State) (l : List (Stage × Chan)) (g : Stage → Chan → OutChannel) : Prop where
  channel : ∀ j h, t.channel j h = if (j, h) ∈ l then g j h else s.channel j h
  active : ∀ x, x ∈ t.trip.active ↔ x ∈ s.trip.active ∧
    ∀ j h, (j, h) ∈ l → (g j h).commanded = s.readback j h → x ≠ .tripPath j h
  rest : t = { s with trip := { s.trip with chan := t.trip.chan, active := t.trip.active } }

section
variable {s t u : State} {l m : List (Stage × Chan)} {g : Stage → Chan → OutChannel}

theorem Compared.readback (h : Compared s t l g) : t.readback = s.readback := by
  rw [h.rest]; rfl

theorem Compared.latched (h : Compared s t l g) : t.latched = s.latched := by
  rw [h.rest]; rfl

theorem Compared.inTripTest (h : Compared s t l g) : t.inTripTest = s.inTripTest := by
  rw [h.rest]; rfl

theorem Compared.trans (h : Compared s t l g) (h' : Compared t u m g) : Compared s u (l ++ m) g := by
  refine ⟨fun j c => ?_, fun x => ?_, ?_⟩
  · rw [h'.channel, h.channel]
    by_cases hm : (j, c) ∈ m
    · rw [if_pos hm, if_pos (List.mem_append_right l hm)]
    · by_cases hl : (j, c) ∈ l
      · rw [if_neg hm, if_pos hl, if_pos (List.mem_append_left m hl)]
      · rw [if_neg hm, if_neg hl, if_neg fun hmem => (List.mem_append.mp hmem).elim hl hm]
  · rw [h'.active, h.active, h.readback]
    constructor
    · rintro ⟨⟨hx, hl⟩, hm⟩
      exact ⟨hx, fun j c hmem => (List.mem_append.mp hmem).elim (hl j c) (hm j c)⟩
    · rintro ⟨hx, hall⟩
      exact ⟨⟨hx, fun j c hmem => hall j c (List.mem_append_left m hmem)⟩,
        fun j c hmem => hall j c (List.mem_append_right l hmem)⟩
  · calc u = { t with trip := { t.trip with chan := u.trip.chan, active := u.trip.active } } := h'.rest
      _ = { s with trip := { s.trip with chan := u.trip.chan, active := u.trip.active } } := by rw [h.rest]

/-- One channel set and compared. -/
theorem compared_setChannel (htest : s.inTripTest = false) (k : Stage) (c : Chan) (x : OutChannel)
    (hg : g k c = x.compared (s.readback k c)) : Compared s ((s.setChannel k c x).compareChannel k c) [(k, c)] g := by
  have hset : (s.setChannel k c x).inTripTest = false := htest
  have hself : (s.setChannel k c x).channel k c = x := State.channel_setChannel_self ..
  have hread : (s.setChannel k c x).readback k c = s.readback k c := rfl
  rw [State.compareChannel_eq hset, hself, hread, ← hg]
  refine ⟨fun j h => ?_, fun y => ?_, rfl⟩
  · show (((s.setChannel k c x).setChannel k c (g k c)).channel j h) = _
    by_cases hjh : j = k ∧ h = c
    · obtain ⟨rfl, rfl⟩ := hjh
      rw [State.channel_setChannel_self, if_pos (List.mem_singleton.mpr rfl)]
    · have hne : ¬(j, h) ∈ [(k, c)] := fun hmem => hjh (Prod.mk.inj (List.mem_singleton.mp hmem))
      rw [State.channel_setChannel_ne _ _ fun hj hh => hjh ⟨hj, hh⟩,
        State.channel_setChannel_ne _ _ fun hj hh => hjh ⟨hj, hh⟩, if_neg hne]
  · have hcommanded : (g k c).commanded = x.commanded := by rw [hg]; rfl
    show y ∈ (s.setChannel k c x).activeCompared k c ↔ _
    unfold State.activeCompared
    rw [hself, hread, State.setChannel_active]
    have hone : (∀ j h, (j, h) ∈ [(k, c)] → (g j h).commanded = s.readback j h → y ≠ .tripPath j h) ↔
        (x.commanded = s.readback k c → y ≠ .tripPath k c) := by
      rw [← hcommanded]
      refine ⟨fun h => h k c (List.mem_singleton.mpr rfl), fun h j i hmem => ?_⟩
      obtain ⟨rfl, rfl⟩ := Prod.mk.inj (List.mem_singleton.mp hmem)
      exact h
    rw [hone]
    by_cases hagree : x.commanded = s.readback k c
    · simp [hagree]
    · simp [hagree]

/-- One channel compared as it stands. -/
theorem compared_compareChannel (htest : s.inTripTest = false) (k : Stage) (c : Chan)
    (hg : g k c = (s.channel k c).compared (s.readback k c)) : Compared s (s.compareChannel k c) [(k, c)] g := by
  have h := compared_setChannel htest k c (s.channel k c) hg
  rwa [State.setChannel_channel] at h

end

/-- The six output channels. -/
def allChannels : List (Stage × Chan) := [(.s1, .x), (.s1, .y), (.s2, .x), (.s2, .y), (.s3, .x), (.s3, .y)]

theorem mem_allChannels (k : Stage) (c : Chan) : (k, c) ∈ allChannels := by
  cases k <;> cases c <;> decide

/-- A channel released: it follows its latch, compared afresh (R156). -/
def State.released (s : State) (k : Stage) (c : Chan) : OutChannel :=
  ⟨!s.latched k, if s.readback k c = !s.latched k then none else some 20⟩

theorem compared_releaseChannels {s : State} (htest : s.inTripTest = false) :
    Compared s s.releaseChannels allChannels s.released := by
  have hone {t : State} {l : List (Stage × Chan)} (h : Compared s t l s.released) (k : Stage) (c : Chan) :
      Compared s (t.releaseChannel k c) (l ++ [(k, c)]) s.released := by
    refine h.trans (compared_setChannel (h.inTripTest.trans htest) k c _ ?_)
    rw [h.readback, h.latched]
    unfold State.released OutChannel.compared
    simp only [Option.none_or, eq_comm (a := s.readback k c)]
  have hnone : Compared s s [] s.released := ⟨fun _ _ => rfl, fun _ => ⟨fun h => ⟨h, nofun⟩, And.left⟩, rfl⟩
  rw [State.releaseChannels_eq]
  exact hone (hone (hone (hone (hone (hone hnone .s1 .x) .s1 .y) .s2 .x) .s2 .y) .s3 .x) .s3 .y

/-! ## A raise taken whole (R134) -/

/-- A change of a command is followed by the comparison. -/
theorem State.command_eq_of_same {s : State} {k : Stage} {c : Chan} {e : Bool} (h : (s.channel k c).commanded = e) :
    s.command k c e = s := if_pos h

theorem compared_command_of_ne {s : State} {k : Stage} {c : Chan} {e : Bool} (htest : s.inTripTest = false)
    (h : (s.channel k c).commanded ≠ e) {g : Stage → Chan → OutChannel}
    (hg : g k c = OutChannel.compared { s.channel k c with commanded := e } (s.readback k c)) :
    Compared s (s.command k c e) [(k, c)] g := by
  unfold State.command
  rw [if_neg h]
  exact compared_setChannel htest k c _ hg

/-- What latching a stage does to the trip unit: its latch, its own channels, and TRIP PATH entries of these alone. -/
structure Latching (s t : State) (ks : List Stage) : Prop where
  channel : ∀ j h, j ∉ ks → t.channel j h = s.channel j h
  active : ∀ x, (∀ j h, j ∈ ks → x ≠ .tripPath j h) → (x ∈ t.trip.active ↔ x ∈ s.trip.active)
  capture : t.trip.capture = s.trip.capture
  test : t.inTripTest = s.inTripTest
  readback : t.readback = s.readback
  rest : t = { s with trip := t.trip }

theorem Latching.rfl {s : State} {ks : List Stage} : Latching s s ks :=
  ⟨fun _ _ _ => .refl _, fun _ _ => .rfl, .refl _, .refl _, .refl _, .refl _⟩

theorem Latching.trans {s t u : State} {ks js : List Stage} (h : Latching s t ks) (g : Latching t u js) :
    Latching s u (ks ++ js) := by
  refine ⟨fun j c hj => ?_, fun x hx => ?_, g.capture.trans h.capture, g.test.trans h.test, g.readback.trans h.readback, ?_⟩
  · rw [List.mem_append, not_or] at hj
    rw [g.channel j c hj.2, h.channel j c hj.1]
  · rw [g.active x fun j c hj => hx j c (List.mem_append_right ks hj),
      h.active x fun j c hj => hx j c (List.mem_append_left js hj)]
  · calc u = { t with trip := u.trip } := g.rest
      _ = { s with trip := u.trip } := by rw [h.rest]

theorem Compared.latching {s t : State} {k : Stage} {c : Chan} {g : Stage → Chan → OutChannel}
    (h : Compared s t [(k, c)] g) : Latching s t [k] := by
  refine ⟨fun j i hj => ?_, fun x hx => ?_, ?_, h.inTripTest, h.readback, ?_⟩
  · rw [h.channel, if_neg]
    intro hmem
    obtain ⟨rfl, -⟩ := Prod.mk.inj (List.mem_singleton.mp hmem)
    exact hj (List.mem_singleton.mpr rfl)
  · rw [h.active]
    refine ⟨And.left, fun hmem => ⟨hmem, fun j i hji _ => hx j i ?_⟩⟩
    obtain ⟨rfl, -⟩ := Prod.mk.inj (List.mem_singleton.mp hji)
    exact List.mem_singleton.mpr rfl
  · rw [h.rest]
  · calc t = _ := h.rest
      _ = { s with trip := t.trip } := by rw [h.rest]

theorem latching_command {s : State} (htest : s.inTripTest = false) (k : Stage) (c : Chan) (e : Bool) :
    Latching s (s.command k c e) [k] := by
  by_cases h : (s.channel k c).commanded = e
  · rw [State.command_eq_of_same h]
    exact .rfl
  · exact (compared_command_of_ne htest h
      (g := fun _ _ => OutChannel.compared { s.channel k c with commanded := e } (s.readback k c)) rfl).latching

theorem Latching.mono {s t : State} {ks js : List Stage} (h : Latching s t ks) (hsub : ks ⊆ js) : Latching s t js :=
  ⟨fun j c hj => h.channel j c fun hk => hj (hsub hk), fun x hx => h.active x fun j c hj => hx j c (hsub hj), h.capture,
    h.test, h.readback, h.rest⟩

theorem latching_setLatch (s : State) (k : Stage) (l : Latch) : Latching s (s.setLatch k l) [k] := by
  have hset : Latching s (s.setTrip { s.trip with latch := s.trip.latch.set k l }) [k] :=
    ⟨fun _ _ _ => rfl, fun _ _ => Iff.rfl, rfl, rfl, rfl, rfl⟩
  unfold State.setLatch State.followLatch
  split
  next => exact hset
  next htest =>
    have htest := eq_false_of_ne_true htest
    have hx := latching_command htest k .x
      (!(s.setTrip { s.trip with latch := s.trip.latch.set k l }).latched k)
    have hy := latching_command (hx.test.trans htest) k .y
      (!(s.setTrip { s.trip with latch := s.trip.latch.set k l }).latched k)
    exact ((hset.trans hx).trans hy).mono (by simp)

theorem latching_latchAll (c : Cause) (ks : List Stage) (s : State) : Latching s (s.latchAll c ks) ks := by
  induction ks generalizing s with
  | nil => exact .rfl
  | cons k ks ih => exact (latching_setLatch s k (.latched c)).trans (ih _)

theorem State.noted_frame (s : State) (c : Cause) : s.noted c =
    { s with trip := { s.trip with causes := (s.noted c).trip.causes, active := (s.noted c).trip.active } } := by
  unfold State.noted State.addActive
  split
  · split <;> rfl
  · rfl

theorem State.mem_noted_active {s : State} {c x : Cause} : x ∈ (s.noted c).trip.active ↔ x ∈ s.trip.active ∨
    x = c ∧ c.isCondition = true ∧ ∀ y ∈ s.trip.active, sameEntry c y = false := by
  have hstands : (s.addCause c).trip.active.any (sameEntry c) = true ↔
      ¬∀ y ∈ s.trip.active, sameEntry c y = false := by
    simp [State.addCause]
  unfold State.noted State.addActive
  split
  next hcond =>
    split
    next hany =>
      have hsame := hstands.mp hany
      exact ⟨.inl, fun h => h.elim id fun hnew => absurd hnew.2.2 hsame⟩
    next hnone =>
      have hnew := Classical.not_not.mp (mt hstands.mpr hnone)
      show x ∈ s.trip.active ++ [c] ↔ _
      rw [List.mem_append, List.mem_singleton]
      exact or_congr_right ⟨fun h => ⟨h, hcond, hnew⟩, And.left⟩
  next hcond => exact ⟨.inl, fun h => h.elim id fun hnew => absurd hnew.2.1 hcond⟩

/-- What a raise has made of the state before it is offered to the capture. -/
theorem latching_noted (s : State) (c : Cause) :
    Latching (s.noted c) ((s.noted c).latchAll c (s.newlyLatched c)) (s.newlyLatched c) := latching_latchAll ..

/-- A raise without its hand-over touches the link port and the trip unit. -/
theorem State.raiseRecord_frame (s : State) (c : Cause) :
    s.raiseRecord c = { s with link := (s.raiseRecord c).link, trip := (s.raiseRecord c).trip } :=
  calc s.raiseRecord c = { s.raiseRecord c with link := (s.raiseRecord c).link } := rfl
    _ = _ := by
      dsimp only
      rw [State.raiseRecord_pending, State.raiseRecord_pins, State.raiseRecord_clock, State.raiseRecord_table,
        State.raiseRecord_drums, State.raiseRecord_inputs, State.raiseRecord_rope, State.raiseRecord_depth,
        State.raiseRecord_env, State.raiseRecord_wind, State.raiseRecord_proof]

theorem State.captureOf_congr {s t : State} {link : LinkPort} {trip : TripUnit}
    (h : t = { s with link := link, trip := trip }) : t.captureOf = s.captureOf := by
  rw [h]; rfl

theorem State.latchedBy_frame (s : State) (c : Cause) :
    s.latchedBy c = { s with link := (s.latchedBy c).link, trip := (s.latchedBy c).trip } := by
  have hreports (ks : List Stage) (x : State) : ks.foldl (State.reportLatch c) x =
      { x with link := (ks.foldl (State.reportLatch c) x).link } := by
    induction ks generalizing x with
    | nil => rfl
    | cons k ks ih =>
      rw [List.foldl_cons, ih]
      unfold State.reportLatch
      rw [State.report_eq]
  unfold State.latchedBy
  rw [hreports, (latching_noted s c).rest, s.noted_frame c]

/-- The capture after a raise (R138). -/
theorem State.raiseRecord_capture (s : State) (c : Cause) : (s.raiseRecord c).trip.capture =
    if c.kind = .administrative then s.trip.capture
    else match s.trip.capture with
      | none => some (s.captureOf c)
      | some held => if held.rank < c.rank then some (s.captureOf c) else some held := by
  have hlatched : (s.latchedBy c).trip = ((s.noted c).latchAll c (s.newlyLatched c)).trip := State.reportLatches_trip ..
  have hcapture : (s.latchedBy c).trip.capture = s.trip.capture := by
    rw [hlatched, (latching_noted s c).capture, State.noted_frame]
  rw [State.raiseRecord_eq]
  split
  next => exact hcapture
  next =>
    unfold State.offerCapture
    rw [hcapture, State.captureOf_congr (s.latchedBy_frame c)]
    cases hs : s.trip.capture with
    | none => rfl
    | some held =>
      dsimp only
      split
      next => rfl
      next => exact hcapture.trans hs

theorem State.ChannelsFollow.raiseRecord {s : State} (hs : s.ChannelsFollow) (c : Cause) :
    (s.raiseRecord c).ChannelsFollow := by
  have hnoted : (s.noted c).ChannelsFollow := by
    simpa only [State.ChannelsFollow, State.latched, State.channel, State.noted_latch, State.noted_chan,
      State.inTripTest_congr (s.noted_proof c)] using hs
  have hall := hnoted.latchAll (c := c) (s.newlyLatched c)
  have htest : (s.raiseRecord c).inTripTest = ((s.noted c).latchAll c (s.newlyLatched c)).inTripTest := by
    rw [(latching_noted s c).test, State.inTripTest_congr (s.noted_proof c),
      State.inTripTest_congr (s.raiseRecord_proof c)]
  unfold State.ChannelsFollow State.latched State.channel at *
  rw [htest, State.raiseRecord_trip]
  exact hall

/-- The active set after a raise, TRIP PATH entries of the stages it has latched apart. -/
theorem State.mem_raiseRecord_active_iff {s : State} {c x : Cause}
    (hx : ∀ j h, j ∈ s.newlyLatched c → x ≠ .tripPath j h) : x ∈ (s.raiseRecord c).trip.active ↔
      x ∈ s.trip.active ∨ x = c ∧ c.isCondition = true ∧ ∀ y ∈ s.trip.active, sameEntry c y = false := by
  rw [State.raiseRecord_trip]
  exact ((latching_noted s c).active x hx).trans State.mem_noted_active

/-- Settles O16: part by part of R134. -/
theorem raisesAreTakenWhole : Obligations.RaisesAreTakenWhole := by
  intro s c hstage hfollow htest
  refine ⟨fun n => ?_, fun k => ?_, hfollow.raiseRecord c, ?_, fun x hx => ?_, s.raiseRecord_capture c,
    s.raiseRecord_frame c⟩
  · rw [State.raiseRecord_causes]
    exact mem_insertCode
  · rw [State.raiseRecord_latch]
    simp only [State.mem_newlyLatched, and_comm]
  · exact State.reported_of_link (s.raiseRecord_link c)
  · exact State.mem_raiseRecord_active_iff fun j h _ => hx j h

end Sys2Proof.Machine
end


section
/-! The channel tests of proof step 5 (R156), a change of a readback (R132), and the timers of the proof (R157). -/

namespace Sys2Proof.Machine

/-! ## The end of step 5 -/

theorem State.leaveProof_of_test {s : State} (htest : s.inTripTest = true) (r : Readiness) :
    s.leaveProof r = (s.setReadiness r).releaseChannels := if_pos htest

theorem State.leaveProof_of_outside {s : State} (htest : s.inTripTest = false) (r : Readiness) :
    s.leaveProof r = s.setReadiness r := if_neg (ne_true_of_eq_false htest)

/-- Whether a readiness is that of step 5. -/
def Readiness.inTripTest : Readiness → Bool
  | .proving (.tripPaths _ _ _ _) => true
  | _ => false

theorem compared_leaveProof {s : State} (htest : s.inTripTest = true) {r : Readiness} (hr : r.inTripTest = false) :
    Compared (s.setReadiness r) (s.leaveProof r) allChannels s.released := by
  rw [State.leaveProof_of_test htest]
  exact compared_releaseChannels (s := s.setReadiness r) hr

theorem State.leaveProof_frame (s : State) {r : Readiness} (hr : r.inTripTest = false) : s.leaveProof r = { s with
    proof := { s.proof with readiness := r }
    trip := { s.trip with chan := (s.leaveProof r).trip.chan, active := (s.leaveProof r).trip.active } } := by
  cases htest : s.inTripTest with
  | true => exact (compared_leaveProof htest hr).rest
  | false => rw [State.leaveProof_of_outside htest]; rfl

/-- A failing proof: its report, and the trip unit as the end of its step leaves it (R152). -/
theorem State.failProof_frame (s : State) (step code detail : Nat) : s.failProof step code detail =
    { s.concluded ⟨.proofFailed, some (code, detail)⟩ [.proofFail step code detail] with
      trip := (s.leaveProof .proofFailed).trip } := by
  unfold State.failProof
  rw [State.report_eq, s.leaveProof_frame (r := .proofFailed) rfl]
  rfl

/-- What the end of step 5 makes of the channels and the active set, in a state that agrees with it in the trip unit. -/
theorem State.leaveProof_channels {s t : State} (htest : s.inTripTest = true) {r : Readiness}
    (hr : r.inTripTest = false) (ht : t.trip = (s.leaveProof r).trip) :
    (∀ j c, t.channel j c = ⟨!s.latched j, if s.readback j c = !s.latched j then none else some 20⟩) ∧
      (∀ x, x ∈ t.trip.active ↔ x ∈ s.trip.active ∧
        ∀ j c, s.readback j c = (!s.latched j) → x ≠ .tripPath j c) ∧
      t.trip = { s.trip with chan := t.trip.chan, active := t.trip.active } := by
  have h := compared_leaveProof htest hr
  refine ⟨fun j c => ?_, fun x => ?_, ?_⟩
  · have hchannel := h.channel j c
    rw [if_pos (mem_allChannels j c)] at hchannel
    unfold State.channel at *
    rw [ht, hchannel]
    rfl
  · rw [ht, h.active]
    refine and_congr_right fun _ => ⟨fun hall j c hread => hall j c (mem_allChannels j c) hread.symm,
      fun hall j c _ hread => hall j c hread.symm⟩
  · rw [ht]
    exact congrArg State.trip h.rest

/-! ## The halves of step 5 (R156) -/

/-- A half under test: its readiness, and the commands of the six channels. -/
def State.half (s : State) (k : Stage) (c : Chan) (energise : Bool) : State :=
  (s.setReadiness (.proving (.tripPaths k c energise (some 20)))).commandHalf k c energise

theorem State.half_half (s : State) (k : Stage) (c : Chan) (e f : Bool) : (s.half k c e).half k c f = s.half k c f := rfl

theorem State.half_channel (s : State) (k j : Stage) (c h : Chan) (e : Bool) :
    (s.half k c e).channel j h = ⟨decide (j = k ∧ h = c ∧ e = true), none⟩ := by
  have hoff (k : Stage) (c : Chan) : PerChan.get (PerStage.get (⟨⟨⟨false, none⟩, ⟨false, none⟩⟩,
      ⟨⟨false, none⟩, ⟨false, none⟩⟩, ⟨⟨false, none⟩, ⟨false, none⟩⟩⟩ : PerStage (PerChan OutChannel)) k) c =
        ⟨false, none⟩ := by
    cases k <;> cases c <;> rfl
  unfold State.half State.commandHalf State.channel
  dsimp only [State.setTrip_trip]
  by_cases hj : j = k
  · subst hj
    rw [PerStage.get_set_self]
    by_cases hc : h = c
    · subst hc
      rw [PerChan.get_set_self]
      simp
    · rw [PerChan.get_set_ne _ _ _ _ hc, hoff]
      simp [hc]
  · rw [PerStage.get_set_ne _ _ _ _ hj, hoff]
    simp [hj]

theorem State.beginHalf_of_awaiting {s : State} {k : Stage} {c : Chan} {e : Bool} (n : Nat)
    (h : s.readback k c ≠ e) : s.beginHalf (n + 1) k c e = s.half k c e := by
  unfold State.beginHalf
  exact if_neg h

/-- An energise half begun is passed at once by a channel that shows energised, which leaves the de-energise half. -/
theorem State.beginHalf_energise (s : State) (n : Nat) (k : Stage) (c : Chan) :
    s.beginHalf (n + 2) k c true = s.half k c (!s.readback k c) := by
  cases h : s.readback k c with
  | false => exact State.beginHalf_of_awaiting _ (by rw [h]; decide)
  | true =>
    have hshown : (s.half k c true).readback k c = true := h
    have hpassed : s.beginHalf (n + 2) k c true = (s.half k c true).beginHalf (n + 1) k c false := by
      rw [State.beginHalf]
      exact if_pos hshown
    rw [hpassed, State.beginHalf_of_awaiting _ (by rw [hshown]; decide)]
    rfl

/-- The channel after the one under test (R156). -/
def nextChannel (k : Stage) (c : Chan) : Option (Stage × Chan) :=
  match c, k with
  | .x, _ => some (k, .y)
  | .y, .s1 => some (.s2, .x)
  | .y, .s2 => some (.s3, .x)
  | .y, .s3 => none

theorem State.passHalf_energise {s : State} {k : Stage} {c : Chan} (h : s.readback k c = true) :
    s.passHalf k c true = s.half k c false := State.beginHalf_of_awaiting 11 (by rw [h]; decide)

theorem State.passHalf_release_next {s : State} {k j : Stage} {c h : Chan} (hnext : nextChannel k c = some (j, h)) :
    s.passHalf k c false = s.half j h (!s.readback j h) := by
  rw [← s.beginHalf_energise 10]
  cases k <;> cases c <;> cases hnext <;> rfl

theorem State.passHalf_release_last {s : State} {k : Stage} {c : Chan} (hnext : nextChannel k c = none) :
    s.passHalf k c false = s.passTripPaths := by
  cases c with
  | x => cases hnext
  | y => cases k <;> cases hnext
         rfl

theorem nextChannel_ne {k j : Stage} {c h : Chan} (hnext : nextChannel k c = some (j, h)) : ¬(j = k ∧ h = c) := by
  cases k <;> cases c <;> cases hnext <;> decide

/-- The pass of step 5 (R152, R156). -/
theorem State.passTripPaths_eq (s : State) : s.passTripPaths =
    { s.concluded (if s.winder.echoOmitted then ⟨.proven, none⟩ else s.awaiting 1)
      [.proofStep 5, if s.winder.echoOmitted then .proofPass else .echoProbe 1] with
      trip := (s.leaveProof .unproven).trip } := by
  have hleft := s.leaveProof_frame (r := .unproven) rfl
  have hwinder : ((s.leaveProof .unproven).report (.proofStep 5)).winder = s.winder := by
    rw [State.report_eq, hleft]
    rfl
  unfold State.passTripPaths
  dsimp only
  rw [hwinder]
  cases s.winder.echoOmitted with
  | true =>
    rw [if_pos rfl, if_pos rfl, if_pos rfl, State.passProof, State.report_eq, State.report_eq, hleft]
    rfl
  | false =>
    rw [if_neg (by decide), if_neg (by decide), if_neg (by decide), State.sendProbe, State.report_eq, State.report_eq,
      hleft]
    rfl

/-! ## A change of a readback (R132, R156) -/

theorem State.transmit_channel (s : State) : s.transmit.channel = s.channel := by
  unfold State.channel
  rw [State.transmit_trip]

theorem State.transmit_readback (s : State) : s.transmit.readback = s.readback := by
  unfold State.readback
  rw [State.transmit_pins]

theorem State.setReadback_self (s : State) (k : Stage) (c : Chan) (level : Bool) :
    (s.setReadback k c level).readback k c = level := by
  unfold State.readback State.setReadback
  rw [State.setPins_pins, PerStage.get_set_self, PerChan.get_set_self]

theorem State.setReadback_ne (s : State) {k j : Stage} {c h : Chan} (level : Bool) (hne : ¬(j = k ∧ h = c)) :
    (s.setReadback k c level).readback j h = s.readback j h := by
  unfold State.readback State.setReadback
  rw [State.setPins_pins]
  by_cases hj : j = k
  · subst hj
    rw [PerStage.get_set_self, PerChan.get_set_ne _ _ _ _ fun hh => hne ⟨rfl, hh⟩]
  · rw [PerStage.get_set_ne _ _ _ _ hj]

theorem exec_readbackChange (k : Stage) (h : Chan) (level : Bool) (s : State) :
    exec (.readbackChange k h level) s = .next (if s.readback k h = level then s
      else ((s.setReadback k h level).judgeReadback k h level).transmit) := rfl

theorem State.judgeReadback_outside {s : State} (htest : s.inTripTest = false) (k : Stage) (h : Chan) (level : Bool) :
    s.judgeReadback k h level = s.compareChannel k h := by
  unfold State.judgeReadback
  unfold State.inTripTest at htest
  split
  next hr => rw [hr] at htest; contradiction
  next => rfl

theorem State.judgeReadback_inside {s : State} {j : Stage} {c : Chan} {e : Bool} {timer : Timer}
    (hr : s.proof.readiness = .proving (.tripPaths j c e timer)) (k : Stage) (h : Chan) (level : Bool) :
    s.judgeReadback k h level = if k = j ∧ h = c ∧ level = e then s.passHalf j c e else s := by
  unfold State.judgeReadback
  rw [hr]

/-- An event that has left the link port as it stood tells nobody anything. -/
theorem State.told_nothing {s t : State} (h : t.link = s.link) : s.Told t.transmit [] := State.told_of_link h

theorem State.inTripTest_of_paths {s : State} {k : Stage} {c : Chan} {e : Bool} {timer : Timer}
    (hr : s.proof.readiness = .proving (.tripPaths k c e timer)) : s.inTripTest = true := by
  unfold State.inTripTest
  rw [hr]

section
variable {s : State} {k : Stage} {h : Chan} {level : Bool}

theorem readbackChange_outside (hlevel : s.readback k h ≠ level) (htest : s.inTripTest = false) :
    Answers (.readbackChange k h level) s fun t =>
      s.Told t [] ∧ t.readback k h = level ∧
      (t.channel k h).commanded = (s.channel k h).commanded ∧
      ((s.channel k h).commanded = level → (t.channel k h).mismatch = none ∧
        ∀ x, x ∈ t.trip.active ↔ x ∈ s.trip.active ∧ x ≠ .tripPath k h) ∧
      ((s.channel k h).commanded ≠ level → t.trip.active = s.trip.active ∧
        (t.channel k h).mismatch = ((s.channel k h).mismatch.or (some 20))) ∧
      t = { s with
        link := t.link, pins := t.pins, trip := { s.trip with chan := t.trip.chan, active := t.trip.active } } := by
  have hset : (s.setReadback k h level).inTripTest = false := htest
  have heq := State.compareChannel_eq hset k h
  have hcompared := compared_compareChannel hset k h
    (g := fun _ _ => ((s.setReadback k h level).channel k h).compared ((s.setReadback k h level).readback k h)) rfl
  have hchannel : ((s.setReadback k h level).compareChannel k h).channel k h = (s.channel k h).compared level := by
    rw [hcompared.channel, if_pos (List.mem_singleton.mpr rfl), State.setReadback_self]
    rfl
  have hactive : ((s.setReadback k h level).compareChannel k h).trip.active =
      if (s.channel k h).commanded = level then s.trip.active.filter fun x => !decide (x = .tripPath k h)
      else s.trip.active := by
    rw [heq, State.setTrip_trip]
    unfold State.activeCompared
    rw [State.setReadback_self]
    rfl
  have hpins : ((s.setReadback k h level).compareChannel k h).pins = (s.setReadback k h level).pins := by simp
  refine ⟨_, (exec_readbackChange ..).trans (congrArg _ ((if_neg hlevel).trans (by
    rw [State.judgeReadback_outside hset]))), State.told_nothing (by rw [heq]; rfl), ?_, ?_, fun hagree => ?_,
    fun hdiffer => ?_, ?_⟩
  · rw [State.transmit_readback]
    unfold State.readback
    rw [hpins]
    exact s.setReadback_self k h level
  · rw [State.transmit_channel, hchannel]
    rfl
  · rw [State.transmit_channel, hchannel, State.transmit_trip, hactive, if_pos hagree]
    refine ⟨if_pos hagree, fun x => ?_⟩
    simp
  · rw [State.transmit_channel, hchannel, State.transmit_trip, hactive, if_neg hdiffer]
    exact ⟨rfl, if_neg hdiffer⟩
  · rw [State.transmit_eq, hcompared.rest]
    rfl

/-- A readback that the half under test does not await passes nothing. -/
theorem readbackChange_unawaited {k1 : Stage} {h1 : Chan} {energise : Bool} {timer : Timer}
    (hlevel : s.readback k h ≠ level) (hother : ¬(k = k1 ∧ h = h1 ∧ level = energise))
    (hr : s.proof.readiness = .proving (.tripPaths k1 h1 energise timer)) :
    Answers (.readbackChange k h level) s fun t =>
      s.Told t [] ∧ t.readback k h = level ∧ t = { s with link := t.link, pins := t.pins } := by
  refine ⟨(s.setReadback k h level).transmit, (exec_readbackChange ..).trans (congrArg _ ((if_neg hlevel).trans ?_)),
    State.told_nothing rfl, ?_, ?_⟩
  · rw [State.judgeReadback_inside (s := s.setReadback k h level) hr, if_neg hother]
  · rw [State.transmit_readback]
    exact s.setReadback_self k h level
  · rw [State.transmit_eq]
    rfl

end

/-- The half under test passed by a change of its readback. -/
theorem exec_readbackChange_awaited {s : State} {k : Stage} {h : Chan} {level : Bool} {timer : Timer}
    (hlevel : s.readback k h ≠ level) (hr : s.proof.readiness = .proving (.tripPaths k h level timer)) :
    exec (.readbackChange k h level) s = .next ((s.setReadback k h level).passHalf k h level).transmit := by
  rw [exec_readbackChange, if_neg hlevel, State.judgeReadback_inside (s := s.setReadback k h level) hr,
    if_pos ⟨rfl, rfl, rfl⟩]

/-- Settles O18: outside step 5 the channel is compared; in step 5 the awaited readback passes the half. -/
theorem readbacksAreCompared : Obligations.ReadbacksAreCompared := by
  intro k h level s
  refine ⟨fun hsame => ?_, readbackChange_outside, fun timer hlevel hr => ?_, fun _ _ _ _ => readbackChange_unawaited⟩
  · rw [exec_readbackChange, if_pos hsame]
  · intro next
    have hnext : next = nextChannel k h := by cases k <;> cases h <;> rfl
    rw [hnext]
    refine ⟨_, exec_readbackChange_awaited hlevel hr, ?_⟩
    have hself := s.setReadback_self k h level
    cases level with
    | true =>
      rw [State.passHalf_energise hself]
      refine ⟨?_, ?_, fun _ => ⟨State.told_nothing rfl, ?_, ?_, fun j c => ?_⟩, fun _ _ hl => absurd hl (by decide),
        fun hl => absurd hl (by decide)⟩
      · rw [State.transmit_readback]; exact hself
      · rw [State.transmit_eq]; rfl
      · rw [State.transmit_trip]; rfl
      · rw [State.transmit_proof]; rfl
      · rw [State.transmit_channel, State.half_channel]
        simp
    | false =>
      cases hn : nextChannel k h with
      | some p =>
        obtain ⟨j, i⟩ := p
        have hkept : (s.setReadback k h false).readback j i = s.readback j i := s.setReadback_ne false (nextChannel_ne hn)
        rw [State.passHalf_release_next hn, hkept]
        refine ⟨?_, ?_, fun hl => absurd hl (by decide), ?_, fun _ hl => absurd hl (by simp)⟩
        · rw [State.transmit_readback]; exact hself
        · rw [State.transmit_eq]; rfl
        · rintro _ _ - ⟨⟩
          refine ⟨State.told_nothing rfl, ?_, ?_, fun c d => ?_⟩
          · rw [State.transmit_trip]; rfl
          · rw [State.transmit_proof]; rfl
          · rw [State.transmit_channel, State.half_channel]
            simp only [Bool.not_eq_true']
      | none =>
        rw [State.passHalf_release_last hn, State.passTripPaths_eq]
        have htest : (s.setReadback k h false).inTripTest = true := State.inTripTest_of_paths hr
        obtain ⟨hchannels, hactive, htrip⟩ := State.leaveProof_channels (t := (s.setReadback k h false).leaveProof .unproven)
          htest (r := .unproven) rfl rfl
        refine ⟨?_, ?_, fun hl => absurd hl (by decide), fun _ _ _ hl => absurd hl (by simp), fun _ _ => ⟨?_, ?_, ?_, ?_⟩⟩
        · rw [State.transmit_readback]; exact hself
        · rw [State.transmit_eq]
          conv => lhs; rw [htrip]
          rfl
        · exact State.told_of_link rfl
        · rw [State.transmit_proof]; rfl
        · rw [State.transmit_channel, State.transmit_readback]
          exact hchannels
        · rw [State.transmit_trip, State.transmit_readback]
          exact hactive

/-! ## The timers of the proof (R156, R157) -/

/-- What an expiry does to a timer that has not reached its end (log entry 2). -/
theorem ite_ended_of_ne {α : Type} {t : Timer} (h : t ≠ some 0) (x y : α) : (if ended t then x else y) = y :=
  if_neg fun hended => h (of_decide_eq_true hended)

theorem State.echoTimer_of_echo {s : State} {p : Half} {m : Word} {o : Bool} {x : Timer}
    (h : s.proof.readiness = .proving (.echo p m o x)) : s.echoTimer = x := by
  unfold State.echoTimer
  rw [h]

theorem State.testTimer_of_paths {s : State} {k : Stage} {c : Chan} {e : Bool} {x : Timer}
    (h : s.proof.readiness = .proving (.tripPaths k c e x)) : s.testTimer = x := by
  unfold State.testTimer
  rw [h]

/-- Settles O27: a timer that has ended fails the proof of its step. -/
theorem proofTimersFailTheProof : Obligations.ProofTimersFailTheProof := by
  refine ⟨fun s h => ?_, fun s h => ?_, fun s p m o hr => ?_, fun s k c e hr => ?_⟩
  · show Host.Outcome.next _ = _
    split
    next hr =>
      rw [State.echoTimer_of_echo hr] at h
      rw [ite_ended_of_ne h]
    next => rfl
  · show Host.Outcome.next _ = _
    split
    next hr =>
      rw [State.testTimer_of_paths hr] at h
      rw [ite_ended_of_ne h]
    next => rfl
  · have hexec : exec .echoTimerExpiry s = .next (s.failProof 6 0x87 p.toNat).transmit := by
      show Host.Outcome.next _ = _
      rw [hr]
      rfl
    rw [State.failProof_eq (State.inTripTest_of_echo hr)] at hexec
    refine ⟨_, hexec, State.told_of_link rfl, ?_⟩
    rw [State.transmit_eq]
    rfl
  · have hexec : exec .testTimerExpiry s = .next (s.failProof 5 0x86 (pathCode k c)).transmit := by
      show Host.Outcome.next _ = _
      rw [hr]
      rfl
    have hcode : pathCode k c = 16 * stageCode k + chanCode c := by rw [pathCode, Nat.mul_comm]
    rw [hcode, State.failProof_frame] at hexec
    obtain ⟨hchannels, hactive, htrip⟩ := State.leaveProof_channels (t := s.leaveProof .proofFailed)
      (State.inTripTest_of_paths hr) (r := .proofFailed) rfl rfl
    refine ⟨_, hexec, State.told_of_link rfl, ?_, ?_, ?_, ?_⟩
    · rw [State.transmit_proof]; rfl
    · rw [State.transmit_channel]
      exact hchannels
    · rw [State.transmit_trip]
      exact hactive
    · rw [State.transmit_eq]
      conv => lhs; rw [htrip]
      rfl

end Sys2Proof.Machine
end


section
/-! What the work of the blocks leaves of the rest of the machine: the fault record, the reports on their way, the open
wind, and of each block whatever the work does not own. -/

namespace Sys2Proof.Machine

/-! ## What is watched -/

/-- The parts of the machine that some work is claimed to leave alone: the drums and marks, the tracks and the rope records
by side, the envelope with its counters and its degrade state, advisories, and a part of the counts of the open wind. -/
structure Watch where
  drum : Side → Prop
  hold : Prop
  track : Side → Prop
  rope : Side → Prop
  env : Prop
  counters : Prop
  degrade : Prop
  entry : Cause → Prop
  count : PerSide SideCounts → SideCounts

/-- Nothing under watch: what all work keeps. -/
def Watch.nothing : Watch where
  drum _ := False
  hold := False
  track _ := False
  rope _ := False
  env := False
  counters := False
  degrade := False
  entry _ := False
  count _ := ⟨0, 0, 0, 0, 0⟩

/-- A report is on its way to the host, or has found the queue full and set the reports-lost flag. -/
def State.Holds (s : State) (r : Report) : Prop :=
  r ∈ s.reportsOut ∨ (s.link.lost = true ∧ Config.maxReports ≤ s.link.reports.length)

/-- What work from `s` to `t` keeps of the machine, the parts under watch included; it may close a wind. -/
structure KeepsBase (k : Watch) (s t : State) : Prop where
  causes : s.trip.causes ⊆ t.trip.causes
  first : ∀ j c, s.trip.latch.get j = .latched c → t.trip.latch.get j = .latched c
  holds : ∀ r, s.Holds r → t.Holds r
  lost : ∀ d, .drumLost d ∈ s.trip.active → .drumLost d ∈ t.trip.active
  entry : ∀ c, c.kind = .advisory → k.entry c → (c ∈ t.trip.active ↔ c ∈ s.trip.active)
  closed : s.wind.current = none → t.wind.current = none
  opened : s.wind.current ≠ none → s.phase ≠ some .accepted → t.wind.current ≠ none ∧ t.phase ≠ some .accepted
  stopping : s.phase = some .stopping → t.phase = some .stopping
  count : ∀ w v, s.wind.current = some w → t.wind.current = some v → k.count v.counts = k.count w.counts
  drum : ∀ d, k.drum d → t.drums.drum.get d =
    { s.drums.drum.get d with restDue := (t.drums.drum.get d).restDue }
  hold : k.hold → t.drums.hold = s.drums.hold ∧ t.drums.holdDue = s.drums.holdDue ∧ t.drums.sampled = s.drums.sampled
  track : ∀ d, k.track d → t.depth.get d = s.depth.get d
  rope : ∀ d, k.rope d → t.rope.side.get d = s.rope.side.get d
  line : t.rope.rx = s.rope.rx ∧ t.rope.lastSeq = s.rope.lastSeq ∧ t.rope.frame = s.rope.frame
  env : k.env → t.env = { s.env with degrade := t.env.degrade, overCount := t.env.overCount }
  counters : k.counters → t.env.overCount = s.env.overCount ∨ t.env.overCount = ⟨0, 0, 0⟩ ∧ t.wind.current = none
  degrade : k.degrade → t.env.degrade = s.env.degrade ∨ t.env.degrade = none ∧ t.wind.current = none

/-- Work that closes a wind only by latching a stage, and lets none run on under a stage that it latches (R121). -/
structure Keeps (k : Watch) (s t : State) : Prop extends KeepsBase k s t where
  runs : t.latches = s.latches → s.wind.current ≠ none → t.wind.current ≠ none
  trips : ∀ j, s.latched j = false → t.latched j = true → t.phase = none ∨ t.phase = some .stopping

section
variable {k : Watch} {s t u : State}

theorem KeepsBase.rfl : KeepsBase k s s :=
  ⟨fun _ h => h, fun _ _ h => h, fun _ h => h, fun _ h => h, fun _ _ _ => .rfl, id, fun h g => ⟨h, g⟩, id,
    fun w v hw hv => by rw [hw] at hv; cases hv; exact .refl _, fun _ _ => .refl _, fun _ => ⟨.refl _, .refl _, .refl _⟩, fun _ _ => .refl _,
    fun _ _ => .refl _, ⟨.refl _, .refl _, .refl _⟩, fun _ => .refl _, fun _ => .inl (.refl _), fun _ => .inl (.refl _)⟩

theorem Keeps.rfl : Keeps k s s := ⟨.rfl, fun _ h => h, fun j hs ht => by rw [hs] at ht; contradiction⟩

theorem KeepsBase.latched (h : KeepsBase k s t) {j : Stage} (hj : s.latched j = true) : t.latched j = true := by
  unfold State.latched at *
  cases hl : s.trip.latch.get j with
  | clear => rw [hl] at hj; contradiction
  | latched c => rw [h.first j c hl]; exact .refl _

/-- Of two pieces of work that together leave the latches, each does. -/
theorem KeepsBase.latches_between (h : KeepsBase k s t) (g : KeepsBase k t u) (heq : u.latches = s.latches) :
    t.latches = s.latches ∧ u.latches = t.latches := by
  have hone (j : Stage) (hj : u.latched j = s.latched j) : t.latched j = s.latched j := by
    cases ht : t.latched j with
    | true => rw [← hj, g.latched ht]
    | false =>
      cases hs : s.latched j with
      | false => exact .refl _
      | true => rw [h.latched hs] at ht; contradiction
  unfold State.latches at heq ⊢
  obtain ⟨h1, h2, h3⟩ := PerStage.mk.inj heq
  rw [hone .s1 h1, hone .s2 h2, hone .s3 h3, h1, h2, h3]
  exact ⟨.refl _, .refl _⟩

theorem KeepsBase.trans (h : KeepsBase k s t) (g : KeepsBase k t u) : KeepsBase k s u where
  causes := fun _ hx => g.causes (h.causes hx)
  first j c hs := g.first j c (h.first j c hs)
  holds r hr := g.holds r (h.holds r hr)
  lost d hd := g.lost d (h.lost d hd)
  entry c hc hk := (g.entry c hc hk).trans (h.entry c hc hk)
  closed hs := g.closed (h.closed hs)
  opened hs hp := g.opened (h.opened hs hp).1 (h.opened hs hp).2
  stopping hs := g.stopping (h.stopping hs)
  count w v hw hv := by
    cases ht : t.wind.current with
    | none => rw [g.closed ht] at hv; contradiction
    | some x => exact (g.count x v ht hv).trans (h.count w x hw ht)
  drum d hd := by rw [g.drum d hd, h.drum d hd]
  hold hk :=
    ⟨(g.hold hk).1.trans (h.hold hk).1, (g.hold hk).2.1.trans (h.hold hk).2.1, (g.hold hk).2.2.trans (h.hold hk).2.2⟩
  track d hd := (g.track d hd).trans (h.track d hd)
  rope d hd := (g.rope d hd).trans (h.rope d hd)
  line := ⟨g.line.1.trans h.line.1, g.line.2.1.trans h.line.2.1, g.line.2.2.trans h.line.2.2⟩
  env hk := by rw [g.env hk, h.env hk]
  counters hk := by
    rcases g.counters hk with hsame | hclosed
    · rcases h.counters hk with hsame' | ⟨hzero, hnone⟩
      · exact .inl (hsame.trans hsame')
      · exact .inr ⟨hsame.trans hzero, g.closed hnone⟩
    · exact .inr hclosed
  degrade hk := by
    rcases g.degrade hk with hsame | hclosed
    · rcases h.degrade hk with hsame' | ⟨hzero, hnone⟩
      · exact .inl (hsame.trans hsame')
      · exact .inr ⟨hsame.trans hzero, g.closed hnone⟩
    · exact .inr hclosed

theorem KeepsBase.phase_none (h : KeepsBase k s t) (hs : s.phase = none) : t.phase = none := by
  unfold State.phase at *
  rw [h.closed (Option.map_eq_none_iff.mp hs)]
  rfl

theorem Keeps.trans (h : Keeps k s t) (g : Keeps k t u) : Keeps k s u := by
  refine ⟨h.toKeepsBase.trans g.toKeepsBase, fun heq hs => ?_, fun j hs hu => ?_⟩
  · obtain ⟨hst, htu⟩ := h.latches_between g.toKeepsBase heq
    exact g.runs htu (h.runs hst hs)
  · cases ht : t.latched j with
    | false => exact g.trips j ht hu
    | true => exact (h.trips j hs ht).imp g.toKeepsBase.phase_none g.stopping

variable {p : Prop} [Decidable p]

theorem Keeps.ite (h : Keeps k s t) (g : Keeps k s u) : Keeps k s (if p then t else u) := by
  split
  next => exact h
  next => exact g

theorem Keeps.onlyIf (h : Keeps k s t) : Keeps k s (if p then t else s) := h.ite .rfl
theorem Keeps.unless (h : Keeps k s t) : Keeps k s (if p then s else t) := .ite .rfl h

end

/-! ## Reports -/

theorem LinkPort.push_holds (p : LinkPort) (r : Report) :
    Frame.reports (p.push r).tx ++ (p.push r).reports =
        Frame.reports p.tx ++ p.reports ++ (if p.reports.length < Config.maxReports then [r] else []) ∧
      (p.push r).lost = (p.lost || decide (Config.maxReports ≤ p.reports.length)) := by
  unfold LinkPort.push
  split
  next h => exact ⟨(List.append_assoc ..).symm, by rw [decide_eq_false (by omega), Bool.or_false]⟩
  next h => exact ⟨(List.append_nil _).symm, by rw [decide_eq_true (by omega), Bool.or_true]⟩

/-- A report created is held, and so is whatever was. -/
theorem State.report_holds (s : State) (b : ReportBody) :
    (s.report b).Holds (s.stamped b) ∧ ∀ r, s.Holds r → (s.report b).Holds r := by
  obtain ⟨hout, hlost⟩ := s.link.push_holds (s.stamped b)
  have hlen : s.link.reports.length ≤ (s.link.push (s.stamped b)).reports.length := by
    unfold LinkPort.push
    split
    next => simp
    next => exact Nat.le_refl _
  unfold State.Holds State.reportsOut
  rw [State.report_link, hout, hlost]
  constructor
  · by_cases hroom : s.link.reports.length < Config.maxReports
    · exact .inl (by simp [hroom])
    · refine .inr ⟨?_, by omega⟩
      rw [decide_eq_true (by omega), Bool.or_true]
  · rintro r (hr | ⟨hl, hfull⟩)
    · exact .inl (List.mem_append_left _ hr)
    · exact .inr ⟨by rw [hl, Bool.true_or], by omega⟩

theorem State.holds_congr {s t : State} (h : t.link = s.link) (r : Report) (hr : s.Holds r) : t.Holds r := by
  unfold State.Holds State.reportsOut at *
  rwa [h]

/-- Several reports created keep what is held. -/
theorem State.holds_of_pushAll {s t : State} {rs : List Report} (h : t.link = s.link.pushAll rs) (r : Report)
    (hr : s.Holds r) : t.Holds r := by
  unfold State.Holds State.reportsOut at *
  rw [h, LinkPort.pushAll_tx, LinkPort.pushAll_reports, LinkPort.pushAll_lost]
  rcases hr with hr | ⟨hl, hfull⟩
  · exact .inl (by rw [← List.append_assoc]; exact List.mem_append_left _ hr)
  · exact .inr ⟨by rw [hl, Bool.true_or], by rw [List.length_append]; omega⟩

/-- What is held when the transmitter chooses has been sent to the host. -/
theorem State.Holds.sends {s t : State} {b : ReportBody} (h : t.Holds (s.stamped b)) : s.Sends t.transmit b := by
  unfold State.Sends
  rw [State.transmit_reportsOut]
  rcases h with hr | ⟨hl, hfull⟩
  · exact .inl hr
  · refine .inr ⟨by rw [State.transmit_link, LinkPort.serve_lost]; exact hl, ?_⟩
    have hlen : t.link.reports.length ≤ t.transmit.link.reports.length + 1 := by
      rw [State.transmit_link]
      unfold LinkPort.serve
      split <;> simp_all
    omega

/-! ## Work outside the fault record, the reports and the wind -/

section
variable {k : Watch} {s t : State}

/-- The open wind as it stood, and nothing of the fault record lost. -/
theorem KeepsBase.of_wind (current : t.wind.current = s.wind.current) (causes : s.trip.causes ⊆ t.trip.causes)
    (first : ∀ j c, s.trip.latch.get j = .latched c → t.trip.latch.get j = .latched c)
    (holds : ∀ r, s.Holds r → t.Holds r)
    (lost : ∀ d, .drumLost d ∈ s.trip.active → .drumLost d ∈ t.trip.active)
    (entry : ∀ c, c.kind = .advisory → k.entry c → (c ∈ t.trip.active ↔ c ∈ s.trip.active))
    (drum : ∀ d, k.drum d → t.drums.drum.get d =
      { s.drums.drum.get d with restDue := (t.drums.drum.get d).restDue })
    (hold : k.hold → t.drums.hold = s.drums.hold ∧ t.drums.holdDue = s.drums.holdDue ∧ t.drums.sampled = s.drums.sampled)
    (track : ∀ d, k.track d → t.depth.get d = s.depth.get d)
    (rope : ∀ d, k.rope d → t.rope.side.get d = s.rope.side.get d)
    (line : t.rope.rx = s.rope.rx ∧ t.rope.lastSeq = s.rope.lastSeq ∧ t.rope.frame = s.rope.frame)
    (env : k.env → t.env = { s.env with degrade := t.env.degrade, overCount := t.env.overCount })
    (counters : k.counters → t.env.overCount = s.env.overCount) (degrade : k.degrade → t.env.degrade = s.env.degrade) :
    KeepsBase k s t where
  causes := causes
  first := first
  holds := holds
  lost := lost
  entry := entry
  closed hs := current.trans hs
  opened hs hp := by unfold State.phase at *; rw [current]; exact ⟨hs, hp⟩
  stopping hs := by unfold State.phase at *; rwa [current]
  count w v hw hv := by rw [current, hw] at hv; cases hv; rfl
  drum := drum
  hold := hold
  track := track
  rope := rope
  line := line
  env := env
  counters hk := .inl (counters hk)
  degrade hk := .inl (degrade hk)

/-- Work that moves neither a latch nor the open wind. -/
theorem KeepsBase.keeps (h : KeepsBase k s t) (current : t.wind.current = s.wind.current)
    (latch : t.trip.latch = s.trip.latch) : Keeps k s t :=
  ⟨h, fun _ hs => by rwa [current], fun j hs ht => by
    rw [State.latched_congr latch, hs] at ht
    contradiction⟩

/-- Work of one block that touches neither the fault record nor the port nor the open wind. -/
theorem Keeps.of_block (current : t.wind.current = s.wind.current) (trip : t.trip = s.trip) (link : t.link = s.link)
    (drum : ∀ d, k.drum d → t.drums.drum.get d =
      { s.drums.drum.get d with restDue := (t.drums.drum.get d).restDue })
    (hold : k.hold → t.drums.hold = s.drums.hold ∧ t.drums.holdDue = s.drums.holdDue ∧ t.drums.sampled = s.drums.sampled)
    (track : ∀ d, k.track d → t.depth.get d = s.depth.get d)
    (rope : ∀ d, k.rope d → t.rope.side.get d = s.rope.side.get d)
    (line : t.rope.rx = s.rope.rx ∧ t.rope.lastSeq = s.rope.lastSeq ∧ t.rope.frame = s.rope.frame)
    (env : k.env → t.env = { s.env with degrade := t.env.degrade, overCount := t.env.overCount })
    (counters : k.counters → t.env.overCount = s.env.overCount) (degrade : k.degrade → t.env.degrade = s.env.degrade) :
    Keeps k s t :=
  (KeepsBase.of_wind current (by rw [trip]; exact fun _ h => h) (by rw [trip]; exact fun _ _ h => h)
    (fun r => State.holds_congr link r) (by rw [trip]; exact fun _ h => h) (by rw [trip]; exact fun _ _ _ => Iff.rfl)
    drum hold track rope line env counters degrade).keeps current (by rw [trip])

/-- Work that touches the link port, the trip unit and the shaft table alone. -/
theorem KeepsBase.of_frame (h : t = { s with link := t.link, trip := t.trip, table := t.table })
    (causes : s.trip.causes ⊆ t.trip.causes)
    (first : ∀ j c, s.trip.latch.get j = .latched c → t.trip.latch.get j = .latched c)
    (holds : ∀ r, s.Holds r → t.Holds r)
    (lost : ∀ d, .drumLost d ∈ s.trip.active → .drumLost d ∈ t.trip.active)
    (entry : ∀ c, c.kind = .advisory → k.entry c → (c ∈ t.trip.active ↔ c ∈ s.trip.active)) : KeepsBase k s t := by
  have hdrums : t.drums = s.drums := by rw [h]
  have hrope : t.rope = s.rope := by rw [h]
  refine .of_wind (by rw [h]) causes first holds lost entry (fun _ _ => by rw [hdrums]) (fun _ => ?_)
    (fun _ _ => by rw [h]) (fun _ _ => by rw [hrope]) ?_ (fun _ => by rw [h]) (fun _ => by rw [h]) (fun _ => by rw [h])
  · rw [hdrums]; exact ⟨Eq.refl _, Eq.refl _, Eq.refl _⟩
  · rw [hrope]; exact ⟨Eq.refl _, Eq.refl _, Eq.refl _⟩

/-- Such work with the latches as they stood. -/
theorem Keeps.of_frame (h : t = { s with link := t.link, trip := t.trip, table := t.table })
    (causes : s.trip.causes ⊆ t.trip.causes) (latch : t.trip.latch = s.trip.latch) (holds : ∀ r, s.Holds r → t.Holds r)
    (lost : ∀ d, .drumLost d ∈ s.trip.active → .drumLost d ∈ t.trip.active)
    (entry : ∀ c, c.kind = .advisory → k.entry c → (c ∈ t.trip.active ↔ c ∈ s.trip.active)) : Keeps k s t :=
  (KeepsBase.of_frame h causes (by rw [latch]; exact fun _ _ hj => hj) holds lost entry).keeps (by rw [h]) latch

end

section
variable {k : Watch} (s : State)

theorem keeps_report (b : ReportBody) : Keeps k s (s.report b) := by
  refine .of_frame ?_ (by simp) (by simp) (s.report_holds b).2 (by simp) (by simp)
  conv => lhs; rw [State.report_eq]
  rw [State.report_link, State.report_trip, State.report_table]

theorem keeps_setRope (x : RopeUnit) (h : x.side = s.rope.side)
    (hline : x.rx = s.rope.rx ∧ x.lastSeq = s.rope.lastSeq ∧ x.frame = s.rope.frame) : Keeps k s (s.setRope x) :=
  .of_block rfl rfl rfl (fun _ _ => rfl) (fun _ => ⟨rfl, rfl, rfl⟩) (fun _ _ => rfl) (fun _ _ => by rw [← h]; rfl) hline
    (fun _ => rfl) (fun _ => rfl) (fun _ => rfl)

theorem keeps_setRopeSide (d : Side) (x : RopeSide) (h : ¬k.rope d) : Keeps k s (s.setRopeSide d x) := by
  refine .of_block rfl rfl rfl (fun _ _ => rfl) (fun _ => ⟨rfl, rfl, rfl⟩) (fun _ _ => rfl) (fun e he => ?_) ⟨rfl, rfl, rfl⟩
    (fun _ => rfl) (fun _ => rfl) (fun _ => rfl)
  exact PerSide.get_set_ne _ _ _ _ fun heq => h (heq ▸ he)

theorem keeps_setTable (x : ShaftTable) : Keeps k s (s.setTable x) :=
  .of_block rfl rfl rfl (fun _ _ => rfl) (fun _ => ⟨rfl, rfl, rfl⟩) (fun _ _ => rfl) (fun _ _ => rfl) ⟨rfl, rfl, rfl⟩
    (fun _ => rfl) (fun _ => rfl) (fun _ => rfl)

theorem keeps_setTrack (d : Side) (x : Track) (h : ¬k.track d) : Keeps k s (s.setTrack d x) := by
  refine .of_block rfl rfl rfl (fun _ _ => rfl) (fun _ => ⟨rfl, rfl, rfl⟩) (fun e he => ?_) (fun _ _ => rfl) ⟨rfl, rfl, rfl⟩
    (fun _ => rfl) (fun _ => rfl) (fun _ => rfl)
  rw [State.setTrack_depth]
  exact PerSide.get_set_ne _ _ _ _ fun heq => h (heq ▸ he)

theorem keeps_setDrum (d : Side) (x : Drum) (h : ¬k.drum d) : Keeps k s (s.setDrum d x) := by
  refine .of_block rfl rfl rfl (fun e he => ?_) (fun _ => ⟨rfl, rfl, rfl⟩) (fun _ _ => rfl) (fun _ _ => rfl) ⟨rfl, rfl, rfl⟩
    (fun _ => rfl) (fun _ => rfl) (fun _ => rfl)
  have hne : e ≠ d := fun heq => h (heq ▸ he)
  rw [State.setDrum_drum, PerSide.get_set_ne _ _ _ _ hne]

theorem keeps_setEnv (x : Envelope) (h : k.env → x = { s.env with degrade := x.degrade, overCount := x.overCount })
    (hover : k.counters → x.overCount = s.env.overCount) (hdegrade : k.degrade → x.degrade = s.env.degrade) :
    Keeps k s (s.setEnv x) :=
  .of_block rfl rfl rfl (fun _ _ => rfl) (fun _ => ⟨rfl, rfl, rfl⟩) (fun _ _ => rfl) (fun _ _ => rfl) ⟨rfl, rfl, rfl⟩
    h hover hdegrade

/-- The wind controller's record changed, the open wind apart. -/
theorem keeps_setWind (x : WindUnit) (h : x.current = s.wind.current) : Keeps k s (s.setWind x) :=
  .of_block h rfl rfl (fun _ _ => rfl) (fun _ => ⟨rfl, rfl, rfl⟩) (fun _ _ => rfl) (fun _ _ => rfl) ⟨rfl, rfl, rfl⟩
    (fun _ => rfl) (fun _ => rfl) (fun _ => rfl)

theorem keeps_startDegrade (v : Int) (h : ¬k.degrade) : Keeps k s (s.startDegrade v) := by
  unfold State.startDegrade
  exact .onlyIf (keeps_setEnv _ _ (fun _ => rfl) (fun _ => rfl) (fun hk => absurd hk h))

end

/-! ## The open wind -/

section
variable {k : Watch} {s : State} {w : OpenWind} (hw : s.wind.current = some w)
include hw

/-- The open wind replaced by one that stays in STOPPING, does not come back to ACCEPTED and keeps the watched counts. -/
theorem keeps_setCurrent (v : OpenWind) (hstop : w.phase = .stopping → v.phase = .stopping)
    (hwait : w.phase ≠ .accepted → v.phase ≠ .accepted) (hcount : k.count v.counts = k.count w.counts) :
    Keeps k s (s.setCurrent v) where
  causes := fun _ h => h
  first _ _ h := h
  holds _ h := h
  lost _ h := h
  entry _ _ _ := Iff.rfl
  closed h := by rw [hw] at h; contradiction
  opened _ hp := by
    unfold State.phase at *
    rw [hw] at hp
    exact ⟨nofun, fun h => hwait (fun hacc => hp (congrArg some hacc)) (Option.some.inj h)⟩
  stopping h := by
    unfold State.phase at *
    rw [hw] at h
    exact congrArg some (hstop (Option.some.inj h))
  count x y hx hy := by
    cases hw.symm.trans hx
    cases hy
    exact hcount
  drum _ _ := rfl
  hold _ := ⟨rfl, rfl, rfl⟩
  track _ _ := rfl
  rope _ _ := rfl
  line := ⟨rfl, rfl, rfl⟩
  env _ := rfl
  counters _ := .inl rfl
  degrade _ := .inl rfl
  runs _ _ := nofun
  trips j hs ht := by
    rw [show (s.setCurrent v).latched j = s.latched j from rfl, hs] at ht
    contradiction

theorem keeps_enterStopping (v : OpenWind) (why : StopCause) (hcount : k.count v.counts = k.count w.counts) :
    Keeps k s (s.enterStopping v why) := by
  unfold State.enterStopping
  refine .trans (.trans (keeps_setCurrent hw _ ?_ ?_ ?_) (keeps_report _ _)) (keeps_setRope _ _ rfl ⟨rfl, rfl, rfl⟩)
  · exact fun _ => rfl
  · exact fun _ => nofun
  · exact hcount

end

theorem keeps_countSide {k : Watch} (s : State) (d : Side) (f : SideCounts → SideCounts)
    (h : ∀ n : PerSide SideCounts, k.count (n.set d (f (n.get d))) = k.count n) : Keeps k s (s.countSide d f) := by
  unfold State.countSide
  split
  next => exact .rfl
  next w hw => exact keeps_setCurrent hw _ id id (h _)

/-! ## The trip unit -/

section
variable {k : Watch} (s : State)

theorem keeps_offerCapture (c : Cause) : Keeps k s (s.offerCapture c) := by
  have h : s.offerCapture c = s.setTrip (s.offerCapture c).trip := by
    unfold State.offerCapture
    split
    · rfl
    · split <;> rfl
  have hcauses : (s.offerCapture c).trip.causes = s.trip.causes := by rw [State.offerCapture_trip]
  have hlatch : (s.offerCapture c).trip.latch = s.trip.latch := by rw [State.offerCapture_trip]
  have hactive : (s.offerCapture c).trip.active = s.trip.active := by rw [State.offerCapture_trip]
  refine .of_frame ?_ (by rw [hcauses]; exact fun _ h => h) hlatch
    (fun r => State.holds_congr (by simp) r) (by rw [hactive]; exact fun _ h => h)
    (by rw [hactive]; exact fun _ _ _ => Iff.rfl)
  conv => lhs; rw [h]
  rw [State.offerCapture_link, State.offerCapture_table]
  rfl

theorem keeps_addCause (c : Cause) : Keeps k s (s.addCause c) :=
  .of_frame rfl (fun _ h => mem_insertCode.mpr (.inr h)) rfl (fun _ h => h) (fun _ h => h)
    (fun _ _ _ => Iff.rfl)

/-- Entries leave the active set, no DRUM LOST and no watched advisory among them. -/
theorem keeps_dropActive (p : Cause → Bool) (hlost : ∀ d, p (.drumLost d) = false)
    (hentry : ∀ c, c.kind = .advisory → k.entry c → p c = false) : Keeps k s (s.dropActive p) := by
  have hmem {c : Cause} (h : p c = false) : c ∈ (s.dropActive p).trip.active ↔ c ∈ s.trip.active := by
    simp [State.dropActive, h]
  exact .of_frame rfl (fun _ h => h) rfl (fun _ h => h) (fun d => (hmem (hlost d)).mpr)
    (fun c hc hk => hmem (hentry c hc hk))

theorem keeps_addActive (c : Cause) (h : ¬k.entry c) : Keeps k s (s.addActive c) := by
  unfold State.addActive
  split
  next => exact .rfl
  next =>
    refine .of_frame rfl (fun _ h => h) rfl (fun _ h => h) (fun d hd => List.mem_append_left _ hd)
      fun x _ hx => ?_
    show x ∈ s.trip.active ++ [c] ↔ _
    rw [List.mem_append, List.mem_singleton]
    exact or_iff_left fun heq => h (heq ▸ hx)

theorem keeps_setAdvisory (c : Cause) (h : ¬k.entry c) : Keeps k s (s.setAdvisory c) :=
  (((keeps_addCause s c).trans (keeps_addActive _ c h)).trans (keeps_offerCapture _ c)).trans (keeps_report _ _)

theorem keeps_clearAdvisory (c : Cause) (hc : c.kind = .advisory) (h : ¬k.entry c) : Keeps k s (s.clearAdvisory c) := by
  refine .trans (keeps_dropActive s _ (fun d => decide_eq_false fun heq => ?_) fun x _ hx =>
    decide_eq_false fun heq => ?_) (keeps_report _ _)
  · rw [← heq] at hc; contradiction
  · exact h (heq ▸ hx)

theorem keeps_endLimit (d : Side) : Keeps k s (s.endLimit d) := by
  refine keeps_dropActive s _ (fun _ => rfl) fun c hc _ => ?_
  cases c <;> first | rfl | contradiction

theorem keepsBase_raiseRecord (c : Cause) (hstage : c.kind ≠ .advisory) : KeepsBase k s (s.raiseRecord c) := by
  refine .of_frame ?_ ?_ (fun j x hj => ?_) (State.holds_of_pushAll (s.raiseRecord_link c)) (fun d hd => ?_)
    fun x hx _ => ?_
  · conv => lhs; rw [State.raiseRecord_frame]
    rw [State.raiseRecord_table]
  · rw [State.raiseRecord_causes]; exact fun _ h => mem_insertCode.mpr (.inr h)
  · have hlatched : s.latched j = true := by unfold State.latched; rw [hj]; rfl
    rw [State.raiseRecord_latch, if_neg, hj]
    intro hmem
    rw [(State.mem_newlyLatched.mp hmem).2] at hlatched
    contradiction
  · have hne (j : Stage) (h : Chan) : Cause.drumLost d ≠ .tripPath j h := nofun
    exact (State.mem_raiseRecord_active_iff fun j h _ => hne j h).mpr (.inl hd)
  · rw [State.mem_raiseRecord_active_iff fun j h _ heq => by rw [heq] at hx; contradiction]
    exact or_iff_left fun hnew => hstage (hnew.1 ▸ hx)

theorem keepsBase_reraise (l : List Cause) (hl : ∀ c ∈ l, c.isLimit = true) : KeepsBase k s (l.foldl State.raiseRecord s) := by
  induction l generalizing s with
  | nil => exact .rfl
  | cons c l ih =>
    have hc := hl c List.mem_cons_self
    have hkind : c.kind ≠ .advisory := by cases c <;> first | contradiction | exact (nomatch ·)
    exact (keepsBase_raiseRecord s c hkind).trans (ih _ fun x hx => hl x (List.mem_cons_of_mem c hx))

theorem keepsBase_endRecovery : KeepsBase k s s.endRecovery := by
  unfold State.endRecovery
  split
  next => exact .rfl
  next =>
    refine .trans (keeps_setWind s _ ?_).toKeepsBase (keepsBase_reraise _ _ fun c hc => (List.mem_filter.mp hc).2)
    rfl

theorem keepsBase_judgeRecoveryEnd : KeepsBase k s s.judgeRecoveryEnd := by
  rw [State.judgeRecoveryEnd_eq]
  split
  next => exact keepsBase_endRecovery s
  next => exact .rfl

end

/-! ## A closure, and a raise taken whole (R117, R121, R134) -/

/-- A wind closed out of ACCEPTED. -/
theorem keepsBase_closeWind {k : Watch} {s : State} {w : OpenWind} (hw : s.wind.current = some w)
    (hacc : w.phase = .accepted) (o : WindOutcome) : KeepsBase k s (s.closeWind o) := by
  rw [State.closeWind_eq hw]
  have hjudged : KeepsBase k (s.closed w o) ((s.closed w o).recoveryJudgedFor w.inRecovery) := by
    unfold State.recoveryJudgedFor
    split
    next => exact keepsBase_judgeRecoveryEnd _
    next => exact .rfl
  refine KeepsBase.trans ?_ hjudged
  have hheld := (s.report_holds (.wind w.number none (some o) w.destination)).2
  rw [State.closed_eq]
  exact {
    causes := fun _ h => h
    first := fun _ _ h => h
    holds := fun r hr => State.holds_congr (s := s.report (.wind w.number none (some o) w.destination))
      (by rw [State.report_link]) r (hheld r hr)
    lost := fun _ h => h
    entry := fun _ _ _ => Iff.rfl
    closed := fun _ => rfl
    opened := fun _ hp => absurd (by unfold State.phase; rw [hw, ← hacc]; rfl) hp
    stopping := fun hp => by
      unfold State.phase at hp
      rw [hw, Option.map_some, hacc] at hp
      contradiction
    count := fun _ _ _ hv => nomatch hv
    drum := fun d _ => by cases d <;> rfl
    hold := fun _ => ⟨rfl, rfl, rfl⟩
    track := fun _ _ => rfl
    rope := fun _ _ => rfl
    line := ⟨rfl, rfl, rfl⟩
    env := fun _ => rfl
    counters := fun _ => .inr ⟨rfl, rfl⟩
    degrade := fun _ => .inr ⟨rfl, rfl⟩ }

theorem keepsBase_handLatch {k : Watch} (s : State) (c : Cause) : KeepsBase k s (s.handLatch c) := by
  unfold State.handLatch
  split
  next => exact .rfl
  next w hw =>
    have hgo (v : OpenWind) := keeps_setCurrent (k := k) hw v
    dsimp only
    split
    next hacc =>
      refine KeepsBase.trans (hgo _ ?_ ?_ ?_).toKeepsBase (keepsBase_closeWind rfl ?_ _)
      · exact id
      · exact id
      · exact rfl
      · exact hacc
    next => exact (keeps_enterStopping hw _ _ (by rfl)).toKeepsBase
    next => exact (keeps_enterStopping hw _ _ (by rfl)).toKeepsBase
    next =>
    refine (hgo _ ?_ ?_ ?_).toKeepsBase
    · exact id
    · exact id
    · exact rfl

/-- A latch leaves no wind, or one in STOPPING. -/
theorem State.handLatch_phase (s : State) (c : Cause) :
    (s.handLatch c).phase = none ∨ (s.handLatch c).phase = some .stopping := by
  unfold State.handLatch State.phase
  split
  next hw => exact .inl (by rw [hw]; rfl)
  next w hw =>
    dsimp only
    split
    next =>
      obtain ⟨-, -, -, ⟨hclosed, -⟩, -⟩ := State.closeWind_closes (s := s.setCurrent { w with
        firstTrip := if w.firstTrip.isNone then some c else w.firstTrip }) rfl .tripped
      exact .inl (by rw [hclosed]; rfl)
    next => rw [State.enterStopping_eq]; exact .inr rfl
    next => rw [State.enterStopping_eq]; exact .inr rfl
    next hp => exact .inr (congrArg some hp)

/-- A raise closes a wind only with the latch it brings. -/
theorem keeps_raiseCause {k : Watch} (s : State) (c : Cause) (hc : c.kind ≠ .advisory) : Keeps k s (s.raiseCause c) := by
  have hrecord := keepsBase_raiseRecord (k := k) s c hc
  by_cases hempty : (s.newlyLatched c).isEmpty = true
  · rw [State.raiseCause, if_pos hempty]
    refine ⟨hrecord, fun _ hs => by rwa [State.raiseRecord_wind], fun j hs ht => ?_⟩
    rw [State.raiseRecord_latched, hs, Bool.false_or] at ht
    have hj : j ∈ s.newlyLatched c := State.mem_newlyLatched.mpr ⟨ht, hs⟩
    rw [List.isEmpty_iff.mp hempty] at hj
    contradiction
  · rw [State.raiseCause, if_neg hempty]
    have hhand := keepsBase_handLatch (k := k) (s.raiseRecord c) c
    refine ⟨hrecord.trans hhand, fun heq => ?_, fun _ _ _ => State.handLatch_phase _ c⟩
    obtain ⟨j, hj⟩ := List.exists_mem_of_ne_nil _ (mt List.isEmpty_iff.mpr hempty)
    obtain ⟨hreach, hclear⟩ := State.mem_newlyLatched.mp hj
    have hlatched : ((s.raiseRecord c).handLatch c).latched j = true :=
      hhand.latched (by rw [State.raiseRecord_latched, hreach, Bool.or_true])
    have hsame : ((s.raiseRecord c).handLatch c).latched j = s.latched j := by
      have hget (x : State) : x.latches.get j = x.latched j := by cases j <;> rfl
      rw [← hget, ← hget, heq]
    rw [hsame, hclear] at hlatched
    contradiction

theorem keeps_judgeLoadLost {k : Watch} (s : State) : Keeps k s s.judgeLoadLost := by
  unfold State.judgeLoadLost
  split
  next => exact keeps_setRope s _ rfl ⟨rfl, rfl, rfl⟩
  next =>
    refine .ite (keeps_setRope s _ rfl ⟨rfl, rfl, rfl⟩) (.unless ?_)
    refine .trans (keeps_setRope s _ ?_ ?_) (keeps_raiseCause _ _ (nomatch ·))
    · exact rfl
    · exact ⟨rfl, rfl, rfl⟩

/-- A raise leaves its code in the cause set and every stage it reaches latched (R134). -/
theorem State.raiseCause_raised (s : State) (c : Cause) :
    c.code ∈ (s.raiseCause c).trip.causes ∧ ∀ j, c.reaches j = true → (s.raiseCause c).latched j = true := by
  refine ⟨?_, fun j hj => State.raiseCause_latched hj⟩
  have hrecord : c.code ∈ (s.raiseRecord c).trip.causes := by
    rw [State.raiseRecord_causes]; exact mem_insertCode.mpr (.inl rfl)
  unfold State.raiseCause
  split
  next => exact hrecord
  next =>
    exact (keepsBase_handLatch (k := .nothing) _ c).causes hrecord

end Sys2Proof.Machine
end


section
/-! Braking speeds round down and stopping distances up; the wired inputs settle. -/

namespace Sys2Proof.Machine

/-! ## Braking speeds (R90, R119) -/

/-- The search for the root, one bit after another: when the root found so far is not too large and its successor at the
remaining bits is, the result is the root. -/
theorem isqrtBits_spec (bits x root : Nat) (hlo : root * root ≤ x) (hhi : x < (root + 2 ^ bits) * (root + 2 ^ bits)) :
    isqrtBits bits x root * isqrtBits bits x root ≤ x ∧
      x < (isqrtBits bits x root + 1) * (isqrtBits bits x root + 1) := by
  induction bits generalizing root with
  | zero => exact ⟨hlo, hhi⟩
  | succ bits ih =>
    rw [isqrtBits]
    split
    next h => exact ih _ h (by rwa [Nat.add_assoc, ← Nat.two_mul, ← Nat.pow_succ'])
    next h => exact ih _ hlo (Nat.lt_of_not_le h)

theorem isqrt_spec {x : Nat} (h : x < 2 ^ 64) : isqrt x * isqrt x ≤ x ∧ x < (isqrt x + 1) * (isqrt x + 1) :=
  isqrtBits_spec 32 x 0 (Nat.zero_le x) h

theorem brakingSpeed_eq (v a dist : Int) :
    brakingSpeed v a dist = ((isqrt (v * v + 2 * a * max dist 0).toNat : Nat) : Int) := by
  unfold brakingSpeed
  rw [show (if dist < 0 then 0 else dist) = max dist 0 by split <;> omega]

/-- Settles O40: the root found bit by bit, and the ceiling of a quotient. -/
theorem brakingSpeedsNeverRoundUp : Obligations.BrakingSpeedsNeverRoundUp := by
  refine ⟨fun x hx => isqrt_spec hx, fun v a dist ha hfit => ?_, fun v a ha => ?_⟩
  · have hsquare : 0 ≤ v * v := by rw [← Int.natAbs_mul_self]; exact Int.natCast_nonneg _
    have hpos : 0 ≤ v * v + 2 * a * max dist 0 :=
      Int.add_nonneg hsquare (Int.mul_nonneg (by omega) (by omega))
    obtain ⟨x, hx⟩ := Int.eq_ofNat_of_zero_le hpos
    rw [brakingSpeed_eq, hx, Int.toNat_natCast]
    obtain ⟨hlo, hhi⟩ := isqrt_spec (x := x) (by omega)
    exact ⟨Int.natCast_nonneg _, by exact_mod_cast hlo, by exact_mod_cast hhi⟩
  · have hdiv := Int.mul_ediv_add_emod (-(v * v)) (2 * a)
    have hnonneg := Int.emod_nonneg (-(v * v)) (b := 2 * a) (by omega)
    have hlt := Int.emod_lt_of_pos (-(v * v)) (b := 2 * a) (by omega)
    have hdist : stopDistance v a * (2 * a) = -(2 * a * (-(v * v) / (2 * a))) := by
      unfold stopDistance ceilDiv
      rw [Int.neg_mul, Int.mul_comm]
    rw [hdist]
    omega

/-! ## A raise that later work keeps -/

theorem State.latches_of_latched {t : State} (h : ∀ j, t.latched j = true) : t.latches = ⟨true, true, true⟩ := by
  unfold State.latches
  rw [h, h, h]

/-- Work after a raise leaves its code in the cause set and its stages latched. -/
theorem KeepsBase.raised {k : Watch} {s t : State} {c : Cause} (h : KeepsBase k (s.raiseCause c) t) :
    c.code ∈ t.trip.causes ∧ ∀ j, c.reaches j = true → t.latched j = true :=
  ⟨h.causes (s.raiseCause_raised c).1, fun j hj => h.latched ((s.raiseCause_raised c).2 j hj)⟩

theorem State.transmit_latched (s : State) : s.transmit.latched = s.latched :=
  State.latched_congr (by rw [State.transmit_trip])

/-! ## The wired inputs (R22, R35, R37, R124, R139) -/

theorem exec_drum2Held (s : State) (h : s.inputs.heldTimer = some 0) (hne : s.pins.held ≠ s.inputs.held) :
    exec .drum2HeldSettledChange s = .next s.changeHeld.transmit :=
  congrArg Host.Outcome.next (if_pos ⟨decide_eq_true h, hne⟩)

/-- Settles O50: each input by its own rule; a fall of drum-2-held with the clutch disengaged is a raise at stage 3. -/
theorem wiredInputsSettle : Obligations.WiredInputsSettle := by
  intro s
  have hsame {t u : State} {p : Prop} [Decidable p] (h : p) : (Host.Outcome.next (if p then t else u) :
      Host.Outcome State Fault Refusal) = .next t := by rw [if_pos h]
  have hother {t u : State} {p : Prop} [Decidable p] (h : ¬p) : (Host.Outcome.next (if p then t else u) :
      Host.Outcome State Fault Refusal) = .next u := by rw [if_neg h]
  have hidle {x : Timer} {a b : Bool} (h : x ≠ some 0 ∨ a = b) : ¬((ended x : Prop) ∧ a ≠ b) := by
    rintro ⟨hx, hab⟩
    exact h.elim (fun hne => hne (of_decide_eq_true hx)) hab
  refine ⟨fun l h => hsame h, fun l h => hsame h, fun l h => hsame h, fun l h => hother h, fun l h => hother h,
    fun l h => hother h, fun _ => rfl, fun _ _ => rfl, fun h => hother (hidle h), fun hended hne => ?_,
    fun h => hother (hidle h), fun hended hne => hsame ⟨decide_eq_true hended, hne⟩⟩
  refine ⟨_, exec_drum2Held s hended hne, ?_⟩
  unfold State.changeHeld
  have hlink : (s.setInputs { s.inputs with held := s.pins.held, heldTimer := none }).link = s.link := rfl
  generalize hs1 : s.setInputs { s.inputs with held := s.pins.held, heldTimer := none } = s1 at hlink
  have hinputs : s1.inputs = { s.inputs with held := s.pins.held, heldTimer := none } := by rw [← hs1]; rfl
  dsimp only
  split
  next hfall =>
    rw [Bool.and_eq_true, Bool.not_eq_true', Bool.not_eq_true'] at hfall
    obtain ⟨hheld, hclutch⟩ := hfall
    refine ⟨?_, fun _ _ => ?_, fun h => ?_⟩
    · rw [State.transmit_inputs, (work_raiseCause s1 .drum2Creep).inputs, hinputs]
    · obtain ⟨hcode, hlatched⟩ := s1.raiseCause_raised .drum2Creep
      rw [State.transmit_trip]
      exact ⟨hcode, State.latches_of_latched fun j => by
        rw [State.transmit_latched]; exact hlatched j (by cases j <;> rfl)⟩
    · simp [hheld, hclutch] at h
  next hstill =>
    refine ⟨by rw [State.transmit_inputs, hinputs], fun hheld hclutch => ?_, fun _ => ?_⟩
    · exact absurd (by rw [hheld, hclutch]; rfl) hstill
    · exact ⟨State.told_nothing hlink, by rw [State.transmit_eq, ← hs1]; rfl⟩

end Sys2Proof.Machine
end


section
/-! The ends of the store writes, the timers that close a wind, REDIRECT, and the requests of an open load. -/

namespace Sys2Proof.Machine

/-! ## The ends of the store writes (R17, R18) -/

theorem State.endStoreWrite_link (s : State) (w : StoredTable) (r : ReadBack) : (s.endStoreWrite w r).link =
    s.link.pushAll ([.table (if storeAgrees w r then .stored else .storeFailed) w.records.length w.records.length
      w.check].map s.stamped) := by
  unfold State.endStoreWrite
  rw [State.report_link]
  rfl

theorem State.endStoreWrite_ends (s : State) (w : StoredTable) (r : ReadBack) {found : List RawRecord}
    (hfound : readRecords w r = found) :
    let good := decide (tableCheck found = w.check)
    s.Told (s.endStoreWrite w r).transmit
        [.table (if good then .stored else .storeFailed) w.records.length w.records.length w.check] ∧
      (s.endStoreWrite w r).transmit = { s with
        link := (s.endStoreWrite w r).transmit.link
        table := { s.table with storeWrite := none, stored := if good then some ⟨found, w.check⟩ else none } } := by
  subst hfound
  refine ⟨State.told_of_link (s.endStoreWrite_link w r), ?_⟩
  rw [State.transmit_eq]
  unfold State.endStoreWrite
  rw [State.report_eq]
  rfl

/-- Settles O31: with a write in flight, by what is read back and by what is pending. -/
theorem storeWritesEnd : Obligations.StoreWritesEnd := by
  refine ⟨fun r s hw => ?_, fun agrees s hw => ?_, fun r s w hw => ?_, fun agrees s w hw => ⟨fun q hq => ?_, fun hq => ?_⟩⟩
  · show Host.Outcome.next _ = _
    rw [hw]
  · show Host.Outcome.next _ = _
    rw [hw]
  · have hexec : exec (.tableStoreWriteEnd r) s = .next (s.endStoreWrite w r).transmit := by
      show Host.Outcome.next _ = _
      rw [hw]
    exact ⟨_, hexec, s.endStoreWrite_ends w r (by cases r <;> rfl)⟩
  · show Host.Outcome.next _ = _
    rw [hw]
    simp only [State.endParkWrite, hq]
    rfl
  · show Host.Outcome.next _ = _
    rw [hw]
    simp only [State.endParkWrite, hq]
    rfl

/-! ## The timers that close a wind (R114, R116) -/

/-- An event that closes the wind and nothing more. -/
theorem State.closeWind_told {s : State} {w : OpenWind} (hw : s.wind.current = some w) (o : WindOutcome) :
    (∃ more, s.Told (s.closeWind o).transmit (.wind w.number none (some o) w.destination :: more) ∧
      s.EndsRecovery (s.closeWind o).transmit more) ∧
      s.Closes (s.closeWind o).transmit w o ∧ s.ParkRequested (s.closeWind o).transmit ∧
      (s.closeWind o).transmit = { s with
        link := (s.closeWind o).transmit.link, table := (s.closeWind o).transmit.table
        wind := (s.closeWind o).transmit.wind, drums := (s.closeWind o).transmit.drums
        env := (s.closeWind o).transmit.env, rope := (s.closeWind o).transmit.rope
        trip := (s.closeWind o).transmit.trip } := by
  obtain ⟨more, hlink, hends, hcloses, hpark, hframe⟩ := State.closeWind_closes hw o
  have htold := State.told_of_link hlink
  rw [State.transmit_eq] at htold ⊢
  refine ⟨⟨more, htold, hends⟩, hcloses, hpark, ?_⟩
  conv => lhs; rw [hframe]
  rfl

/-- Settles O23: each timer's own condition, and then one closure. -/
theorem windTimersCloseTheWind : Obligations.WindTimersCloseTheWind := by
  refine ⟨fun s h => ?_, fun s h => ?_, fun s w hw => ⟨fun hphase hstart => ?_, fun hdwell => ?_⟩⟩
  · show Host.Outcome.next _ = _
    split
    next w hw =>
      have hne : w.start ≠ some 0 := by unfold State.startTimer at h; rwa [hw] at h
      rw [if_neg fun hc => hne (of_decide_eq_true hc.2)]
    next => rfl
  · show Host.Outcome.next _ = _
    split
    next w hw =>
      have hne : w.dwell ≠ some 0 := by unfold State.dwellTimer at h; rwa [hw] at h
      rw [ite_ended_of_ne hne]
    next => rfl
  · have hexec : exec .startTimerExpiry s = .next (s.closeWind .lapsed).transmit := by
      show Host.Outcome.next _ = _
      rw [hw]
      exact congrArg Host.Outcome.next (if_pos ⟨hphase, decide_eq_true hstart⟩)
    exact ⟨_, hexec, State.closeWind_told hw .lapsed⟩
  · have hexec : exec .dwellTimerExpiry s = .next (s.closeWind (s.dwellOutcome w)).transmit := by
      show Host.Outcome.next _ = _
      rw [hw]
      exact congrArg Host.Outcome.next (if_pos (decide_eq_true hdwell))
    have houtcome : s.dwellOutcome w = match w.stop with
        | some .trip => .tripped
        | some .abort => .aborted
        | none => if mag (w.target - (s.depth.get w.lead).D) ≤ s.winder.landingTol then .landed else .short := by
      unfold State.dwellOutcome State.hasLanded
      cases w.stop with
      | none => simp only [decide_eq_true_eq]
      | some why => cases why <;> rfl
    exact ⟨_, hexec, houtcome ▸ State.closeWind_told hw (s.dwellOutcome w)⟩

/-! ## REDIRECT (R118) -/

theorem exec_redirect (tag : Byte) (body : List Byte) (s : State) :
    exec (.redirect tag body) s = .next (s.request 0x03 tag 1 body fun x => x.ownRedirect body) := rfl

theorem State.ownRedirect_of_idle {s : State} (h : s.wind.current = none) (body : List Byte) :
    s.ownRedirect body = s.deny .noWind := by
  unfold State.ownRedirect
  rw [h]

/-- The checks of R118 for a wind that is open, in their order. -/
def State.redirectChecks (s : State) (w : OpenWind) (station : Nat) : List (Bool × Result) :=
  let stop := s.stopDepth station w.lead
  let waiting := decide (w.phase = .accepted)
  [(decide (w.phase = .stopping), .stopping),
   (stop.isNone, .noStation),
   (stop.any fun x => s.recoveryBars w.mode w.lead x, .recovery),
   (waiting && stop.any fun x => s.alreadyThere w.lead x, .alreadyThere),
   (!waiting && stop.any fun x => decide (s.newDistance w x ≤ 0), .tooLate),
   (!waiting && stop.any fun x => decide (approachTerm (s.mode w.mode) (s.newDistance w x) < mag (s.speed w.lead)),
     .tooLate)]

section
variable {s : State} {w : OpenWind} (hw : s.wind.current = some w) {station : Byte}
include hw

/-- What the checks make of a REDIRECT: the first that fails refuses it, and when all pass the wind is sent to the target. -/
theorem State.ownRedirect_eq : s.ownRedirect [station] =
    (firstRefusal (s.redirectChecks w station.toNat)).elim
      (if w.phase = .accepted then
        (s.redirectWaiting w station.toNat ((s.stopDepth station.toNat w.lead).getD 0)).done []
      else (s.redirectUnderWay w station.toNat ((s.stopDepth station.toNat w.lead).getD 0)).done []) s.deny := by
  have hbyte : byteAt [station] 0 = station.toNat := rfl
  simp only [State.ownRedirect, hw, hbyte, State.redirectTo, State.redirectChecks, firstRefusal_cons_elim,
    decide_eq_true_eq]
  split
  next => rfl
  next =>
    cases s.stopDepth station.toNat w.lead with
    | none => rfl
    | some target =>
      simp only [Option.isNone_some, Option.any_some, Option.getD_some, Bool.false_eq_true, if_false, State.isTooLate]
      split
      next => rfl
      next =>
        by_cases hacc : w.phase = .accepted
        · simp only [hacc, decide_true, Bool.true_and, Bool.not_true, Bool.false_and, Bool.false_eq_true, if_false]
          rfl
        · simp only [hacc, decide_false, Bool.false_and, Bool.not_false, Bool.true_and, Bool.false_eq_true, if_false,
            Bool.or_eq_true]
          (repeat' split) <;> grind [firstRefusal]

theorem State.ownRedirect_of_refusal {why : Result} (h : firstRefusal (s.redirectChecks w station.toNat) = some why) :
    s.ownRedirect [station] = s.deny why := by
  rw [State.ownRedirect_eq hw, h]
  rfl

end

/-- Settles O21: the checks in their order, then the redirection of each phase. -/
theorem redirectIsJudgedByThePhase : Obligations.RedirectIsJudgedByThePhase := by
  intro tag station s hs
  have hexec := exec_redirect tag [station] s
  refine ⟨fun hidle => ?_, fun w hw => ?_⟩
  · exact State.request_denied hexec hs rfl rfl fun _ => State.ownRedirect_of_idle (s := s.arrived _) hidle _
  intro stop depth ahead waiting p refusal
  have hchecks (q) : firstRefusal ((s.arrived q).redirectChecks w station.toNat) = refusal := rfl
  refine ⟨fun why hwhy => ?_, fun target hpassed hstop => ⟨fun hacc hne => ?_, fun hway => ?_⟩⟩
  · exact State.request_denied hexec hs rfl rfl fun q =>
      State.ownRedirect_of_refusal (s := s.arrived q) hw ((hchecks q).trans hwhy)
  all_goals
    obtain ⟨q, hq⟩ := s.frameArrives_eq_arrived (n := 0x03) rfl
    have howner := State.ownRedirect_eq (s := s.arrived q) hw (station := station)
    have hdepth : (s.arrived q).stopDepth station.toNat w.lead = some target := hstop
    rw [hchecks, hpassed, hdepth, Option.getD_some] at howner
  · refine (State.request_served hexec hs rfl rfl hq (howner.trans (if_pos hacc))
      (bodies := [.wind w.number (some .accepted) none station.toNat]) ?_).imp ?_
    · unfold State.redirectWaiting
      rw [State.report_link]
      rfl
    rintro t ⟨hserved, hport, ht⟩
    refine ⟨hserved, hport, ?_⟩
    rw [ht]
    unfold State.redirectWaiting
    rw [State.report_eq, State.intended_of_ne (s := s.arrived q) hne]
    rfl
  · refine (State.request_served hexec hs rfl rfl hq (howner.trans (if_neg hway))
      (bodies := [.wind w.number (some ((s.arrived q).redirectedPhase w target)) none station.toNat]) ?_).imp ?_
    · unfold State.redirectUnderWay
      rw [State.report_link]
      rfl
    rintro t ⟨hserved, hport, ht⟩
    refine ⟨hserved, hport, ?_⟩
    rw [ht]
    unfold State.redirectUnderWay
    rw [State.report_eq]
    rfl

end Sys2Proof.Machine
end


section
/-! The requests of an open load: TABLE-RECORD (R11, R164) and TABLE-CLOSE (R13, R14, R15). -/

namespace Sys2Proof.Machine

/-! ## A request that keeps the load, answered -/

/-- An owner that leaves a port with its own load and some reports created on it: the request is answered, and every
other block is as the owner leaves it. -/
theorem Owned.answered_over {s : State} {o : Owned} {code tag : Byte} {bodies : List ReportBody} {p : LinkPort}
    (hk : keepsLoad code.toNat = true) (h : o.state.link = p.pushAll (bodies.map s.stamped))
    (hp : p = { (s.frameArrives code.toNat).link with load := p.load, restartDue := p.restartDue }) :
    s.Answered (o.finish code tag) ⟨code, tag, o.result, o.body⟩ ∧ s.Reported (o.finish code tag) bodies ∧
      (o.finish code tag).link.load = p.load ∧ (o.finish code tag).link.restartDue = p.restartDue ∧
      o.finish code tag = { o.state with link := (o.finish code tag).link } := by
  obtain ⟨hanswered, hreported⟩ := Owned.answered (tag := tag) hk h hp
  exact ⟨hanswered, hreported, by simp [h], by simp [h], Owned.finish_eq o code tag⟩

/-- The port of a request that keeps the load, as its owner finds it. -/
def LinkPort.valid (p : LinkPort) : LinkPort :=
  { p with rx := .hunting, silence := some Config.silenceMs, status := .live }

theorem State.frameArrives_valid (s : State) {n : Nat} (h : keepsLoad n = true) :
    s.frameArrives n = s.setLink s.link.valid := s.frameArrives_kept n h

section
variable {s : State} {l : TableLoad} (hl : s.link.load = some l) {code : Byte} (hk : keepsLoad code.toNat = true)
  (tag : Byte)
include hl hk

/-- A refusal that abandons the load (R11, R12). -/
theorem State.abandoned_finish (why : Result) :
    let t := ((s.frameArrives code.toNat).abandonLoad.deny why).finish code tag
    s.Answered t ⟨code, tag, why, []⟩ ∧ s.Reported t [.table .abandoned s.table.staged.length l.declared l.check] ∧
      s.PortKept t ∧ t = { s with link := t.link, table := { s.table with staged := [] } } := by
  have hstate : (s.frameArrives code.toNat).abandonLoad = { s with
      link := LinkPort.push { s.link.valid with load := none }
        (s.stamped (.table .abandoned s.table.staged.length l.declared l.check))
      table := { s.table with staged := [] } } := by
    rw [s.frameArrives_valid hk, State.abandonLoad_of_some (s := s.setLink s.link.valid) (l := l) hl,
      State.report_eq]
    rfl
  obtain ⟨hanswered, hreported, hload, hdue, ht⟩ := Owned.answered_over (s := s) (tag := tag)
    (o := (s.frameArrives code.toNat).abandonLoad.deny why)
    (bodies := [.table .abandoned s.table.staged.length l.declared l.check]) (p := { s.link.valid with load := none }) hk
    (by rw [State.deny, hstate]; rfl) (by rw [s.frameArrives_valid hk]; rfl)
  refine ⟨hanswered, hreported, ⟨hload, hdue⟩, ?_⟩
  rw [State.deny, hstate] at ht ⊢
  exact ht

omit hl in
/-- An owner that closes the load without a report. -/
theorem State.closed_finish (why : Result) (body : List Byte) :
    let t := Owned.finish ⟨(s.frameArrives code.toNat).closeLoad, why, body⟩ code tag
    s.Answered t ⟨code, tag, why, body⟩ ∧ s.Reported t [] ∧
      s.PortKept t ∧ t = { s with link := t.link, table := { s.table with staged := [] } } := by
  obtain ⟨hanswered, hreported, hload, hdue, ht⟩ := Owned.answered_over (s := s) (tag := tag)
    (o := ⟨(s.frameArrives code.toNat).closeLoad, why, body⟩)
    (bodies := []) (p := { s.link.valid with load := none }) hk
    (by rw [s.frameArrives_valid hk]; rfl) (by rw [s.frameArrives_valid hk]; rfl)
  refine ⟨hanswered, hreported, ⟨hload, hdue⟩, ?_⟩
  rw [s.frameArrives_valid hk] at ht ⊢
  exact ht

end

/-! ## TABLE-RECORD (R11) -/

theorem exec_tableRecord {s : State} (hs : s.ready) (tag : Byte) (body : List Byte) :
    exec (.tableRecord tag body) s = .next (((s.frameArrives 0x09).arriveRecord body).finish 0x09 tag) :=
  congrArg Host.Outcome.next (if_pos (receives_of_listening hs.1))

theorem State.arriveRecord_of_short {s : State} {body : List Byte} (h : body.length < 2) :
    s.arriveRecord body = s.failRecord .length := if_pos h

theorem State.arriveRecord_of_whole {s : State} (hdue : s.link.restartDue = false) (index kind : Byte)
    (body : List Byte) : s.arriveRecord (index :: kind :: body) = s.ownTableRecord (index :: kind :: body) := by
  unfold State.arriveRecord
  rw [if_neg (by simp), hdue, if_neg Bool.false_ne_true]

theorem recordFault_eq_firstRefusal (l : TableLoad) (index : Nat) (kind : Byte) (body : List Byte) :
    recordFault l index ⟨kind, body⟩ = firstRefusal
      [(decide (index ≠ l.next ∨ l.declared ≤ l.next), .sequence),
       ((recordKindOf kind).isNone, .range),
       ((recordKindOf kind).any fun k => decide (body.length ≠ bodyLength k), .length)] := by
  simp only [recordFault, firstRefusal, decide_eq_true_eq]
  cases recordKindOf kind with
  | none => rfl
  | some k => simp only [Option.isNone_some, Option.any_some, Bool.false_eq_true, if_false, decide_eq_true_eq]

theorem State.ownTableRecord_of_load {s : State} {l : TableLoad} (hl : s.link.load = some l) (index kind : Byte)
    (body : List Byte) : s.ownTableRecord (index :: kind :: body) =
      (recordFault l index.toNat ⟨kind, body⟩).elim ((s.stageRecord l ⟨kind, body⟩).done [byteOf (l.next + 1)])
        s.failRecord := by
  have hbyte : byteAt (index :: kind :: body) 0 = index.toNat := rfl
  have hrecord : (⟨(index :: kind :: body).getD 1 0, (index :: kind :: body).drop 2⟩ : RawRecord) = ⟨kind, body⟩ := rfl
  simp only [State.ownTableRecord, hl, hbyte, hrecord]
  cases recordFault l index.toNat ⟨kind, body⟩ <;> rfl

/-- Settles O29: with no load open by the body's length alone, with one open by the record's failure, if it has one. -/
theorem tableRecordStagesOrEndsTheLoad : Obligations.TableRecordStagesOrEndsTheLoad := by
  intro tag index kind body s hs
  have hk : keepsLoad (0x09 : Byte).toNat = true := rfl
  have hvalid : s.frameArrives 0x09 = s.setLink s.link.valid := s.frameArrives_valid hk
  have hdue : (s.frameArrives 0x09).link.restartDue = false := by rw [hvalid]; exact hs.2
  have hload : (s.frameArrives 0x09).link.load = s.link.load := by rw [hvalid]; rfl
  have hwhole := (s.frameArrives 0x09).arriveRecord_of_whole hdue index kind body
  refine ⟨fun hnone => ⟨fun b hb => ?_, ?_⟩, fun l hl => ?_⟩
  · refine ⟨_, exec_tableRecord hs tag b, ?_⟩
    have hkept : (s.frameArrives 0x09).abandonLoad = s.frameArrives 0x09 := by
      unfold State.abandonLoad
      rw [hload, hnone]
    rw [State.arriveRecord_of_short hb, State.failRecord, hkept]
    exact Owned.repliedWithLoad hk rfl
  · refine ⟨_, exec_tableRecord hs tag _, ?_⟩
    have howner : (s.frameArrives 0x09).ownTableRecord (index :: kind :: body) =
        (s.frameArrives 0x09).deny .sequence := by
      unfold State.ownTableRecord
      rw [hload, hnone]
    rw [hwhole, howner]
    exact Owned.repliedWithLoad hk rfl
  · intro abandoned refusal
    have howner := State.ownTableRecord_of_load (hload.trans hl) index kind body
    rw [recordFault_eq_firstRefusal] at howner
    change _ = Option.elim refusal _ _ at howner
    refine ⟨fun b hb => ⟨_, exec_tableRecord hs tag b, ?_⟩, fun why hwhy => ⟨_, exec_tableRecord hs tag _, ?_⟩,
      fun hpassed => ⟨_, exec_tableRecord hs tag _, ?_⟩⟩
    · rw [State.arriveRecord_of_short hb]
      exact State.abandoned_finish hl hk tag .length
    · rw [hwhole, howner, hwhy]
      exact State.abandoned_finish hl hk tag why
    · rw [hwhole, howner, hpassed]
      obtain ⟨hanswered, hreported, hl', hd', ht⟩ := Owned.answered_over (s := s) (tag := tag) (code := 0x09)
        (o := ((s.frameArrives 0x09).stageRecord l ⟨kind, body⟩).done [byteOf (l.next + 1)])
        (bodies := []) (p := { s.link.valid with load := some { l with next := l.next + 1 } }) hk
        (by rw [hvalid]; rfl)
        (by rw [s.frameArrives_valid hk]; rfl)
      refine ⟨hanswered, hreported, hl', hd'.trans hs.2, ?_⟩
      rw [hvalid] at ht ⊢
      exact ht

/-! ## TABLE-CLOSE (R13, R14, R15) -/

theorem exec_tableClose {s : State} (hs : s.ready) (tag : Byte) :
    exec (.tableClose tag []) s = .next ((s.frameArrives 0x0A).ownTableClose.finish 0x0A tag) := by
  have hdue : (s.frameArrives 0x0A).link.restartDue = false := by rw [s.frameArrives_valid rfl]; exact hs.2
  show Host.Outcome.next (s.request 0x0A tag 0 [] State.ownTableClose) = _
  unfold State.request
  rw [receives_of_listening hs.1]
  dsimp only
  rw [show (s.frameArrives (0x0A : Byte).toNat).link.restartDue = false from hdue]
  rfl

theorem Side.filterMap_both {α : Type} (f : Side → Option α) :
    [Side.one, .two].filterMap f = (f .one).toList ++ (f .two).toList := by
  cases h1 : f .one <;> cases h2 : f .two <;> simp [h1, h2]

/-- The LOCK reports of an activation, side after side. -/
theorem State.activationReports_eq (s : State) (records : List RawRecord) :
    s.activationReports records = [Side.one, .two].filterMap fun d =>
      if (s.depth.get d).lock = .unreferenced then none
      else some (.lock d (s.depth.get d).lock .unreferenced
        (clamp (-(effective records).sup.authority) (effective records).sup.authority (s.depth.get d).K)
        (effective records).sup.search 0 (s.depth.get d).searches none) := by
  have hone (d : Side) (b : ReportBody) : (if (s.depth.get d).lock = .unreferenced then [] else [b]) =
      (if (s.depth.get d).lock = .unreferenced then none else some b).toList := by split <;> rfl
  rw [Side.filterMap_both, ← hone .one, ← hone .two]
  rfl

/-- The end of recovery touches the link port, the wind controller's recovery and the trip unit. -/
theorem State.endRecovery_frame (s : State) : s.endRecovery = { s with
    link := s.endRecovery.link, wind := { s.wind with recovery := none }, trip := s.endRecovery.trip } := by
  obtain ⟨-, -, -, hwind⟩ := s.endRecovery_ends
  calc s.endRecovery = { s.endRecovery with link := s.endRecovery.link } := rfl
    _ = _ := by
      dsimp only
      rw [hwind, State.endRecovery_pending, State.endRecovery_pins, State.endRecovery_clock, State.endRecovery_table,
        State.endRecovery_drums, State.endRecovery_inputs, State.endRecovery_rope, State.endRecovery_depth,
        State.endRecovery_env, State.endRecovery_proof]

/-- Settles O30: the failures in their order, then the activation block by block and the end of recovery. -/
theorem tableCloseValidatesAndActivates : Obligations.TableCloseValidatesAndActivates := by
  intro tag s hs
  have hk : keepsLoad (0x0A : Byte).toNat = true := rfl
  have hvalid : s.frameArrives 0x0A = s.setLink s.link.valid := s.frameArrives_valid hk
  have hload : (s.frameArrives 0x0A).link.load = s.link.load := by rw [hvalid]; rfl
  have hrest : (s.frameArrives 0x0A).bothStationary = s.bothStationary := by rw [hvalid]; rfl
  have hstaged : (s.frameArrives 0x0A).table.staged = s.table.staged := by rw [hvalid]; rfl
  have hexec := exec_tableClose hs tag
  refine ⟨fun hnone => ⟨_, hexec, ?_⟩, fun l hl => ⟨fun hmoves => ⟨_, hexec, ?_⟩, fun f hstill hf => ⟨_, hexec, ?_⟩,
    fun hstill hsound => ⟨_, hexec, ?_⟩⟩⟩
  · have howner : (s.frameArrives 0x0A).ownTableClose = (s.frameArrives 0x0A).deny .sequence := by
      unfold State.ownTableClose
      rw [hload, hnone]
    rw [howner]
    exact Owned.repliedWithLoad hk rfl
  · have howner : (s.frameArrives 0x0A).ownTableClose = (s.frameArrives 0x0A).abandonLoad.deny .moving := by
      simp only [State.ownTableClose, hload, hl, hrest, hmoves, Bool.not_false, if_true]
    rw [howner]
    exact State.abandoned_finish hl hk tag .moving
  · have howner : (s.frameArrives 0x0A).ownTableClose = ⟨(s.frameArrives 0x0A).closeLoad, .invalid, f.bytes⟩ := by
      simp only [State.ownTableClose, hload, hl, hrest, hstill, hstaged, hf, Bool.not_true, Bool.false_eq_true, if_false]
    rw [howner]
    exact State.closed_finish hk tag .invalid f.bytes
  · have howner : (s.frameArrives 0x0A).ownTableClose = ((s.frameArrives 0x0A).activate l.check).done
        (be16 (BitVec.ofNat 16 (tableClamps s.table.staged).sum)) := by
      simp only [State.ownTableClose, hload, hl, hrest, hstill, hstaged, hsound, Bool.not_true, Bool.false_eq_true,
        if_false, clampCount]
    rw [howner, hvalid, State.activate_eq]
    obtain ⟨more, hends, hlink, hwind⟩ := ((s.setLink s.link.valid).activated l.check).endRecovery_ends
    have hframe := ((s.setLink s.link.valid).activated l.check).endRecovery_frame
    generalize ((s.setLink s.link.valid).activated l.check).endRecovery = u at hends hlink hwind hframe
    have hpushed : u.link = LinkPort.pushAll { s.link.valid with load := none }
        ((s.activationReports s.table.staged ++ more).map s.stamped) := by
      rw [hlink, List.map_append, LinkPort.pushAll_append]
      rfl
    obtain ⟨hanswered, hreported, hl', hd', ht⟩ := Owned.answered_over (s := s) (tag := tag) (code := 0x0A)
      (o := u.done (be16 (BitVec.ofNat 16 (tableClamps s.table.staged).sum))) hk hpushed
      (by rw [s.frameArrives_valid hk]; rfl)
    rw [State.activationReports_eq] at hreported
    generalize (u.done (be16 (BitVec.ofNat 16 (tableClamps s.table.staged).sum))).finish 0x0A tag = t at *
    change t = { u with link := t.link } at ht
    have htrip : t.trip = u.trip := by rw [ht]
    have hraised : u.wind.recovery = none := by rw [hwind]
    obtain ⟨hquiet, hanew⟩ := hends
    rw [hraised] at hquiet hanew
    rw [hframe] at ht
    refine ⟨hanswered, ⟨hl', hd'⟩, by rw [ht]; rfl, fun d => ?_, by rw [ht]; rfl, fun d => ?_, fun hnone => ?_,
      fun hsome => ⟨more, hreported, ?_⟩, by rw [ht], by rw [ht]; rfl, by rw [ht]; rfl, fun hnone => ?_, by rw [ht]; rfl,
      by rw [ht]; rfl, by rw [ht]; rfl, by rw [ht]; rfl⟩
    · rw [ht]; cases d <;> exact ⟨rfl, rfl, rfl⟩
    · rw [ht]; cases d <;> rfl
    · obtain ⟨hmore, -⟩ := hquiet hnone.symm
      rw [hmore, List.append_nil] at hreported
      exact hreported
    · have hanew := hanew fun h => hsome h.symm
      unfold State.LimitsRaisedAnew State.latches State.latched at *
      rw [htrip]
      exact hanew
    · obtain ⟨-, hsame⟩ := hquiet hnone.symm
      rw [htrip, hsame]
      rfl

end Sys2Proof.Machine
end


section
/-! Events that raise a cause: link silence (R144), the expiry of a mismatch timer (R132), PROOF (R151), and a settled
change of the clutch (R122). -/

namespace Sys2Proof.Machine

/-! ## A latch handed to the wind controller, by phase (R121) -/

/-- The open wind as a latch leaves its record: the first cause stays (R127). -/
def OpenWind.tripped (w : OpenWind) (c : Cause) : OpenWind :=
  { w with firstTrip := if w.firstTrip.isNone then some c else w.firstTrip }

section
variable {s : State} {w : OpenWind} (hw : s.wind.current = some w) (c : Cause)
include hw

theorem State.handLatch_of_some : s.handLatch c = match w.phase with
    | .accepted => (s.setCurrent (w.tripped c)).closeWind .tripped
    | .running => s.enterStopping (w.tripped c) .trip
    | .creep => s.enterStopping (w.tripped c) .trip
    | .stopping => s.setCurrent { w.tripped c with stop := some .trip } := by
  unfold State.handLatch
  rw [hw]
  rfl

theorem State.handLatch_of_accepted (h : w.phase = .accepted) :
    s.handLatch c = (s.setCurrent (w.tripped c)).closeWind .tripped := by
  rw [State.handLatch_of_some hw, h]

theorem State.handLatch_of_underWay (h : w.phase = .running ∨ w.phase = .creep) :
    s.handLatch c = s.enterStopping (w.tripped c) .trip := by
  rcases h with h | h <;> rw [State.handLatch_of_some hw, h]

theorem State.handLatch_of_stopping (h : w.phase = .stopping) :
    s.handLatch c = s.setCurrent { w.tripped c with stop := some .trip } := by
  rw [State.handLatch_of_some hw, h]

end

theorem State.handLatch_of_none {s : State} (h : s.wind.current = none) (c : Cause) : s.handLatch c = s := by
  unfold State.handLatch
  rw [h]

theorem State.raiseCause_of_fresh {s : State} {c : Cause} (h : s.newlyLatched c ≠ []) :
    s.raiseCause c = (s.raiseRecord c).handLatch c := if_neg (mt List.isEmpty_iff.mp h)

theorem State.raiseCause_of_latched {s : State} {c : Cause} (h : s.newlyLatched c = []) :
    s.raiseCause c = s.raiseRecord c := if_pos (List.isEmpty_iff.mpr h)

/-- With no wind open a raise has nothing to hand over. -/
theorem State.raiseCause_of_none {s : State} (h : s.wind.current = none) (c : Cause) :
    s.raiseCause c = s.raiseRecord c := by
  unfold State.raiseCause
  split
  next => rfl
  next => exact State.handLatch_of_none (by rw [State.raiseRecord_wind]; exact h) c

/-- A wind that is no recovery wind, closed by a latch: its one report, and a trip unit as it was. -/
theorem State.handLatch_of_unrecovering {s : State} {w : OpenWind} (hw : s.wind.current = some w) (c : Cause)
    (h : w.phase = .accepted) (hout : w.inRecovery = false) :
    (s.handLatch c).trip = s.trip ∧
      (s.handLatch c).link = s.link.push (s.stamped (.wind w.number none (some .tripped) w.destination)) := by
  have hclosed : (s.setCurrent (w.tripped c)).closeWind .tripped = (s.setCurrent (w.tripped c)).closed (w.tripped c)
      .tripped := by
    rw [State.closeWind_eq (w := w.tripped c) (Eq.refl _), show (w.tripped c).inRecovery = false from hout]
    rfl
  rw [State.handLatch_of_accepted hw c h, hclosed, State.closed_eq]
  exact ⟨rfl, rfl⟩

/-! ## Link silence (R144) -/

theorem exec_linkSilence {s : State} (h : s.link.silence = some 0) :
    exec .linkSilenceExpiry s = .next s.fallSilent.transmit :=
  congrArg Host.Outcome.next (if_pos (decide_eq_true h))

/-- The link port at the expiry of the silence timer. -/
def State.silenced (s : State) : State := s.setLink { s.link with silence := none, status := .silent }

/-- The silence timer and the link status are no part of what is on its way. -/
theorem State.reported_of_silenced {s t : State} {bodies : List ReportBody} (h : s.silenced.Reported t bodies) :
    s.Reported t bodies := h

theorem State.fallSilent_eq (s : State) :
    s.fallSilent = if s.underWay then s.silenced.raiseCause .linkSilent else s.silenced := rfl

theorem State.underWay_iff {s : State} {w : OpenWind} (hw : s.wind.current = some w) :
    s.underWay = true ↔ w.phase ≠ .stopping := by
  unfold State.underWay State.phase
  rw [hw]
  cases hp : w.phase <;> simp [hp]

theorem State.fallSilent_work (s : State) : Work s.silenced s.fallSilent := by
  rw [State.fallSilent_eq]
  exact .onlyIf (work_raiseCause _ _)

/-- A wind under way stands over clear latches, and no proof runs beside it (R121, R151). -/
theorem State.Coherent.clear_of_underWay {s : State} (hs : s.Coherent) {w : OpenWind} (hw : s.wind.current = some w)
    (hphase : w.phase ≠ .stopping) : (∀ k, s.latched k = false) ∧ s.inTripTest = false := by
  constructor
  · have hany : s.anyLatched = false := eq_false_of_ne_true fun h => hphase (hs.winds h w hw)
    unfold State.anyLatched at hany
    simp only [Bool.or_eq_false_iff] at hany
    obtain ⟨⟨h1, h2⟩, h3⟩ := hany
    intro k
    cases k <;> assumption
  · refine eq_false_of_ne_true fun h => ?_
    have hnone := (hs.proof (State.isProving_of_inTripTest h)).2
    rw [hw] at hnone
    contradiction

/-- LINK SILENT raised over clear latches: stage 1 alone, with one TRIP report. -/
theorem State.raiseRecord_silent {s : State} (hclear : ∀ k, s.latched k = false) :
    s.newlyLatched .linkSilent = [.s1] ∧ (s.raiseRecord .linkSilent).latches = ⟨true, false, false⟩ ∧
      (s.raiseRecord .linkSilent).link = s.link.push (s.stamped (.tripLatch .s1 .linkSilent ⟨true, false, false⟩)) := by
  have hnew : s.newlyLatched .linkSilent = [.s1] := by
    unfold State.newlyLatched
    simp only [hclear]
    rfl
  have hlatches : (s.raiseRecord .linkSilent).latches = ⟨true, false, false⟩ := by
    simp only [State.latches, State.raiseRecord_latched, hclear]
    rfl
  refine ⟨hnew, hlatches, ?_⟩
  rw [State.raiseRecord_link, hnew, hlatches]
  rfl

/-- Settles O10: nothing is raised in IDLE and STOPPING; else the raise is taken over clear latches. -/
theorem silenceTripsOnlyAWindUnderWay : Obligations.SilenceTripsOnlyAWindUnderWay := by
  refine ⟨fun s h => congrArg Host.Outcome.next (ite_ended_of_ne h _ _), fun s hended hs => ?_⟩
  have hwork := s.fallSilent_work
  refine ⟨_, exec_linkSilence hended, ?_, ?_, ?_, ?_, fun hidle => ?_, fun w hw hphase => ?_, fun w hw hphase => ?_,
    fun w hw hphase => ?_⟩
  · rw [State.transmit_link, LinkPort.serve_eq]; exact hwork.link.silence
  · rw [State.transmit_link, LinkPort.serve_eq]; exact hwork.link.status
  · rw [State.transmit_repliesOut]
    unfold State.repliesOut
    rw [hwork.link.tx, hwork.link.replies]
    rfl
  · rw [State.transmit_link, LinkPort.serve_eq]; exact hwork.load
  · have hquiet : s.underWay = false := by
      unfold State.underWay
      rcases hidle with h | h <;> rw [h] <;> rfl
    rw [State.fallSilent_eq, hquiet]
    exact ⟨State.reported_of_silenced (State.Reported.transmit (State.reported_of_link (bodies := []) rfl)),
      by rw [State.transmit_eq]; rfl⟩
  all_goals
    have hnot : w.phase ≠ .stopping := by
      first | exact hphase | (intro h; rw [h] at hphase; simp at hphase)
    obtain ⟨hclear, htest⟩ := hs.clear_of_underWay hw hnot
    obtain ⟨hnew, hlatches, hlink⟩ := State.raiseRecord_silent (s := s.silenced) hclear
    have hraise : s.fallSilent = (s.silenced.raiseRecord .linkSilent).handLatch .linkSilent := by
      rw [State.fallSilent_eq, if_pos ((State.underWay_iff hw).mpr hnot)]
      exact State.raiseCause_of_fresh (by rw [hnew]; exact List.cons_ne_nil _ _)
    have hw' : (s.silenced.raiseRecord .linkSilent).wind.current = some w := by
      rw [State.raiseRecord_wind]; exact hw
    have hpushed (b : ReportBody) : (s.silenced.raiseRecord .linkSilent).link.push
        ((s.silenced.raiseRecord .linkSilent).stamped b) = s.silenced.link.pushAll
          ([.tripLatch .s1 .linkSilent ⟨true, false, false⟩, b].map s.silenced.stamped) := by
      rw [State.stamped_congr (State.raiseRecord_clock ..), hlink]
      rfl
  · generalize hr : s.silenced.raiseRecord .linkSilent = r at *
    have hkept := keepsBase_handLatch (k := .nothing) r .linkSilent
    have hfirst : r.trip.latch.get .s1 = .latched .linkSilent := by
      rw [← hr, State.raiseRecord_latch, hnew]
      rfl
    have hcause : 16 ∈ r.trip.causes := by
      rw [← hr, State.raiseRecord_causes]
      exact mem_insertCode.mpr (.inl rfl)
    have hs1 : s.fallSilent.latched .s1 = true := by
      rw [hraise]
      exact hkept.latched (by unfold State.latched; rw [hfirst]; rfl)
    have hchannel (h : Chan) : (s.fallSilent.channel .s1 h).commanded = false := by
      have hsound : s.fallSilent.TripSound := hwork.trip (State.TripSound.congr hs.tripSound rfl rfl)
      rw [hsound.channels ((State.inTripTest_congr hwork.proof).trans htest), hs1]
      rfl
    refine ⟨fun hkeeps => ?_, ?_, ?_, ?_, ?_, ?_⟩
    · have htrip : s.fallSilent.trip = r.trip := by
        rw [hraise]
        by_cases hacc : w.phase = .accepted
        · have hout := hkeeps.resolve_left (Classical.not_not.mpr hacc)
          exact (State.handLatch_of_unrecovering hw' .linkSilent hacc hout).1
        · have hway : w.phase = .running ∨ w.phase = .creep := by
            cases hp : w.phase <;> simp_all
          rw [State.handLatch_of_underWay hw' .linkSilent hway, State.enterStopping_eq]
      unfold State.latches at hlatches ⊢
      rw [State.transmit_latched, State.latched_congr (congrArg TripUnit.latch htrip)]
      exact hlatches
    · rw [State.transmit_latched]; exact hs1
    · rw [State.transmit_trip, hraise]; exact hkept.first .s1 _ hfirst
    · rw [State.transmit_trip, hraise]; exact hkept.causes hcause
    · rw [State.transmit_channel]; exact hchannel .x
    · rw [State.transmit_channel]; exact hchannel .y
  · have hhand := State.handLatch_of_underWay hw' .linkSilent hphase
    rw [hraise, hhand, State.enterStopping_eq]
    refine ⟨State.reported_of_silenced (State.Reported.transmit (State.reported_of_link ?_)), ?_, ?_⟩
    · exact hpushed _
    · rw [State.phase, State.transmit_wind]; rfl
    · rw [State.transmit_wind]; rfl
  · refine ⟨?_, fun hout => State.reported_of_silenced (State.Reported.transmit (State.reported_of_link ?_))⟩
    · rw [State.phase, State.transmit_wind, hraise, State.handLatch_of_accepted hw' .linkSilent hphase,
        State.closeWind_current]
      rfl
    · rw [hraise, (State.handLatch_of_unrecovering hw' .linkSilent hphase hout).2]
      exact hpushed _

end Sys2Proof.Machine
end


section
/-! Raises at stage 3: PROOF (R151) and the expiry of a mismatch timer (R132). -/

namespace Sys2Proof.Machine

/-! ## A cause that reaches every stage (R134) -/

/-- The TRIP reports of a raise at stage 3 (R134 part 4). -/
def State.latchReports (s : State) (c : Cause) : List ReportBody :=
  ([Stage.s3, .s2, .s1].filter fun k => !s.latched k).map fun k => .tripLatch k c ⟨true, true, true⟩

section
variable {c : Cause} (hall : ∀ k, c.reaches k = true) (s : State)
include hall

theorem State.newlyLatched_of_all : s.newlyLatched c = [Stage.s3, .s2, .s1].filter fun k => !s.latched k := by
  unfold State.newlyLatched
  simp only [hall, Bool.true_and]

theorem State.raiseRecord_latches_of_all : (s.raiseRecord c).latches = ⟨true, true, true⟩ :=
  State.latches_of_latched fun k => by rw [State.raiseRecord_latched, hall, Bool.or_true]

theorem State.raiseRecord_latch_of_all (k : Stage) : (s.raiseRecord c).trip.latch.get k =
    if s.latched k then s.trip.latch.get k else .latched c := by
  rw [State.raiseRecord_latch]
  simp only [State.mem_newlyLatched, hall, true_and]
  cases s.latched k <;> rfl

theorem State.raiseRecord_link_of_all :
    (s.raiseRecord c).link = s.link.pushAll ((s.latchReports c).map s.stamped) := by
  rw [State.raiseRecord_link, State.newlyLatched_of_all hall, State.raiseRecord_latches_of_all hall]
  rfl

end

/-! ## PROOF (R145, R151, R154) -/

theorem exec_proof (tag : Byte) (s : State) :
    exec (.proof tag []) s = .next (s.request 0x06 tag 0 [] State.ownProof) := rfl

theorem State.ownProof_eq (s : State) : s.ownProof = s.proofRefusal.elim (s.beginProof.done []) s.deny := by
  unfold State.ownProof
  cases s.proofRefusal <;> rfl

theorem State.tableSound_of_active {s : State} {a : ActiveTable} (h : s.table.active = some a) :
    s.tableSound = decide (tableCheck a.records = a.check) := by
  unfold State.tableSound
  rw [h]

/-- Step 1 of the proof concludes at once (R154). -/
theorem State.judgeTable_eq {s : State} (h : s.inTripTest = false) : s.judgeTable = s.concluded
    (if s.tableSound then { s.proof with readiness := .proving .encoders }
      else { readiness := .proofFailed, lastFailure := some (0x81, 0) })
    [if s.tableSound then .proofStep 1 else .proofFail 1 0x81 0] := by
  unfold State.judgeTable
  split
  next => rw [State.report_eq]; rfl
  next => exact State.failProof_eq h 1 0x81 0

/-- Settles O24: the raise of PROOF with no wind to hand it to, and then step 1. -/
theorem proofIsJudgedAndBegun : Obligations.ProofIsJudgedAndBegun := by
  intro tag s hs hfollow refusal
  have hexec := exec_proof tag s
  have hrefusal (p) : (s.arrived p).proofRefusal = refusal := State.proofRefusal_eq_firstRefusal (s.arrived p)
  refine ⟨fun why hwhy => State.request_denied hexec hs rfl rfl fun p => ?_, fun a hpassed ha => ?_⟩
  · rw [State.ownProof_eq, hrefusal, hwhy]
    rfl
  · obtain ⟨p, hp⟩ := s.frameArrives_eq_arrived (n := 0x06) rfl
    have hall (k : Stage) : Cause.proof.reaches k = true := by cases k <;> rfl
    have hchecks := firstRefusal_eq_none.mp hpassed
    have hproving : s.isProving = false := hchecks (s.isProving, .busy) (by simp)
    have hclosed : s.wind.current = none := Option.isSome_eq_false_iff.mp (hchecks (s.windOpen, .busy) (by simp)) |>
      Option.isNone_iff_eq_none.mp
    have htest : s.inTripTest = false := eq_false_of_ne_true fun h => by
      rw [State.isProving_of_inTripTest h] at hproving; contradiction
    have hraise : (s.arrived p).raiseCause .proof = (s.arrived p).raiseRecord .proof :=
      State.raiseCause_of_none (s := s.arrived p) hclosed _
    have hframe := (s.arrived p).raiseRecord_frame .proof
    have hlink := State.raiseRecord_link_of_all hall (s.arrived p)
    have hlatch := State.raiseRecord_latch_of_all hall (s.arrived p)
    have hcauses := (s.arrived p).raiseRecord_causes .proof
    have hcapture := (s.arrived p).raiseRecord_capture .proof
    have hchannels := State.ChannelsFollow.raiseRecord (s := s.arrived p) hfollow .proof
    have hlatches := State.raiseRecord_latches_of_all hall (s.arrived p)
    generalize (s.arrived p).raiseRecord .proof = r at *
    have hrtest : r.inTripTest = false := by rw [hframe]; exact htest
    have hbegun : (s.arrived p).ownProof = r.judgeTable.done [] := by
      rw [State.ownProof_eq, hrefusal, hpassed, ← hraise]
      rfl
    have hsound : r.tableSound = decide (tableCheck a.records = a.check) :=
      State.tableSound_of_active (by rw [hframe]; exact ha)
    rw [State.judgeTable_eq hrtest, hsound] at hbegun
    generalize hx : (if decide (tableCheck a.records = a.check) then { r.proof with readiness := .proving .encoders }
      else ({ readiness := .proofFailed, lastFailure := some (0x81, 0) } : ProofUnit)) = x at hbegun
    have hpushed : (r.concluded x
        [if decide (tableCheck a.records = a.check) then ReportBody.proofStep 1 else .proofFail 1 0x81 0]).link =
        p.pushAll ((s.latchReports .proof ++
          [if decide (tableCheck a.records = a.check) then ReportBody.proofStep 1 else .proofFail 1 0x81 0]).map s.stamped) := by
      show r.link.pushAll _ = _
      rw [hlink, List.map_append, LinkPort.pushAll_append, State.stamped_congr (s := s) (t := r) (by rw [hframe]; rfl)]
      rfl
    obtain ⟨t, hanswer, hserved, hport, ht⟩ := State.request_served hexec hs rfl rfl hp hbegun hpushed
    refine ⟨t, hanswer, ?_⟩
    have htrip : t.trip = r.trip := by rw [ht]; rfl
    have hproof : t.proof = x := by rw [ht]; rfl
    refine ⟨hserved, hport, fun k => ?_, fun k h => ?_, fun n => ?_, ?_, ?_, ?_⟩
    · rw [htrip]; exact hlatch k
    · have hlatched : r.latched k = true := by
        have hget : r.latches.get k = r.latched k := by cases k <;> rfl
        rw [← hget, hlatches]
        cases k <;> rfl
      have hfalse := hchannels hrtest k h
      rw [hlatched] at hfalse
      unfold State.channel at hfalse ⊢
      rw [htrip]
      exact hfalse
    · rw [htrip, hcauses]; exact mem_insertCode
    · rw [htrip, hcapture]; rfl
    · rw [hproof, ← hx, hframe]
      rfl
    · rw [hproof]
      rw [htrip]
      conv => lhs; rw [ht, State.concluded, hframe]
      rfl

end Sys2Proof.Machine
end


section
/-! The expiry of a mismatch timer: TRIP PATH at stage 3 (R132). -/

namespace Sys2Proof.Machine

/-! ## What a raise leaves of the channels and the active set when every stage is latched -/

/-- Channels, active set and latches of the trip unit stand as they stood. -/
structure Settled (s t : State) : Prop where
  channel : t.trip.chan = s.trip.chan
  active : t.trip.active = s.trip.active
  latch : t.trip.latch = s.trip.latch

theorem Settled.of_trip {s t : State} (h : t.trip = s.trip) : Settled s t := by
  constructor <;> rw [h]

theorem Settled.trans {s t u : State} (h : Settled s t) (g : Settled t u) : Settled s u :=
  ⟨g.channel.trans h.channel, g.active.trans h.active, g.latch.trans h.latch⟩

theorem State.newlyLatched_of_latched {s : State} (hall : ∀ k, s.latched k = true) (c : Cause) :
    s.newlyLatched c = [] :=
  List.eq_nil_iff_forall_not_mem.mpr fun k hk => by
    rw [State.mem_newlyLatched, hall k] at hk
    exact Bool.noConfusion hk.2

/-- A LIMIT that stands, raised over latched stages, moves neither a channel nor the active set. -/
theorem State.raiseRecord_settled {s : State} {c : Cause} (hall : ∀ k, s.latched k = true) (hc : c.isLimit = true)
    (h : c ∈ s.trip.active) : Settled s (s.raiseRecord c) := by
  have hnone := State.newlyLatched_of_latched hall c
  refine ⟨?_, ?_, (State.raiseRecord_in_vain hall hc h).latch⟩
  · rw [State.raiseRecord_trip, hnone]
    exact s.noted_chan c
  · rw [State.raiseRecord_trip, hnone]
    exact State.noted_active_of_standing hc h

theorem State.reraise_settled (l : List Cause) (s : State) (hall : ∀ k, s.latched k = true)
    (hl : ∀ c ∈ l, c.isLimit = true ∧ c ∈ s.trip.active) : Settled s (l.foldl State.raiseRecord s) := by
  induction l generalizing s with
  | nil => exact .of_trip rfl
  | cons c l ih =>
    obtain ⟨hc, hactive⟩ := hl c List.mem_cons_self
    have hfirst := State.raiseRecord_settled hall hc hactive
    refine hfirst.trans (ih _ (fun k => ?_) fun x hx => ?_)
    · rw [State.latched_congr hfirst.latch]; exact hall k
    · rw [hfirst.active]; exact hl x (List.mem_cons_of_mem c hx)

theorem State.endRecovery_settled {s : State} (hall : ∀ k, s.latched k = true) : Settled s s.endRecovery := by
  unfold State.endRecovery
  split
  next => exact .of_trip rfl
  next =>
    refine Settled.trans (.of_trip ?_) (State.reraise_settled _ _ hall fun c hc => ?_)
    · rfl
    · exact (List.mem_filter.mp hc).symm

theorem State.recoveryJudgedFor_settled {s : State} (hall : ∀ k, s.latched k = true) (b : Bool) :
    Settled s (s.recoveryJudgedFor b) := by
  unfold State.recoveryJudgedFor
  rw [State.judgeRecoveryEnd_eq]
  split
  next =>
    split
    next => exact State.endRecovery_settled hall
    next => exact .of_trip rfl
  next => exact .of_trip rfl

/-- Over latched stages the hand-over of a latch leaves the trip unit settled. -/
theorem State.handLatch_settled {s : State} (hall : ∀ k, s.latched k = true) (c : Cause) :
    Settled s (s.handLatch c) := by
  cases hw : s.wind.current with
  | none => rw [State.handLatch_of_none hw]; exact .of_trip rfl
  | some w =>
    cases hp : w.phase with
    | accepted =>
      rw [State.handLatch_of_accepted hw c hp, State.closeWind_eq (w := w.tripped c) (Eq.refl _)]
      have hclosed : ((s.setCurrent (w.tripped c)).closed (w.tripped c) .tripped).trip = s.trip := by
        rw [State.closed_eq]; rfl
      refine Settled.trans (.of_trip hclosed) (State.recoveryJudgedFor_settled (fun k => ?_) _)
      rw [State.latched_congr (congrArg TripUnit.latch hclosed)]
      exact hall k
    | running | creep =>
      rw [State.handLatch_of_underWay hw c (by simp [hp]), State.enterStopping_eq]
      exact .of_trip rfl
    | stopping => rw [State.handLatch_of_stopping hw c hp]; exact .of_trip rfl

/-- A raise at stage 3 settles with what stands before its hand-over. -/
theorem State.raiseCause_settled {c : Cause} (hall : ∀ k, c.reaches k = true) (s : State) :
    Settled (s.raiseRecord c) (s.raiseCause c) := by
  unfold State.raiseCause
  split
  next => exact .of_trip rfl
  next =>
    refine State.handLatch_settled (fun k => ?_) c
    rw [State.raiseRecord_latched, hall, Bool.or_true]

/-! ## The channels of a stage newly latched -/

/-- Both channels of a stage fall with its latch, each compared. -/
theorem compared_followLatch {s : State} (htest : s.inTripTest = false) {k : Stage} (hk : s.latched k = true)
    (hon : ∀ h, (s.channel k h).commanded = true) : Compared s (s.followLatch k) [(k, .x), (k, .y)]
      fun j h => OutChannel.compared { s.channel j h with commanded := false } (s.readback j h) := by
  unfold State.followLatch
  rw [if_neg (ne_true_of_eq_false htest), hk]
  have hne {b : Bool} (hb : b = true) : b ≠ !true := by rw [hb]; decide
  have hx := compared_command_of_ne (k := k) (c := .x) htest (hne (hon .x)) (g := fun j h =>
    OutChannel.compared { s.channel j h with commanded := false } (s.readback j h)) rfl
  refine hx.trans (compared_command_of_ne (hx.inTripTest.trans htest) ?_ ?_)
  · rw [hx.channel, if_neg (by simp)]
    exact hne (hon .y)
  · rw [hx.readback, hx.channel, if_neg (by simp)]
    rfl

theorem State.latchAll_append (c : Cause) (l m : List Stage) (s : State) :
    s.latchAll c (l ++ m) = (s.latchAll c l).latchAll c m := List.foldl_append

/-- A channel stuck de-energised agrees as soon as its stage is latched with others, and its TRIP PATH leaves. -/
theorem State.latchAll_agrees {s : State} {k : Stage} {h : Chan} {c : Cause} {l m : List Stage}
    (htest : s.inTripTest = false) (hl : k ∉ l) (hm : k ∉ m) (hon : ∀ h, (s.channel k h).commanded = true)
    (hread : s.readback k h = false) (hstopped : (s.channel k h).mismatch = none) :
    (s.latchAll c (l ++ k :: m)).channel k h = ⟨false, none⟩ ∧
      .tripPath k h ∉ (s.latchAll c (l ++ k :: m)).trip.active := by
  rw [State.latchAll_append]
  have hbefore := latching_latchAll c l s
  generalize s.latchAll c l = u at *
  have hafter := latching_latchAll c m (u.setLatch k (.latched c))
  have hlatched : (u.setTrip { u.trip with latch := u.trip.latch.set k (.latched c) }).latched k = true := by
    unfold State.latched
    rw [State.setTrip_trip, PerStage.get_set_self]
    rfl
  have hmid := compared_followLatch (s := u.setTrip { u.trip with latch := u.trip.latch.set k (.latched c) })
    (hbefore.test.trans htest) hlatched fun i => (congrArg OutChannel.commanded (hbefore.channel k i hl)).trans (hon i)
  change Compared _ (u.setLatch k (.latched c)) _ _ at hmid
  have hmem : (k, h) ∈ [(k, Chan.x), (k, .y)] := by cases h <;> simp
  have hagrees : OutChannel.compared { u.channel k h with commanded := false } (u.readback k h) = ⟨false, none⟩ := by
    unfold OutChannel.compared
    rw [hbefore.readback, hread]
    rfl
  constructor
  · show ((u.setLatch k (.latched c)).latchAll c m).channel k h = _
    rw [hafter.channel k h hm, hmid.channel, if_pos hmem]
    exact hagrees
  · show _ ∉ ((u.setLatch k (.latched c)).latchAll c m).trip.active
    rw [hafter.active _ fun j i hj heq => by obtain ⟨rfl, -⟩ := Cause.tripPath.inj heq; exact hm hj, hmid.active]
    rintro ⟨-, hleft⟩
    refine hleft k h hmem ?_ rfl
    have hfallen : u.readback k h = false := by rw [hbefore.readback]; exact hread
    exact (congrArg OutChannel.commanded hagrees).trans hfallen.symm

/-! ## The expiry (R132) -/

theorem exec_mismatchTimer {k : Stage} {h : Chan} {s : State} (hend : (s.channel k h).mismatch = some 0) :
    exec (.mismatchTimerExpiry k h) s = .next (s.expireMismatch k h).transmit :=
  congrArg Host.Outcome.next (if_pos (decide_eq_true hend))

theorem Cause.reaches_tripPath (k : Stage) (h : Chan) (j : Stage) : (Cause.tripPath k h).reaches j = true := by
  cases j <;> rfl

/-- Over a raise the active set gains a TRIP PATH of a stage latched before. -/
theorem State.mem_raiseRecord_tripPath {s : State} {k : Stage} {h : Chan} (hk : s.latched k = true) :
    .tripPath k h ∈ (s.raiseRecord (.tripPath k h)).trip.active := by
  rw [State.mem_raiseRecord_active_iff fun j i hj heq => ?_]
  · by_cases hstands : .tripPath k h ∈ s.trip.active
    · exact .inl hstands
    · exact .inr ⟨rfl, rfl, fun y hy => decide_eq_false fun heq => hstands (heq ▸ hy)⟩
  · rw [(Cause.tripPath.inj heq).1, (State.mem_newlyLatched.mp hj).2] at hk
    contradiction

/-- A raise leaves the channels of a stage latched before. -/
theorem State.raiseRecord_channel_of_latched {s : State} {c : Cause} {k : Stage} (hk : s.latched k = true) (h : Chan) :
    (s.raiseRecord c).channel k h = s.channel k h := by
  have hout : k ∉ s.newlyLatched c := fun hmem => by
    rw [(State.mem_newlyLatched.mp hmem).2] at hk
    contradiction
  have hchan := (latching_noted s c).channel k h hout
  unfold State.channel at *
  rw [State.raiseRecord_trip, hchan, State.noted_chan]

/-- A channel stuck de-energised under a clear stage agrees after a raise that latches the stage. -/
theorem State.raiseRecord_agrees {s : State} {c : Cause} {k : Stage} {h : Chan} (hall : ∀ j, c.reaches j = true)
    (hk : s.latched k = false) (hfollow : s.ChannelsFollow) (htest : s.inTripTest = false)
    (hread : s.readback k h = false) (hstopped : (s.channel k h).mismatch = none) :
    (s.raiseRecord c).channel k h = ⟨false, none⟩ ∧ .tripPath k h ∉ (s.raiseRecord c).trip.active := by
  have hmem : k ∈ s.newlyLatched c := State.mem_newlyLatched.mpr ⟨hall k, hk⟩
  have hnodup : (s.newlyLatched c).Nodup := List.Pairwise.filter _ (by decide)
  obtain ⟨l, m, hsplit⟩ := List.append_of_mem hmem
  rw [hsplit, List.nodup_append] at hnodup
  obtain ⟨-, hcons, hdisjoint⟩ := hnodup
  have hchan (i : Chan) : (s.noted c).channel k i = s.channel k i := by
    unfold State.channel; rw [State.noted_chan]
  have hon (i : Chan) : ((s.noted c).channel k i).commanded = true := by
    rw [hchan, hfollow htest, hk]; rfl
  have hreadback : (s.noted c).readback k h = false := by rw [State.noted_frame]; exact hread
  have hagrees := State.latchAll_agrees (s := s.noted c) (c := c) (l := l) (m := m) (h := h)
    ((State.inTripTest_congr (s.noted_proof c)).trans htest)
    (fun hl => hdisjoint k hl k List.mem_cons_self rfl) (List.nodup_cons.mp hcons).1 hon hreadback
    (by rw [hchan]; exact hstopped)
  unfold State.channel at hagrees ⊢
  rw [State.raiseRecord_trip, hsplit]
  exact hagrees

/-- Settles O19: the raise part by part, and what its hand-over leaves of the trip unit. -/
theorem mismatchRaisesTripPath : Obligations.MismatchRaisesTripPath := by
  refine fun k h s => ⟨fun hne => congrArg Host.Outcome.next (ite_ended_of_ne hne _ _), fun hend =>
    ⟨_, exec_mismatchTimer hend, ?_⟩⟩
  unfold State.expireMismatch
  have hstopped : ((s.setChannel k h { s.channel k h with mismatch := none }).channel k h) =
      { s.channel k h with mismatch := none } := State.channel_setChannel_self ..
  have hlatched : (s.setChannel k h { s.channel k h with mismatch := none }).latched = s.latched := rfl
  have hcommanded (j : Stage) (i : Chan) :
      ((s.setChannel k h { s.channel k h with mismatch := none }).channel j i).commanded =
        (s.channel j i).commanded := by
    by_cases hji : j = k ∧ i = h
    · obtain ⟨rfl, rfl⟩ := hji
      rw [hstopped]
    · rw [State.channel_setChannel_ne s _ fun hj hi => hji ⟨hj, hi⟩]
  have hframe : s.setChannel k h { s.channel k h with mismatch := none } =
      { s with trip := (s.setChannel k h { s.channel k h with mismatch := none }).trip } := rfl
  have hactive : (s.setChannel k h { s.channel k h with mismatch := none }).trip.active = s.trip.active := rfl
  have hlatch : (s.setChannel k h { s.channel k h with mismatch := none }).trip.latch = s.trip.latch := rfl
  generalize s.setChannel k h { s.channel k h with mismatch := none } = u at *
  have hall := Cause.reaches_tripPath k h
  have hsettled := State.raiseCause_settled hall u
  have hchannel : (u.raiseCause (.tripPath k h)).channel = (u.raiseRecord (.tripPath k h)).channel := by
    funext j i
    unfold State.channel
    rw [hsettled.channel]
  obtain ⟨hcause, hraised⟩ := u.raiseCause_raised (.tripPath k h)
  have hclock : u.stamped = s.stamped := by rw [hframe]; rfl
  have hlink : u.link = s.link := by rw [hframe]
  dsimp only
  rw [State.transmit_trip, State.transmit_latched, State.transmit_channel, hchannel, hsettled.active, hsettled.latch]
  refine ⟨hcause, fun j => hraised j (hall j), fun j c hj => ?_, fun j hj => ?_, fun hk => ⟨?_, ?_⟩,
    fun hk hfollow htest hread => ?_, fun hclosed => ?_, fun h1 h2 h3 => ?_⟩
  · have hold : s.latched j = true := by unfold State.latched; rw [hj]; rfl
    rw [State.raiseRecord_latch_of_all hall, hlatched, if_pos hold, hlatch, hj]
  · have hold : s.latched j = false := by unfold State.latched; rw [hj]; rfl
    rw [State.raiseRecord_latch_of_all hall, hlatched, hold]
    rfl
  · rw [State.raiseRecord_channel_of_latched (by rw [hlatched]; exact hk), hstopped]
  · exact State.mem_raiseRecord_tripPath (by rw [hlatched]; exact hk)
  · have hfollow' : u.ChannelsFollow := fun _ j i => by rw [hcommanded, hlatched]; exact hfollow htest j i
    have hagrees := State.raiseRecord_agrees (s := u) (h := h) hall (by rw [hlatched]; exact hk) hfollow'
      (by rw [hframe]; exact htest) (by rw [hframe]; exact hread) (by rw [hstopped])
    rw [hagrees.1]
    exact ⟨rfl, rfl, hagrees.2⟩
  · have hnone : u.raiseCause (.tripPath k h) = u.raiseRecord (.tripPath k h) :=
      State.raiseCause_of_none (by rw [hframe]; exact hclosed) _
    rw [hnone]
    refine State.told_of_link ?_
    rw [State.raiseRecord_link_of_all hall, hclock, hlink]
    unfold State.latchReports
    rw [hlatched]
  · have hevery (j : Stage) : u.latched j = true := by rw [hlatched]; cases j <;> assumption
    have hfresh := State.newlyLatched_of_latched hevery (.tripPath k h)
    have hraise := State.raiseCause_of_latched hfresh
    have hsame : (u.raiseRecord (.tripPath k h)).link = s.link := by
      rw [State.raiseRecord_link, hfresh, hlink]
      rfl
    refine ⟨fun x => ?_, ?_, ?_⟩
    · rw [State.mem_raiseRecord_active_iff fun j i hj => by rw [hfresh] at hj; contradiction, hactive]
      constructor
      · exact Or.imp_right And.left
      · rintro (hx | rfl)
        · exact .inl hx
        · by_cases hstands : .tripPath k h ∈ s.trip.active
          · exact .inl hstands
          · exact .inr ⟨rfl, rfl, fun y hy => decide_eq_false fun heq => hstands (heq ▸ hy)⟩
    · rw [hraise]
      exact State.told_nothing hsame
    · have hrecord := u.raiseRecord_frame (.tripPath k h)
      rw [hraise, State.transmit_eq]
      generalize u.raiseRecord (.tripPath k h) = r at hrecord
      rw [hframe] at hrecord
      conv => lhs; rw [hrecord]
      rfl

end Sys2Proof.Machine
end


section
/-! A settled change of the clutch (R37, R96, R122, R124). -/

namespace Sys2Proof.Machine

/-! ## The drum 2 creep flag outside R124 -/

theorem State.endRecovery_creepFlag (s : State) : s.endRecovery.wind.creepFlag = s.wind.creepFlag := by
  obtain ⟨-, -, -, hwind⟩ := s.endRecovery_ends
  rw [hwind]

theorem State.closeWind_creepFlag {s : State} {w : OpenWind} (hw : s.wind.current = some w) (o : WindOutcome) :
    (s.closeWind o).wind.creepFlag = s.wind.creepFlag := by
  obtain ⟨-, -, -, ⟨hwind, -⟩, -⟩ := State.closeWind_closes hw o
  rw [hwind]

theorem State.handLatch_creepFlag (s : State) (c : Cause) : (s.handLatch c).wind.creepFlag = s.wind.creepFlag := by
  cases hw : s.wind.current with
  | none => rw [State.handLatch_of_none hw]
  | some w =>
    cases hp : w.phase with
    | accepted =>
      rw [State.handLatch_of_accepted hw c hp, State.closeWind_creepFlag (w := w.tripped c) (Eq.refl _)]
      rfl
    | running | creep => rw [State.handLatch_of_underWay hw c (by simp [hp]), State.enterStopping_eq]
    | stopping => rw [State.handLatch_of_stopping hw c hp]; rfl

theorem State.raiseCause_creepFlag (s : State) (c : Cause) : (s.raiseCause c).wind.creepFlag = s.wind.creepFlag := by
  unfold State.raiseCause
  split
  next => rw [State.raiseRecord_wind]
  next => rw [State.handLatch_creepFlag, State.raiseRecord_wind]

theorem State.judgeLoadLost_creepFlag (s : State) : s.judgeLoadLost.wind.creepFlag = s.wind.creepFlag := by
  unfold State.judgeLoadLost
  split
  next => rfl
  next =>
    split
    next => rfl
    next =>
      split
      next => rfl
      next => rw [State.raiseCause_creepFlag]; rfl

/-! ## The parts of the change -/

/-- The clutch settled and the drum unit's marks taken (R37, R38, R124). -/
def State.clutchSettled (s : State) : State := { s with
  inputs := { s.inputs with clutch := s.pins.clutch, clutchTimer := none }
  drums := { s.drums with hold := if s.pins.clutch then none else s.drums.hold, holdDue := !s.pins.clutch }
  wind := { s.wind with creepFlag := !s.pins.clutch && s.wind.creepFlag } }

theorem State.clutchDrums_settleClutch (s : State) : s.settleClutch.clutchDrums = s.clutchSettled := by
  unfold State.clutchDrums State.clutchSettled State.markHold State.settleClutch State.setInputs
  cases h : s.pins.clutch <;> rfl

theorem exec_clutchSettled {s : State} (hend : s.inputs.clutchTimer = some 0) (hne : s.pins.clutch ≠ s.inputs.clutch) :
    exec .clutchSettledChange s =
      .next (s.clutchSettled.clutchWind.clutchEnvelope.judgeLoadLost).transmit := by
  rw [← State.clutchDrums_settleClutch]
  exact congrArg Host.Outcome.next (if_pos ⟨decide_eq_true hend, hne⟩)

/-- An abort by the open wind's phase (R120, R122). -/
theorem State.abortWind_of_none {s : State} (h : s.wind.current = none) : s.abortWind = s := by
  unfold State.abortWind
  rw [h]

section
variable {s : State} {w : OpenWind} (hw : s.wind.current = some w)
include hw

theorem State.abortWind_of_accepted (h : w.phase = .accepted) : s.abortWind = s.closeWind .aborted := by
  unfold State.abortWind
  simp only [hw, h]

theorem State.abortWind_of_underWay (h : w.phase = .running ∨ w.phase = .creep) :
    s.abortWind = s.enterStopping w .abort := by
  unfold State.abortWind
  rcases h with h | h <;> simp only [hw, h]

theorem State.abortWind_of_stopping (h : w.phase = .stopping) : s.abortWind = s := by
  unfold State.abortWind
  simp only [hw, h]

end

theorem State.abortWind_creepFlag (s : State) : s.abortWind.wind.creepFlag = s.wind.creepFlag := by
  cases hw : s.wind.current with
  | none => rw [State.abortWind_of_none hw]
  | some w =>
    cases hp : w.phase with
    | accepted => rw [State.abortWind_of_accepted hw hp, State.closeWind_creepFlag hw]
    | running | creep => rw [State.abortWind_of_underWay hw (by simp [hp]), State.enterStopping_eq]
    | stopping => rw [State.abortWind_of_stopping hw hp]

theorem keepsBase_abortWind {k : Watch} (s : State) : KeepsBase k s s.abortWind := by
  cases hw : s.wind.current with
  | none => rw [State.abortWind_of_none hw]; exact .rfl
  | some w =>
    cases hp : w.phase with
    | accepted => rw [State.abortWind_of_accepted hw hp]; exact keepsBase_closeWind hw hp _
    | running | creep =>
      rw [State.abortWind_of_underWay hw (by simp [hp])]
      exact (keeps_enterStopping hw w .abort rfl).toKeepsBase
    | stopping => rw [State.abortWind_of_stopping hw hp]; exact .rfl

theorem keepsBase_clutchWind {k : Watch} (s : State) : KeepsBase k s s.clutchWind := by
  unfold State.clutchWind
  split
  next => exact keepsBase_abortWind s
  next => exact (keeps_raiseCause s .clutchInMotion (nomatch ·)).toKeepsBase

/-- Without a MAN wind under way the judgement of load loss is false (R57). -/
theorem State.judgeLoadLost_of_idle {s : State} (h : s.manUnderWay = false) :
    s.judgeLoadLost = s.setRope { s.rope with loadLost := false } := by
  unfold State.judgeLoadLost
  split
  next => rfl
  next => rw [h]; rfl

theorem State.manUnderWay_eq_false {s : State} (h : s.phase = none ∨ s.phase = some .stopping) :
    s.manUnderWay = false := by
  unfold State.phase at h
  unfold State.manUnderWay
  cases hw : s.wind.current with
  | none => rfl
  | some w =>
    rw [hw] at h
    have hstop : w.phase = .stopping := by simpa using h
    simp [hstop]

/-- The degrade state after a settled change (R96): drum 2 in play from now on counts for its start speed. -/
theorem State.clutchEnvelope_degrade {s : State} (hopen : s.windOpen = true) : s.clutchEnvelope.env.degrade =
    if s.inputs.clutch = true ∧ (s.drums.drum.two.state ≠ .dual ∨ s.rope.side.two.bothBad = true) then
      s.env.degrade.or (some ⟨max (mag (s.speed .one)) (mag (s.speed .two)), 0⟩)
    else s.env.degrade := by
  unfold State.clutchEnvelope
  split
  next h =>
    have hspeed : s.playSpeed = max (mag (s.speed .one)) (mag (s.speed .two)) := by
      have hplay : s.inPlay .two = true := h.1
      simp only [State.playSpeed, hplay, true_and]
      omega
    rw [State.startDegrade_of_open hopen, hspeed]
  next => rfl

theorem State.clutchEnvelope_of_closed {s : State} (h : s.wind.current = none) : s.clutchEnvelope = s := by
  unfold State.clutchEnvelope State.startDegrade State.windOpen
  rw [h]
  split <;> rfl

theorem State.clutchEnvelope_frame (s : State) : s.clutchEnvelope = { s with env := s.clutchEnvelope.env } := by
  unfold State.clutchEnvelope State.startDegrade
  split
  next => split <;> rfl
  next => rfl

/-- The rest of a settled change over a wind that no MAN judgement concerns (R57). -/
theorem State.clutchRest_of_idle {s : State} (h : s.phase = none ∨ s.phase = some .stopping) :
    s.clutchEnvelope.judgeLoadLost =
      { s with env := s.clutchEnvelope.env, rope := { s.rope with loadLost := false } } := by
  have hphase : s.clutchEnvelope.phase = s.phase := by rw [State.clutchEnvelope_frame]; rfl
  rw [State.judgeLoadLost_of_idle (State.manUnderWay_eq_false (hphase.symm ▸ h))]
  conv => lhs; rw [State.clutchEnvelope_frame]
  rfl

/-- What a settled change keeps of the drums, the rope unit and the degrade state up to its own judgement of it. -/
def clutchWatch : Watch where
  drum _ := True
  hold := True
  track _ := False
  rope _ := True
  env := False
  counters := False
  degrade := True
  entry _ := False
  count _ := ⟨0, 0, 0, 0, 0⟩

theorem State.phase_some {s : State} {p : Phase} (h : s.phase = some p) :
    ∃ w, s.wind.current = some w ∧ w.phase = p := by
  unfold State.phase at h
  exact Option.map_eq_some_iff.mp h

theorem State.phase_none {s : State} (h : s.wind.current = none) : s.phase = none := by
  unfold State.phase
  rw [h]
  rfl

theorem State.windOpen_iff {s : State} : s.windOpen = true ↔ s.wind.current ≠ none := by
  unfold State.windOpen
  rw [Option.isSome_iff_ne_none]

theorem KeepsBase.degrade_of_open {k : Watch} {s t : State} (h : KeepsBase k s t) (hk : k.degrade)
    (hopen : t.wind.current ≠ none) : t.env.degrade = s.env.degrade :=
  (h.degrade hk).elim id fun hclosed => absurd hclosed.2 hopen

/-- Settles O51: the mechanisms of the change one after the other, each over the wind it finds. -/
theorem clutchChangesActOnTheWind : Obligations.ClutchChangesActOnTheWind := by
  intro s
  refine ⟨fun h => congrArg Host.Outcome.next (if_neg ?_), fun hend hne => ?_⟩
  · rintro ⟨hended, hne⟩
    exact h.elim (fun hx => hx (of_decide_eq_true hended)) hne
  intro settled
  refine ⟨_, exec_clutchSettled hend hne, ?_⟩
  have hsettled : settled = s.clutchSettled := rfl
  clear_value settled
  subst hsettled
  dsimp -zeta only
  have hwork : Work s.clutchSettled s.clutchSettled.clutchWind.clutchEnvelope.judgeLoadLost :=
    ((work_clutchWind _).trans (work_clutchEnvelope _)).trans (work_judgeLoadLost _)
  have hwind := keepsBase_clutchWind (k := clutchWatch) s.clutchSettled
  have hjudge := (keeps_judgeLoadLost (k := clutchWatch) s.clutchSettled.clutchWind.clutchEnvelope).toKeepsBase
  have henvelope := State.clutchEnvelope_frame s.clutchSettled.clutchWind
  rw [State.transmit_inputs, State.transmit_drums, State.transmit_wind, State.transmit_env, State.transmit_trip]
  refine ⟨hwork.inputs, ?_, ?_, ?_, fun hopen => ?_, fun hmoves => ?_, fun hrest hnone => ?_, fun hrest hstop => ?_,
    fun w hw hrest => ⟨fun hphase => ?_, fun hphase => ?_⟩⟩
  · rw [(hjudge.hold trivial).1, henvelope]
    exact (hwind.hold trivial).1
  · rw [(hjudge.hold trivial).2.1, henvelope]
    exact (hwind.hold trivial).2.1
  · rw [State.judgeLoadLost_creepFlag, henvelope]
    show s.clutchSettled.clutchWind.wind.creepFlag = _
    unfold State.clutchWind
    split
    next => exact State.abortWind_creepFlag _
    next => exact State.raiseCause_creepFlag _ _
  · have hlast : s.clutchSettled.clutchWind.clutchEnvelope.judgeLoadLost.wind.current ≠ none := by
      rw [State.windOpen_iff, State.transmit_wind] at hopen
      exact hopen
    have hmid : s.clutchSettled.clutchWind.wind.current ≠ none := fun hnone =>
      hlast (hjudge.closed (by rw [henvelope]; exact hnone))
    have hplay : s.clutchSettled.clutchWind.inputs.clutch = s.pins.clutch := by rw [(work_clutchWind _).inputs]; rfl
    have hdrum (d : Side) := hwind.drum d trivial
    have hspeed (d : Side) : s.clutchSettled.clutchWind.speed d = s.speed d := by
      unfold State.speed
      rw [hdrum]
      rfl
    have htwo : s.clutchSettled.clutchWind.drums.drum.two.state = s.drums.drum.two.state := by
      have h := congrArg Drum.state (hdrum .two)
      exact h
    have hrope : s.clutchSettled.clutchWind.rope.side.two = s.rope.side.two := hwind.rope .two trivial
    rw [hjudge.degrade_of_open trivial hlast, State.clutchEnvelope_degrade (State.windOpen_iff.mpr hmid), hplay, hspeed,
      hspeed, htwo, hrope, hwind.degrade_of_open trivial hmid]
    rfl
  · have hraised : s.clutchSettled.clutchWind = s.clutchSettled.raiseCause .clutchInMotion := by
      unfold State.clutchWind
      exact if_neg (ne_true_of_eq_false hmoves)
    have hrest : KeepsBase .nothing s.clutchSettled.clutchWind
        s.clutchSettled.clutchWind.clutchEnvelope.judgeLoadLost := by
      refine KeepsBase.trans ?_ (keeps_judgeLoadLost _).toKeepsBase
      unfold State.clutchEnvelope
      exact (Keeps.onlyIf (keeps_startDegrade _ _ id)).toKeepsBase
    rw [hraised] at hrest ⊢
    obtain ⟨hcause, hlatched⟩ := hrest.raised
    refine ⟨hcause, State.latches_of_latched fun j => ?_⟩
    rw [State.transmit_latched]
    exact hlatched j (by cases j <;> rfl)
  all_goals
    have habort : s.clutchSettled.clutchWind = s.clutchSettled.abortWind := by
      unfold State.clutchWind
      exact if_pos hrest
  · rw [habort, State.abortWind_of_none (s := s.clutchSettled) hnone, 
      State.clutchRest_of_idle (s := s.clutchSettled) (.inl (State.phase_none hnone))]
    exact ⟨State.told_nothing rfl, rfl, hnone⟩
  · obtain ⟨w, hw, hp⟩ := State.phase_some hstop
    rw [habort, State.abortWind_of_stopping (s := s.clutchSettled) (w := w) hw hp, 
      State.clutchRest_of_idle (s := s.clutchSettled) (.inr hstop)]
    exact ⟨State.told_nothing rfl, rfl, rfl⟩
  · have habort' := State.abortWind_of_underWay (s := s.clutchSettled) hw hphase
    rw [State.enterStopping_eq] at habort'
    rw [habort, habort', State.clutchRest_of_idle (.inr rfl)]
    refine ⟨State.told_of_link rfl, rfl, ?_, rfl⟩
    rw [State.phase, State.transmit_wind]
    rfl
  · have habort' := State.abortWind_of_accepted (s := s.clutchSettled) hw hphase
    obtain ⟨more, hlink, hends, ⟨hwind, hdrums, henv, hrope⟩, hpark, -⟩ :=
      State.closeWind_closes (s := s.clutchSettled) hw .aborted
    have hclosed := State.closeWind_current s.clutchSettled .aborted
    rw [habort, habort', State.clutchRest_of_idle (.inl (State.phase_none hclosed)),
      State.clutchEnvelope_of_closed hclosed]
    generalize s.clutchSettled.closeWind .aborted = u at *
    refine ⟨⟨more, State.told_of_link hlink, ?_⟩, ⟨?_, ?_, ?_, ?_⟩, ?_⟩ <;> rw [State.transmit_eq]
    · exact hends
    · exact hwind
    · exact hdrums
    · exact henv
    · exact congrArg (fun x : RopeUnit => { x with loadLost := false }) hrope
    · exact hpark

end Sys2Proof.Machine
end


section
/-! What follows a reset at once (R148, R149, R39, R40): the comparison of the six channels and the failures of
unmonitored encoders, over latched stages and no wind. -/

namespace Sys2Proof.Machine

/-! ## Failures over latched stages -/

/-- Work over latched stages with no wind open: it creates reports, changes drums, and adds to the fault record. -/
structure Aftermath (s t : State) : Prop where
  frame : t = { s with
    link := t.link, drums := { s.drums with drum := t.drums.drum }
    trip := { t.trip with latch := s.trip.latch, chan := s.trip.chan } }
  link : LinkFlow s.link t.link
  load : t.link.load = s.link.load
  restartDue : t.link.restartDue = s.link.restartDue
  causes : s.trip.causes ⊆ t.trip.causes
  active : s.trip.active ⊆ t.trip.active

section
variable {s t u : State}

theorem Aftermath.rfl : Aftermath s s := ⟨.refl _, .rfl, .refl _, .refl _, fun _ h => h, fun _ h => h⟩

theorem Aftermath.trans (h : Aftermath s t) (g : Aftermath t u) : Aftermath s u := by
  refine ⟨?_, h.link.trans g.link, g.load.trans h.load, g.restartDue.trans h.restartDue,
    fun _ hx => g.causes (h.causes hx), fun _ hx => g.active (h.active hx)⟩
  have hlatch : t.trip.latch = s.trip.latch := by rw [h.frame]
  have hchan : t.trip.chan = s.trip.chan := by rw [h.frame]
  calc u = { t with
      link := u.link, drums := { t.drums with drum := u.drums.drum }
      trip := { u.trip with latch := t.trip.latch, chan := t.trip.chan } } := g.frame
    _ = _ := by rw [hlatch, hchan, h.frame]

theorem Aftermath.latched (h : Aftermath s t) : t.latched = s.latched :=
  State.latched_congr (by rw [h.frame])

theorem Aftermath.closed (h : Aftermath s t) : t.wind = s.wind := by rw [h.frame]

theorem Aftermath.pins (h : Aftermath s t) : t.pins = s.pins := by rw [h.frame]

end

theorem aftermath_report (s : State) (b : ReportBody) : Aftermath s (s.report b) := by
  have hwork := work_report s b
  refine ⟨?_, hwork.link, hwork.load, hwork.restartDue, ?_, ?_⟩
  · conv => lhs; rw [State.report_eq]
    rw [State.report_link, State.report_trip, State.report_drums]
  · rw [State.report_trip]; exact fun _ h => h
  · rw [State.report_trip]; exact fun _ h => h

theorem aftermath_setDrum (s : State) (d : Side) (x : Drum) : Aftermath s (s.setDrum d x) :=
  ⟨rfl, .rfl, rfl, rfl, fun _ h => h, fun _ h => h⟩

/-- A raise over latched stages moves no latch and no channel. -/
theorem aftermath_raiseRecord {s : State} (hall : ∀ k, s.latched k = true) (c : Cause) :
    Aftermath s (s.raiseRecord c) := by
  have hnone := State.newlyLatched_of_latched hall c
  have hlatch : (s.raiseRecord c).trip.latch = s.trip.latch := State.raiseRecord_latch_of_none (by rw [hnone]; rfl)
  have htrip := s.raiseRecord_trip c
  rw [hnone] at htrip
  have hchan : (s.raiseRecord c).trip.chan = s.trip.chan := by rw [htrip]; exact s.noted_chan c
  have hlink : (s.raiseRecord c).link = s.link := by rw [State.raiseRecord_link, hnone]; rfl
  refine ⟨?_, .of_eq hlink, by rw [hlink], by rw [hlink], ?_, ?_⟩
  · conv => lhs; rw [State.raiseRecord_frame]
    rw [← hlatch, ← hchan, State.raiseRecord_drums]
  · rw [State.raiseRecord_causes]; exact fun _ h => mem_insertCode.mpr (.inr h)
  · exact fun x hx => (State.mem_raiseRecord_active_iff fun j h hj => by rw [hnone] at hj; contradiction).mpr (.inl hx)

/-- A drum without a disagreement announces its new state over latched stages and no wind: its cause, if it is LOST or
DIVERGED, and one DRUM report. -/
theorem aftermath_announceDrum {s : State} (hall : ∀ k, s.latched k = true) (hclosed : s.wind.current = none) (d : Side)
    {x : Drum} (hx : x.disagree = false) (new : DrumState) (b : Bool) (v : Int) :
    Aftermath s (s.announceDrum d x new b v) ∧ (s.announceDrum d x new b v).drums = s.drums ∧
      (new = .lost → 11 ∈ (s.announceDrum d x new b v).trip.causes ∧
        .drumLost d ∈ (s.announceDrum d x new b v).trip.active) := by
  have hentry : Aftermath s (s.raiseEntry d new) ∧ (s.raiseEntry d new).drums = s.drums ∧
      (new = .lost → 11 ∈ (s.raiseEntry d new).trip.causes ∧ .drumLost d ∈ (s.raiseEntry d new).trip.active) := by
    unfold State.raiseEntry
    split
    next c hc =>
      rw [State.raiseCause_of_none hclosed]
      refine ⟨aftermath_raiseRecord hall c, State.raiseRecord_drums .., ?_⟩
      rintro rfl
      cases Option.some.inj hc
      refine ⟨by rw [State.raiseRecord_causes]; exact mem_insertCode.mpr (.inl rfl), ?_⟩
      have hother (j : Stage) (h : Chan) : Cause.drumLost d ≠ .tripPath j h := nofun
      rw [State.mem_raiseRecord_active_iff fun j h _ => hother j h]
      by_cases hstands : .drumLost d ∈ s.trip.active
      · exact .inl hstands
      · exact .inr ⟨rfl, rfl, fun y hy => decide_eq_false fun heq => hstands (heq ▸ hy)⟩
    next hc =>
      refine ⟨.rfl, rfl, ?_⟩
      rintro rfl
      exact nomatch hc
  obtain ⟨hafter, hdrums, hlost⟩ := hentry
  have hreport := aftermath_report (s.raiseEntry d new) (.drum d x.state new x.enc.a.failed x.enc.b.failed x.theta)
  have heq : s.announceDrum d x new b v =
      (s.raiseEntry d new).report (.drum d x.state new x.enc.a.failed x.enc.b.failed x.theta) := by
    unfold State.announceDrum
    rw [hx]
    dsimp only
    have hopen : ((s.raiseEntry d new).report
        (.drum d x.state new x.enc.a.failed x.enc.b.failed x.theta)).windOpen = false := by
      unfold State.windOpen
      rw [(hafter.trans hreport).closed, hclosed]
      rfl
    unfold State.startDegrade
    simp only [Bool.false_eq_true, if_false, hopen, false_and, ite_self]
  rw [heq]
  refine ⟨hafter.trans hreport, (State.report_drums ..).trans hdrums, fun hnew => ?_⟩
  rw [State.report_trip]
  exact hlost hnew

/-- An encoder that fails and so changes its drum, over latched stages and no wind. -/
theorem aftermath_failEncoder {s : State} (hall : ∀ k, s.latched k = true) (hclosed : s.wind.current = none) (d : Side)
    (e : Twin) {x y : Drum} (hx : s.drums.drum.get d = x) (hdis : x.disagree = false)
    (hy : (x.failing (decide (e = .a)) (decide (e = .b))).enter y.state = y)
    (hnew : stateOfHealth (x.failing (decide (e = .a)) (decide (e = .b))).enc x.state = y.state)
    (hne : x.state ≠ y.state) :
    Aftermath s (s.failEncoder d e) ∧ (s.failEncoder d e).drums = (s.setDrum d y).drums ∧
      (y.state = .lost → 11 ∈ (s.failEncoder d e).trip.causes ∧ .drumLost d ∈ (s.failEncoder d e).trip.active) := by
  have heq : s.failEncoder d e = (s.setDrum d y).announceDrum d (x.failing (decide (e = .a)) (decide (e = .b))) y.state
      (decide (x.state = .dual) && s.inPlay d)
      (s.setDrum d (x.failing (decide (e = .a)) (decide (e = .b)))).playSpeed := by
    unfold State.failEncoder
    rw [State.failEncoders_eq, hx, hnew, State.changeDrum_of_ne (by rw [State.setDrum_get]; exact hne),
      State.setDrum_get, State.setDrum_setDrum, hy]
    rfl
  obtain ⟨hafter, hdrums, hlost⟩ := aftermath_announceDrum (s := s.setDrum d y) hall hclosed d
    (x := x.failing (decide (e = .a)) (decide (e = .b))) hdis y.state (decide (x.state = .dual) && s.inPlay d)
    (s.setDrum d (x.failing (decide (e = .a)) (decide (e = .b)))).playSpeed
  rw [heq]
  exact ⟨(aftermath_setDrum s d y).trans hafter, hdrums, hlost⟩

/-- A drum as a reset leaves it: in DUAL, with nothing to clear. -/
structure Drum.Fresh (x : Drum) : Prop where
  state : x.state = .dual
  a : x.enc.a.failed = false
  b : x.enc.b.failed = false
  disagree : x.disagree = false
  agreeing : x.agreeing = 0
  history : x.history = []

/-- The drum state that the line monitors leave (R39, R40). -/
def monitoredState (m : PerTwin Bool) : DrumState :=
  match m.a, m.b with
  | true, true => .dual
  | true, false => .singleA
  | false, true => .singleB
  | false, false => .lost

/-- A fresh drum whose unmonitored encoders have failed (R22, R39, R40). -/
def Drum.unmonitored (x : Drum) (m : PerTwin Bool) : Drum :=
  { x with
    enc := ⟨{ x.enc.a with failed := !m.a }, { x.enc.b with failed := !m.b }⟩
    state := monitoredState m }

theorem Drum.Fresh.unmonitored_self {x : Drum} (hx : x.Fresh) : x.unmonitored ⟨true, true⟩ = x := by
  obtain ⟨hstate, ha, hb, -, -, -⟩ := hx
  obtain ⟨⟨⟨ca, fa⟩, ⟨cb, fb⟩⟩, state, sampled, dis, agreeing, theta, um, mm, history, v, rest, due⟩ := x
  dsimp only at *
  subst hstate ha hb
  rfl

/-- The first failure of a fresh drum leaves it on the other encoder. -/
theorem Drum.Fresh.enter_first {x : Drum} (hx : x.Fresh) (e : Twin) :
    let y := x.unmonitored ⟨decide (e ≠ .a), decide (e ≠ .b)⟩
    (x.failing (decide (e = .a)) (decide (e = .b))).enter y.state = y ∧
      stateOfHealth (x.failing (decide (e = .a)) (decide (e = .b))).enc x.state = y.state ∧ x.state ≠ y.state := by
  obtain ⟨hstate, ha, hb, hdis, hagreeing, hhistory⟩ := hx
  obtain ⟨⟨⟨ca, fa⟩, ⟨cb, fb⟩⟩, state, sampled, dis, agreeing, theta, um, mm, history, v, rest, due⟩ := x
  dsimp only at *
  subst hstate ha hb hdis hagreeing hhistory
  cases e
  · exact ⟨rfl, rfl, (nomatch ·)⟩
  · exact ⟨rfl, rfl, (nomatch ·)⟩

/-- The second failure leaves it LOST. -/
theorem Drum.Fresh.enter_second {x : Drum} (hx : x.Fresh) :
    let y := x.unmonitored ⟨false, false⟩
    ((x.unmonitored ⟨false, true⟩).failing false true).enter y.state = y := by
  obtain ⟨-, -, hb, hdis, hagreeing, hhistory⟩ := hx
  obtain ⟨⟨⟨ca, fa⟩, ⟨cb, fb⟩⟩, state, sampled, dis, agreeing, theta, um, mm, history, v, rest, due⟩ := x
  dsimp only at *
  subst hb hdis hagreeing hhistory
  rfl

/-- The failures that follow a reset for one drum. -/
theorem aftermath_failUnmonitored {s : State} (hall : ∀ k, s.latched k = true) (hclosed : s.wind.current = none)
    (d : Side) {x : Drum} (hget : s.drums.drum.get d = x) (hx : x.Fresh) {m : PerTwin Bool}
    (hm : s.pins.monitors.get d = m) :
    Aftermath s (s.failUnmonitored d) ∧ (s.failUnmonitored d).drums = (s.setDrum d (x.unmonitored m)).drums ∧
      (m = ⟨false, false⟩ → 11 ∈ (s.failUnmonitored d).trip.causes ∧ .drumLost d ∈ (s.failUnmonitored d).trip.active) ∧
      (m = ⟨true, true⟩ → s.failUnmonitored d = s) := by
  have hfirst (e : Twin) := aftermath_failEncoder hall hclosed d e hget hx.disagree (hx.enter_first e).1
    (hx.enter_first e).2.1 (hx.enter_first e).2.2
  unfold State.failUnmonitored
  rw [hm]
  obtain ⟨a, b⟩ := m
  cases a <;> cases b
  case true.true =>
    refine ⟨.rfl, ?_, nofun, fun _ => rfl⟩
    rw [hx.unmonitored_self, ← hget]
    exact congrArg State.drums (s.setDrum_self d).symm
  case true.false =>
    obtain ⟨hafter, hdrums, -⟩ := hfirst .b
    exact ⟨hafter, hdrums, nofun, nofun⟩
  case false.true =>
    obtain ⟨hafter, hdrums, -⟩ := hfirst .a
    exact ⟨hafter, hdrums, nofun, nofun⟩
  case false.false =>
    obtain ⟨hafter, hdrums, -⟩ := hfirst .a
    have hmid : (s.failEncoder d .a).drums.drum.get d = x.unmonitored ⟨false, true⟩ := by
      rw [hdrums]
      exact State.setDrum_get ..
    obtain ⟨hafter', hdrums', hlost⟩ := aftermath_failEncoder (s := s.failEncoder d .a) (e := .b)
      (y := x.unmonitored ⟨false, false⟩) (fun k => by rw [hafter.latched]; exact hall k)
      (by rw [hafter.closed]; exact hclosed) d hmid hx.disagree hx.enter_second rfl (nomatch ·)
    refine ⟨hafter.trans hafter', ?_, fun _ => hlost rfl, nofun⟩
    show ((s.failEncoder d .a).failEncoder d .b).drums = _
    have hset (u : State) (y : Drum) : (u.setDrum d y).drums = { u.drums with drum := u.drums.drum.set d y } := rfl
    rw [hdrums', hset, hdrums, hset, hset]
    cases d <;> rfl

end Sys2Proof.Machine
end


section
/-! The two resets as a whole: the restart proper (R160) and power-on (8.6). -/

namespace Sys2Proof.Machine

/-! ## What follows a reset at once -/

/-- A state as the reset of its blocks leaves it: every stage latched, every channel off, no wind and no proof, and both
drums fresh. -/
structure State.JustReset (s : State) : Prop where
  latched : ∀ k, s.latched k = true
  channels : s.trip.chan = channelsOff
  closed : s.wind.current = none
  test : s.inTripTest = false
  drum : ∀ d, (s.drums.drum.get d).Fresh

/-- An output channel that a reset leaves: de-energised, and compared (R148, R149). -/
def State.offChannel (s : State) (k : Stage) (h : Chan) : OutChannel := ⟨false, if s.readback k h then some 20 else none⟩

theorem State.JustReset.compared_compareAll {s : State} (hs : s.JustReset) :
    Compared s s.compareAll allChannels s.offChannel := by
  have hoff (k : Stage) (h : Chan) : s.channel k h = ⟨false, none⟩ := by
    unfold State.channel
    rw [hs.channels]
    cases k <;> cases h <;> rfl
  have hone {t : State} {l : List (Stage × Chan)} (h : Compared s t l s.offChannel) (k : Stage) (c : Chan)
      (hout : (k, c) ∉ l) : Compared s (t.compareChannel k c) (l ++ [(k, c)]) s.offChannel := by
    refine h.trans (compared_compareChannel (h.inTripTest.trans hs.test) k c ?_)
    rw [h.readback, h.channel, if_neg hout, hoff]
    unfold State.offChannel OutChannel.compared
    cases s.readback k c <;> rfl
  have hnone : Compared s s [] s.offChannel := ⟨fun _ _ => rfl, fun _ => ⟨fun h => ⟨h, nofun⟩, And.left⟩, rfl⟩
  exact hone (hone (hone (hone (hone (hone hnone .s1 .x (by decide)) .s1 .y (by decide)) .s2 .x (by decide)) .s2 .y
    (by decide)) .s3 .x (by decide)) .s3 .y (by decide)

/-- What a state is after a reset has been followed up. -/
structure ResetDone (s t : State) : Prop where
  frame : t = { s with
    link := t.link, drums := { s.drums with drum := t.drums.drum }
    trip := { t.trip with latch := s.trip.latch, chan := t.trip.chan } }
  link : LinkFlow s.link t.link
  load : t.link.load = s.link.load
  restartDue : t.link.restartDue = s.link.restartDue
  causes : s.trip.causes ⊆ t.trip.causes
  channel : ∀ k h, t.channel k h = s.offChannel k h
  drum : ∀ d, t.drums.drum.get d = (s.drums.drum.get d).unmonitored (s.pins.monitors.get d)
  lost : ∀ d, s.pins.monitors.get d = ⟨false, false⟩ → 11 ∈ t.trip.causes ∧ .drumLost d ∈ t.trip.active
  monitored : s.pins.monitors = ⟨⟨true, true⟩, ⟨true, true⟩⟩ → t.link = s.link ∧
    t.trip.capture = s.trip.capture ∧ t.trip.causes = s.trip.causes ∧
    ∀ x, x ∈ t.trip.active ↔ x ∈ s.trip.active ∧ ∀ k h, s.readback k h = false → x ≠ .tripPath k h

theorem State.JustReset.afterReset {s : State} (hs : s.JustReset) : ResetDone s s.afterReset := by
  have hcompared := hs.compared_compareAll
  have hpins : s.compareAll.pins = s.pins := by rw [hcompared.rest]
  have hget (d : Side) : s.compareAll.drums.drum.get d = s.drums.drum.get d := by rw [hcompared.rest]
  obtain ⟨hone, honeDrums, honeLost, honeKept⟩ := aftermath_failUnmonitored (s := s.compareAll)
    (fun k => by rw [hcompared.latched]; exact hs.latched k) (by rw [hcompared.rest]; exact hs.closed) .one
    (hget .one) (hs.drum .one) (by rw [hpins])
  have htwoGet : (s.compareAll.failUnmonitored .one).drums.drum.get .two = s.drums.drum.get .two := by
    rw [honeDrums]
    exact hget .two
  obtain ⟨htwo, htwoDrums, htwoLost, htwoKept⟩ := aftermath_failUnmonitored (s := s.compareAll.failUnmonitored .one)
    (fun k => by rw [hone.latched, hcompared.latched]; exact hs.latched k)
    (by rw [hone.closed, hcompared.rest]; exact hs.closed) .two htwoGet (hs.drum .two) (by rw [hone.pins, hpins])
  have hboth := hone.trans htwo
  have hafter : s.afterReset = (s.compareAll.failUnmonitored .one).failUnmonitored .two := rfl
  rw [← hafter] at hboth htwoDrums htwoLost htwoKept
  have hchan : s.afterReset.trip.chan = s.compareAll.trip.chan := by rw [hboth.frame]
  have hlink : s.compareAll.link = s.link := by rw [hcompared.rest]
  have hcauses : s.compareAll.trip.causes = s.trip.causes := by rw [hcompared.rest]
  refine ⟨?_, ?_, ?_, ?_, ?_, fun k h => ?_, fun d => ?_, fun d hd => ?_, fun hall => ?_⟩
  · conv => lhs; rw [hboth.frame, hcompared.rest]
    rw [hchan]
  · rw [← hlink]; exact hboth.link
  · rw [← hlink]; exact hboth.load
  · rw [← hlink]; exact hboth.restartDue
  · rw [← hcauses]; exact hboth.causes
  · unfold State.channel
    rw [hchan]
    exact (hcompared.channel k h).trans (if_pos (mem_allChannels k h))
  · cases d with
    | one =>
      have hkept : s.afterReset.drums.drum.one = (s.compareAll.failUnmonitored .one).drums.drum.one := by
        rw [htwoDrums]; rfl
      show s.afterReset.drums.drum.one = _
      rw [hkept, honeDrums]
      rfl
    | two =>
      rw [htwoDrums]
      rfl
  · cases d with
    | one =>
      obtain ⟨hcause, hactive⟩ := honeLost hd
      exact ⟨htwo.causes hcause, htwo.active hactive⟩
    | two => exact htwoLost hd
  · have hsame : s.afterReset = s.compareAll := by
      rw [htwoKept (by rw [hall]; rfl), honeKept (by rw [hall]; rfl)]
    rw [hsame]
    refine ⟨hlink, by rw [hcompared.rest], hcauses, fun x => ?_⟩
    rw [hcompared.active]
    refine and_congr_right fun _ => ⟨fun h k i hread => h k i (mem_allChannels k i) hread.symm,
      fun h k i _ hread => h k i hread.symm⟩

/-! ## Power-on (R19, R39, R59, R84, R130, R148, R159, R161) -/

theorem exec_powerOn (p : Pins) (s : State) : exec (.powerOn p) s = .next (s.powerOnBlocks p).afterReset := rfl

theorem inTripTest_of_reset {s : State} {b : Bool} (h : s.proof.readiness = readinessAfter b) : s.inTripTest = false := by
  unfold State.inTripTest
  rw [h]
  cases b <;> rfl

theorem State.justReset_powerOnBlocks (s : State) (p : Pins) : (s.powerOnBlocks p).JustReset where
  latched k := by cases k <;> rfl
  channels := rfl
  closed := rfl
  test := inTripTest_of_reset (s := s.powerOnBlocks p) rfl
  drum d := by cases d <;> exact ⟨rfl, rfl, rfl, rfl, rfl, rfl⟩

theorem restoredTable_eq (stored : Option StoredTable) :
    (stored.bind fun c => if tableCheck c.records = c.check then some (ActiveTable.of c.records c.check) else none) =
      restoredTable stored := by
  cases stored <;> rfl

theorem authorityOf_eq (active : Option ActiveTable) :
    (active.map fun a => a.eff.sup.authority).getD 5000 = authorityOf active := by
  cases active <;> rfl

theorem parkTheta_eq (park : Option Park) (d : Side) : (park.map fun q => q.theta.get d).getD 0 = parkTheta park d := by
  cases park <;> rfl

theorem parkK_eq (park : Option Park) (bound : Int) (clutch : Bool) (d : Side) :
    (park.map fun q => if d = .two ∧ q.clutch ≠ clutch then 0 else clamp (-bound) bound (q.K.get d)).getD 0 =
      parkK park bound clutch d := by
  cases park <;> rfl

/-- Settles O53: the blocks of power-on, and what follows them at once. -/
theorem powerOnStartsFromTheStore : Obligations.PowerOnStartsFromTheStore := by
  intro p s
  refine ⟨_, exec_powerOn p s, ?_⟩
  have hdone := (s.justReset_powerOnBlocks p).afterReset
  generalize (s.powerOnBlocks p).afterReset = t at hdone
  obtain ⟨hframe, hlink, hload, -, hcauses, hchannel, hdrum, -, hmonitored⟩ := hdone
  dsimp only
  rw [restoredTable_eq, authorityOf_eq]
  simp only [parkTheta_eq, parkK_eq]
  have hdrum (d : Side) : t.drums.drum.get d =
      (Drum.atPowerOn (parkTheta s.table.park d)).unmonitored (p.monitors.get d) := by
    rw [hdrum]
    cases d <;> rfl
  refine ⟨by rw [hframe]; rfl, by rw [hframe]; rfl, by rw [hframe]; rfl, by rw [hframe]; rfl, by rw [hframe]; rfl,
    by rw [hframe]; rfl, hlink.replies, hlink.tx, hload, hlink.quiet, hlink.silence, hlink.resetKind, fun d => ?_,
    fun d => ?_, fun k => ?_, hchannel, hcauses (List.mem_singleton.mpr rfl), fun hall => ?_⟩
  · rw [hdrum, hframe]
    refine ⟨rfl, rfl, rfl, fun e => by cases e <;> rfl, ?_, ?_⟩ <;> cases d <;> rfl
  · rw [hframe]; cases d <;> rfl
  · rw [hframe]; cases k <;> rfl
  · obtain ⟨hport, hcapture, hcode, hactive⟩ := hmonitored hall
    have hstate (d : Side) : (t.drums.drum.get d).state = .dual := by
      rw [hdrum, hall]; cases d <;> rfl
    refine ⟨hstate .one, hstate .two, by rw [hport]; rfl, by rw [hport]; rfl, hcode, ?_, hcapture⟩
    exact List.eq_nil_iff_forall_not_mem.mpr fun x hx => List.not_mem_nil ((hactive x).mp hx).1

/-! ## The restart proper (R18, R20, R22, R40, R60, R85, R107, R130, R149, R159, R160, R161, R172) -/

theorem State.justReset_restartBlocks (s : State) : s.restartBlocks.JustReset where
  latched := s.restartBlocks_latched
  channels := rfl
  closed := rfl
  test := inTripTest_of_reset (s := s.restartBlocks) rfl
  drum d := by cases d <;> exact ⟨rfl, rfl, rfl, rfl, rfl, rfl⟩

theorem exec_restartProper {s : State} {r : Reply} (htx : s.link.tx = some (.reply r)) (hcode : r.code = 0x0F)
    (hresult : r.result = .done) (hdue : s.link.restartDue = true) : exec .transmitFrameEnd s =
      .next ((s.setLink { s.link with tx := none }).restartProper).transmit := by
  have hend : s.endFrame = ((s.setLink { s.link with tx := none }).handFrameEnd (.reply r)).transmit := by
    unfold State.endFrame
    rw [htx]
  have hhand : (s.setLink { s.link with tx := none }).handFrameEnd (.reply r) =
      (s.setLink { s.link with tx := none }).restartProper := by
    refine if_pos ?_
    rw [Reply.isRestartDone, decide_eq_true ⟨hcode, hresult⟩]
    exact hdue
  show Host.Outcome.next s.endFrame = _
  rw [hend, hhand]

theorem Latch.restart_eq (l : Latch) : l.restart = if l.isLatched then l else .latched (.reset .restart) := by
  cases l <;> rfl

theorem Cause.staysAtRestart_iff (c : Cause) :
    c.staysAtRestart = true ↔ c.kind = .advisory ∧ ∀ d, c ≠ .encoderDisagreement d := by
  cases c <;> simp [Cause.staysAtRestart]

theorem State.transmit_of_quiet {s : State} {n : Nat} (h : s.link.quiet = some n) : s.transmit = s := by
  have hserve : s.link.serve = s.link := by
    unfold LinkPort.serve
    rw [h]
    split <;> first | contradiction | rfl
  rw [State.transmit_eq, hserve]
  rfl

/-- A port that has seen nothing but reports since its reset. -/
theorem LinkPort.eq_of_reset {kind : ResetKind} {q : LinkPort} (h : LinkFlow (LinkPort.afterReset kind) q)
    (hload : q.load = none) (hdue : q.restartDue = false) :
    q = { LinkPort.afterReset kind with reports := q.reports, lost := q.lost } := by
  obtain ⟨hrx, hsilence, hstatus, hquiet, hkind, hreplies, htx, -⟩ := h
  cases q
  dsimp only at *
  subst hrx hsilence hstatus hquiet hkind hreplies htx hload hdue
  rfl

/-- The park write requested at a restart holds what stood, whatever the staged table and the port (R18, R20). -/
theorem State.tableParked_restart (s : State) (l : LinkPort) :
    (s.setLink l).tableParked.restart = { s with table := { s.table with staged := [] } }.tableParked := by
  unfold State.tableParked State.setLink ShaftTable.restart
  dsimp only
  cases s.table.parkWrite <;> rfl

/-- The blocks of a restart proper, with the park write requested (R160). -/
def State.restarted (s : State) : State := (s.setLink { s.link with tx := none }).requestPark.restartBlocks

theorem State.restarted_table (s : State) :
    s.restarted.table = { s with table := { s.table with staged := [] } }.tableParked := by
  rw [← s.tableParked_restart { s.link with tx := none }]
  unfold State.restarted
  rw [State.requestPark_eq]
  rfl

/-- The other blocks look at no part of the park write. -/
theorem State.restarted_frame (s : State) : s.restarted = { s.restartBlocks with table := s.restarted.table } := by
  have hactive := (s.setLink { s.link with tx := none }).tableParked_active
  unfold State.restarted
  rw [State.requestPark_eq]
  unfold State.restartBlocks State.hasTable
  dsimp only
  rw [hactive]
  rfl

/-- Settles O52: the park write is requested with what stood, the blocks are reset, and what follows at once. -/
theorem restartProperResetsTheBlocks : Obligations.RestartProperResetsTheBlocks := by
  intro s r htx hcode hresult hdue
  have hdone := ((s.setLink { s.link with tx := none }).requestPark.justReset_restartBlocks).afterReset
  change ResetDone s.restarted (s.setLink { s.link with tx := none }).restartProper at hdone
  have hquiet : (s.setLink { s.link with tx := none }).restartProper.link.quiet = some 100 := hdone.link.quiet
  refine ⟨_, (exec_restartProper htx hcode hresult hdue).trans (congrArg _ (State.transmit_of_quiet hquiet)), ?_⟩
  generalize (s.setLink { s.link with tx := none }).restartProper = t at hdone
  obtain ⟨hframe, hlink, hload, hrestart, hcauses, hchannel, hdrum, hlost, hmonitored⟩ := hdone
  have htable := s.restarted_table
  rw [State.restarted_frame] at hframe hcauses hdrum hlost hmonitored hchannel
  have hlink : LinkFlow (LinkPort.afterReset .restart) t.link := hlink
  refine ⟨?_, by rw [hframe]; rfl, by rw [hframe]; rfl, ?_, by rw [hframe]; rfl, fun d => ⟨?_, hlost d⟩, fun d => ?_,
    fun d r => ?_, fun k => ?_, hchannel, fun n hn => ?_, by rw [hframe]; rfl, by rw [hframe]; rfl, by rw [hframe]; rfl,
    by rw [hframe]; rfl, by rw [hframe]; rfl, by rw [hframe]; rfl, fun hall => ?_⟩
  · rw [LinkPort.eq_of_reset hlink hload hrestart]
    rfl
  · rw [State.parkRequested_iff, hframe]
    exact htable
  · rw [hdrum]
    cases d <;> rfl
  · rw [hframe]
    have hlock (l : Lock) : l.restart = if l.referenced then .suspect else .unreferenced := by cases l <;> rfl
    cases d <;> exact ⟨rfl, rfl, rfl, hlock _⟩
  · rw [hframe]
    cases d <;> cases r <;> exact ⟨rfl, rfl, rfl, rfl⟩
  · rw [hframe]
    cases k <;> exact Latch.restart_eq _
  · exact hcauses (mem_insertCode.mpr hn)
  · obtain ⟨hport, hcapture, hcodes, hactive⟩ := hmonitored hall
    refine ⟨by rw [hport]; rfl, by rw [hport]; rfl, hcapture, fun n => ?_, fun c => ?_⟩
    · rw [hcodes]
      exact mem_insertCode
    · rw [hactive]
      show (c ∈ s.trip.active.filter Cause.staysAtRestart ∧ _) ↔ _
      rw [List.mem_filter, Cause.staysAtRestart_iff]
      refine ⟨And.left, fun h => ⟨h, fun k i _ heq => ?_⟩⟩
      rw [heq] at h
      exact nomatch h.2.1

end Sys2Proof.Machine
end


section
/-! The frames on the lines, written and read back (R41, R42, R162, R164). -/

namespace Sys2Proof.Machine

/-! ## Two-byte values -/

/-- A 2-byte value written at an offset is read back there. -/
theorem halfAt_be16 (front rest : List Byte) (x : Half) : halfAt (front ++ (be16 x ++ rest)) front.length = x := by
  have hhigh : byteAt (front ++ (be16 x ++ rest)) front.length = x.toNat / 256 := by
    unfold byteAt
    rw [List.getD_eq_getElem?_getD, List.getElem?_append_right (Nat.le_refl _), Nat.sub_self]
    show (x.extractLsb' 8 8).toNat = _
    have := x.isLt
    rw [BitVec.extractLsb'_toNat, Nat.shiftRight_eq_div_pow]
    omega
  have hlow : byteAt (front ++ (be16 x ++ rest)) (front.length + 1) = x.toNat % 256 := by
    unfold byteAt
    rw [List.getD_eq_getElem?_getD, List.getElem?_append_right (Nat.le_add_right _ 1), Nat.add_sub_cancel_left]
    show (x.extractLsb' 0 8).toNat = _
    rw [BitVec.extractLsb'_toNat, Nat.shiftRight_zero]
  apply BitVec.eq_of_toNat_eq
  unfold halfAt
  rw [hhigh, hlow, BitVec.toNat_ofNat]
  have := x.isLt
  omega

theorem be16_length (x : Half) : (be16 x).length = 2 := rfl

/-! ## The host receiver (R162) -/

theorem linkRxBytes_cons (rx : RxPhase) (b : Byte) (rest : List Byte) : linkRxBytes rx (b :: rest) =
    ((linkRxBytes (linkRxByte rx b).1 rest).1,
      (linkRxByte rx b).2.toList ++ (linkRxBytes (linkRxByte rx b).1 rest).2) := rfl

/-- Bytes that are no sync byte leave the receiver hunting. -/
theorem linkRxBytes_junk (junk rest : List Byte) (h : linkSync ∉ junk) :
    linkRxBytes .hunting (junk ++ rest) = linkRxBytes .hunting rest := by
  induction junk with
  | nil => rfl
  | cons b junk ih =>
    have hb : linkRxByte .hunting b = (.hunting, none) := by
      unfold linkRxByte
      have hne : b ≠ linkSync := fun heq => h (heq ▸ List.mem_cons_self)
      rw [if_neg hne]
    rw [List.cons_append, linkRxBytes_cons, hb, ih fun hmem => h (List.mem_cons_of_mem b hmem)]
    rfl

/-- A receiver that awaits as many bytes as come completes its frame with the last and hunts again. -/
theorem linkRxBytes_assembling (bytes held : List Byte) (h : bytes ≠ []) :
    linkRxBytes (.assembling bytes.length held) bytes = (.hunting, [held.reverse ++ bytes]) := by
  induction bytes generalizing held with
  | nil => exact absurd rfl h
  | cons b rest ih =>
    cases rest with
    | nil => rfl
    | cons b' rest =>
      have hstep : linkRxByte (.assembling (b :: b' :: rest).length held) b =
          (.assembling (b' :: rest).length (b :: held), none) := by
        have hmore : ¬(b :: b' :: rest).length ≤ 1 := by simp
        simp only [linkRxByte, if_neg hmore]
        rfl
      rw [linkRxBytes_cons, hstep, ih (b :: held) (List.cons_ne_nil _ _), List.reverse_cons, List.append_assoc]
      rfl

theorem byteOf_length_toNat {payload : List Byte} (h : payload.length ≤ 60) :
    (byteOf payload.length).toNat = payload.length := by
  unfold byteOf
  rw [BitVec.toNat_ofNat]
  omega

/-- The receiver takes a frame whole. -/
theorem linkRxBytes_frameBytes {payload : List Byte} (hlo : 2 ≤ payload.length) (hhi : payload.length ≤ 60) :
    linkRxBytes .hunting (frameBytes payload) = (.hunting, [frameBytes payload]) := by
  have hlen := byteOf_length_toNat hhi
  have hsync : linkRxByte .hunting linkSync = (.takingLength, none) := rfl
  have hlength : linkRxByte .takingLength (byteOf payload.length) =
      (.assembling (payload ++ be16 (crc16 (byteOf payload.length :: payload))).length
        [byteOf payload.length, linkSync], none) := by
    have hgood : ¬((byteOf payload.length).toNat < 2 ∨ 60 < (byteOf payload.length).toNat) := by omega
    simp only [linkRxByte, if_neg hgood]
    rw [hlen, List.length_append, be16_length]
  show linkRxBytes .hunting (linkSync :: byteOf payload.length :: (payload ++ _)) = _
  rw [linkRxBytes_cons, hsync, linkRxBytes_cons, hlength, linkRxBytes_assembling]
  · rfl
  · exact List.append_ne_nil_of_right_ne_nil _ (List.cons_ne_nil _ _)

/-! ## The request a frame carries (R164, R165) -/

theorem requestOf_of_unknown {code : Byte} (h : isRequestCode code = false) (tag : Byte) (body : List Byte) :
    requestOf code tag body = .unknownRequest code tag body := by
  unfold requestOf
  split
  case h_16 => rfl
  all_goals
    next hcode => rw [isRequestCode, hcode] at h; contradiction

/-- The payload of a well-formed request names it. -/
theorem payload_names {c : Instr} {p : List Byte} (hc : wellFormed c = true) (hp : requestPayload c = some p) :
    ∃ code tag body, p = code :: tag :: body ∧ body.length ≤ 58 ∧ requestOf code tag body = c := by
  cases c <;> cases hp
  case unknownRequest code tag body =>
    obtain ⟨hfits, hcode⟩ := Bool.and_eq_true_iff.mp hc
    exact ⟨code, tag, body, rfl, of_decide_eq_true hfits, requestOf_of_unknown (by simpa using hcode) tag body⟩
  all_goals exact ⟨_, _, _, rfl, of_decide_eq_true hc, rfl⟩

/-- A frame is read back as the request its payload names. -/
theorem hostFrameCommand_frameBytes (code tag : Byte) {body : List Byte} (h : body.length ≤ 58) :
    hostFrameCommand (frameBytes (code :: tag :: body)) = some (requestOf code tag body) := by
  have hlen : (byteOf (code :: tag :: body).length).toNat = (code :: tag :: body).length :=
    byteOf_length_toNat (by simp only [List.length_cons]; omega)
  have htake : ((code :: tag :: body) ++ be16 (crc16 (byteOf (code :: tag :: body).length :: code :: tag :: body))).take
      (code :: tag :: body).length = code :: tag :: body := List.take_left
  have hcheck := halfAt_be16 (code :: tag :: body) [] (crc16 (byteOf (code :: tag :: body).length :: code :: tag :: body))
  rw [List.append_nil] at hcheck
  show hostFrameCommand (linkSync :: byteOf (code :: tag :: body).length :: ((code :: tag :: body) ++ _)) = _
  unfold hostFrameCommand
  dsimp only
  rw [hlen, htake, hcheck, if_neg (by simp), if_neg (by simp only [List.length_cons]; omega),
    if_neg (by simp [be16_length]), if_neg (by simp)]

/-! ## The load sample frame (R41, R42) -/

/-- The first byte of a load frame holds the sequence number and the four status flags. -/
theorem loadFlags_read : ∀ (q : Fin 16) (a b c d : Bool),
    let flags := byteOf (q.val * 16 + a.toNat + 2 * b.toNat + 4 * c.toNat + 8 * d.toNat)
    flags.toNat / 16 % 16 = q.val ∧ flags.getLsbD 0 = a ∧ flags.getLsbD 1 = b ∧ flags.getLsbD 2 = c ∧
      flags.getLsbD 3 = d := by
  decide

theorem loadValue_read (v : Option Half) : loadValue v.isSome (v.getD 0) = v := by
  cases v <;> rfl

theorem loadFrameCommand_loadFrameBytes (f : LoadFrame) :
    loadFrameCommand (loadFrameBytes f) = some (.loadSample f) := by
  obtain ⟨q, ⟨⟨a, b⟩, ⟨c, d⟩⟩⟩ := f
  obtain ⟨hseq, ha, hb, hc, hd⟩ := loadFlags_read q a.isSome b.isSome c.isSome d.isSome
  generalize hflags : byteOf (q.val * 16 + a.isSome.toNat + 2 * b.isSome.toNat + 4 * c.isSome.toNat +
    8 * d.isSome.toNat) = flags at hseq ha hb hc hd
  generalize hx : a.getD 0 = xa
  generalize hy : b.getD 0 = xb
  generalize hz : c.getD 0 = xc
  generalize hw : d.getD 0 = xd
  have hframe : loadFrameBytes ⟨q, ⟨⟨a, b⟩, ⟨c, d⟩⟩⟩ = loadSync :: (flags :: (be16 xa ++ be16 xb ++ be16 xc ++ be16 xd) ++
      be16 (crc16 (flags :: (be16 xa ++ be16 xb ++ be16 xc ++ be16 xd)))) := by
    rw [← hflags, ← hx, ← hy, ← hz, ← hw]
    rfl
  generalize hcrc : crc16 (flags :: (be16 xa ++ be16 xb ++ be16 xc ++ be16 xd)) = crc at hframe
  have h1 := halfAt_be16 [flags] (be16 xb ++ be16 xc ++ be16 xd ++ be16 crc) xa
  have h3 := halfAt_be16 (flags :: be16 xa) (be16 xc ++ be16 xd ++ be16 crc) xb
  have h5 := halfAt_be16 (flags :: (be16 xa ++ be16 xb)) (be16 xd ++ be16 crc) xc
  have h7 := halfAt_be16 (flags :: (be16 xa ++ be16 xb ++ be16 xc)) (be16 crc) xd
  have h9 := halfAt_be16 (flags :: (be16 xa ++ be16 xb ++ be16 xc ++ be16 xd)) [] crc
  generalize hrest : flags :: (be16 xa ++ be16 xb ++ be16 xc ++ be16 xd) ++ be16 crc = rest at hframe
  have hread (front back : List Byte) (x : Half) (n : Nat) (h : halfAt (front ++ (be16 x ++ back)) front.length = x)
      (hn : front.length = n) (hsame : front ++ (be16 x ++ back) = rest) : halfAt rest n = x := by
    rw [← hsame, ← hn]; exact h
  have hcheck : crc16 (rest.take 9) = halfAt rest 9 := by
    rw [hread _ _ _ 9 h9 rfl (by rw [← hrest]; rfl), ← hcrc, ← hrest]
    rfl
  have hbyte : byteAt rest 0 = flags.toNat := by rw [← hrest]; rfl
  have hbit (n : Nat) : bitAt rest 0 n = flags.getLsbD n := by rw [← hrest]; rfl
  rw [hframe]
  unfold loadFrameCommand
  dsimp only
  rw [if_neg (not_or.mpr ⟨Classical.not_not.mpr rfl, Classical.not_not.mpr (by rw [← hrest]; rfl)⟩), if_neg (Classical.not_not.mpr hcheck), hbit, hbit, hbit, hbit, ha, hb, hc, hd,
    hread _ _ _ 1 h1 rfl (by rw [← hrest]; rfl), hread _ _ _ 3 h3 rfl (by rw [← hrest]; rfl),
    hread _ _ _ 5 h5 rfl (by rw [← hrest]; rfl), hread _ _ _ 7 h7 rfl (by rw [← hrest]; rfl), ← hx, ← hy, ← hz, ← hw,
    loadValue_read, loadValue_read, loadValue_read, loadValue_read]
  simp only [hbyte, hseq]

/-- Settles O32: the length, the payload and the check of a frame, byte by byte of the receiver. -/
theorem framesRoundTrip : Obligations.FramesRoundTrip := by
  refine ⟨fun c bytes hc hbytes => ?_, fun f => ⟨rfl, loadFrameCommand_loadFrameBytes f⟩⟩
  obtain ⟨p, hp, rfl⟩ := Option.map_eq_some_iff.mp hbytes
  obtain ⟨code, tag, body, rfl, hbody, hcommand⟩ := payload_names hc hp
  have hlength : (frameBytes (code :: tag :: body)).length = body.length + 6 := by
    simp [frameBytes, be16_length]
  refine ⟨by omega, by omega, ?_, fun junk hjunk => ?_⟩
  · rw [hostFrameCommand_frameBytes code tag hbody, hcommand]
  · rw [linkRxBytes_junk junk _ hjunk]
    exact linkRxBytes_frameBytes (by simp) (by simp only [List.length_cons]; omega)

end Sys2Proof.Machine
end


section
/-! What the proof unit's sittings and the rope load unit's work leave of the rest of the machine, and a load evaluation as
each side sees it. -/

namespace Sys2Proof.Machine

/-! ## The proof unit's sittings -/

section
variable {k : Watch} (s : State)

theorem keeps_setProof (x : ProofUnit) : Keeps k s (s.setProof x) :=
  .of_block rfl rfl rfl (fun _ _ => rfl) (fun _ => ⟨rfl, rfl, rfl⟩) (fun _ _ => rfl) (fun _ _ => rfl) ⟨rfl, rfl, rfl⟩
    (fun _ => rfl) (fun _ => rfl) (fun _ => rfl)

/-- The output channels replaced. -/
theorem keeps_setTrip (x : TripUnit) (causes : x.causes = s.trip.causes) (latch : x.latch = s.trip.latch)
    (active : x.active = s.trip.active) : Keeps k s (s.setTrip x) :=
  .of_frame rfl (by rw [← causes]; exact fun _ h => h) latch (fun _ h => h)
    (by rw [← active]; exact fun _ h => h) (by rw [← active]; exact fun _ _ _ => Iff.rfl)

theorem keeps_setChannel (j : Stage) (h : Chan) (x : OutChannel) : Keeps k s (s.setChannel j h x) :=
  keeps_setTrip s _ rfl rfl rfl

theorem keeps_compareChannel (j : Stage) (h : Chan) : Keeps k s (s.compareChannel j h) := by
  unfold State.compareChannel
  refine .unless (.ite (.trans (keeps_setChannel _ _ _ _) (keeps_dropActive _ _ ?_ ?_)) (.onlyIf (keeps_setChannel _ _ _ _)))
  · exact fun d => decide_eq_false (nomatch ·)
  · exact fun c hc _ => decide_eq_false fun heq => by rw [heq] at hc; contradiction

theorem keeps_releaseChannel (j : Stage) (h : Chan) : Keeps k s (s.releaseChannel j h) :=
  (keeps_setChannel s j h _).trans (keeps_compareChannel _ j h)

theorem keeps_releaseChannels : Keeps k s s.releaseChannels := by
  rw [State.releaseChannels_eq]
  exact (((((keeps_releaseChannel s .s1 .x).trans (keeps_releaseChannel _ .s1 .y)).trans
    (keeps_releaseChannel _ .s2 .x)).trans (keeps_releaseChannel _ .s2 .y)).trans
    (keeps_releaseChannel _ .s3 .x)).trans (keeps_releaseChannel _ .s3 .y)

theorem keeps_leaveProof (r : Readiness) : Keeps k s (s.leaveProof r) :=
  .ite ((keeps_setProof s _).trans (keeps_releaseChannels _)) (keeps_setProof s _)

theorem keeps_failProof (step code detail : Nat) : Keeps k s (s.failProof step code detail) :=
  ((keeps_leaveProof s _).trans (keeps_setProof _ _)).trans (keeps_report _ _)

theorem keeps_half (j : Stage) (h : Chan) (e : Bool) : Keeps k s (s.half j h e) :=
  (keeps_setProof s _).trans (keeps_setTrip _ _ rfl rfl rfl)

theorem keeps_passLoads : Keeps k s s.passLoads := by
  unfold State.passLoads
  rw [State.beginHalf_energise]
  exact (keeps_report s _).trans (keeps_half _ _ _ _)

theorem keeps_sampleLoads : Keeps k s s.sampleLoads := by
  unfold State.sampleLoads
  split
  next =>
    split
    next => exact keeps_failProof s _ _ _
    next => exact .ite (keeps_failProof s _ _ _) (.ite (keeps_failProof s _ _ _) (keeps_passLoads s))
  next => exact .rfl

theorem keeps_judgeEncoders : Keeps k s s.judgeEncoders :=
  .ite (keeps_failProof s _ _ _) (.ite (keeps_failProof s _ _ _) ((keeps_setProof s _).trans (keeps_report _ _)))

theorem keeps_judgeMarkers : Keeps k s s.judgeMarkers := by
  unfold State.judgeMarkers
  split
  next => exact keeps_failProof s _ _ _
  next => exact (keeps_setProof s _).trans (keeps_report _ _)

theorem keeps_sampleProof : Keeps k s s.sampleProof := by
  unfold State.sampleProof
  split
  next =>
    refine .ite (keeps_failProof s _ _ _) (.ite (keeps_failProof s _ _ _) ?_)
    split
    next => exact keeps_judgeEncoders s
    next => exact keeps_judgeMarkers s
    all_goals exact .rfl
  next => exact .rfl

end

/-! ## The rope load unit -/

section
variable {k : Watch} (s : State)

theorem keeps_judgeBothBad (d : Side) (h : ¬k.rope d) (hd : ¬k.degrade) : Keeps k s (s.judgeBothBad d) := by
  unfold State.judgeBothBad
  exact .unless (((keeps_setRopeSide s d _ h).trans (.onlyIf (keeps_startDegrade _ _ hd))).trans (keeps_judgeLoadLost _))

theorem keeps_setLoadChan (d : Side) (r : Twin) (x : LoadChannel) (h : ¬k.rope d) : Keeps k s (s.setLoadChan d r x) :=
  keeps_setRopeSide s d _ h

theorem keeps_updateChannel (d : Side) (r : Twin) (value : Option Half) (h : ¬k.rope d) (hd : ¬k.degrade)
    (he : ¬k.entry (.loadChannel d r)) : Keeps k s (s.updateChannel d r value) := by
  unfold State.updateChannel
  dsimp only
  split
  next => exact keeps_setLoadChan s _ _ _ h
  next =>
    exact ((keeps_setLoadChan s _ _ _ h).trans (.onlyIf (keeps_clearAdvisory _ _ rfl he))).trans
      (keeps_judgeBothBad _ _ h hd)

theorem keeps_weigh (d : Side) (h : ¬k.rope d) : Keeps k s (s.weigh d) := keeps_setRopeSide s d _ h

theorem keeps_judgeAlarm (d : Side) (i : Int) (h : ¬k.rope d) (he : ¬k.entry (.balance d)) :
    Keeps k s (s.judgeAlarm d i) := by
  have hset (x : RopeSide) := keeps_setRopeSide s d x h
  exact .ite (.ite ((hset _).trans (keeps_setAdvisory _ _ he)) (hset _))
    (.ite (hset _) (.ite ((hset _).trans (keeps_clearAdvisory _ _ rfl he)) (hset _)))

theorem keeps_judgeImbalance (d : Side) (i : Int) (h : ¬k.rope d) : Keeps k s (s.judgeImbalance d i) := by
  have hset (x : RopeSide) := keeps_setRopeSide s d x h
  exact .ite (hset _) (.ite ((hset _).trans (keeps_raiseCause _ _ (nomatch ·))) (hset _))

theorem keeps_judgeBalance (d : Side) (h : ¬k.rope d) (he : ¬k.entry (.balance d)) : Keeps k s (s.judgeBalance d) :=
  .onlyIf ((keeps_judgeAlarm s d _ h he).trans (keeps_judgeImbalance _ d _ h))

theorem keeps_judgeSlack (d : Side) (h : ¬k.rope d) : Keeps k s (s.judgeSlack d) := by
  have hset (x : RopeSide) := keeps_setRopeSide s d x h
  exact .ite (hset _) (.ite ((hset _).trans (keeps_raiseCause _ _ (nomatch ·))) (hset _))

end

/-! ## One side at a load evaluation -/

/-- A channel after a valid frame: its value taken, or lost (R44, R46). -/
def LoadChannel.update (x : LoadChannel) : Option Half → LoadChannel
  | none => x.lose
  | some v => x.take v.toNat

/-- What an evaluation sees beside the rope records, and one side's record with an advisory watched. -/
def ropeWatch (side : Side → Prop) (entry : Cause → Prop) : Watch where
  drum _ := True
  hold := True
  track _ := True
  rope := side
  env := True
  counters := True
  degrade := False
  entry := entry
  count _ := ⟨0, 0, 0, 0, 0⟩

/-- The work of the rope unit from `s` to `t` off the watched sides and advisories. -/
structure RopeWork (side : Side → Prop) (entry : Cause → Prop) (s t : State) : Prop where
  work : Work s t
  keeps : Keeps (ropeWatch side entry) s t

theorem RopeWork.rfl {side entry} {s : State} : RopeWork side entry s s := ⟨.rfl, .rfl⟩

theorem RopeWork.trans {side entry} {s t u : State} (h : RopeWork side entry s t) (g : RopeWork side entry t u) :
    RopeWork side entry s u := ⟨h.work.trans g.work, h.keeps.trans g.keeps⟩

section
variable {side : Side → Prop} {entry : Cause → Prop} {s t : State} (h : RopeWork side entry s t)
include h

theorem RopeWork.sideData (d : Side) : t.sideData d = s.sideData d := by
  unfold State.sideData; rw [h.work.active]

theorem RopeWork.hasTable : t.hasTable = s.hasTable := State.hasTable_congr h.work.active

theorem RopeWork.speed (d : Side) : t.speed d = s.speed d := by
  unfold State.speed; rw [h.keeps.drum d trivial]

theorem RopeWork.suspended (d : Side) : t.suspended d = s.suspended d := by
  unfold State.suspended State.winder
  rw [h.keeps.track d trivial, h.work.active]

theorem RopeWork.ropeTerm (d : Side) : t.ropeTerm d = s.ropeTerm d := by
  unfold State.ropeTerm; rw [h.suspended, h.sideData]

theorem RopeWork.emptyTension (d : Side) : t.emptyTension d = s.emptyTension d := by
  unfold State.emptyTension; rw [h.ropeTerm, h.sideData]

theorem RopeWork.inPlay (d : Side) : t.inPlay d = s.inPlay d := by
  unfold State.inPlay; rw [h.work.inputs]

theorem RopeWork.sampled : t.drums.sampled = s.drums.sampled := (h.keeps.hold trivial).2.2

end

/-! ### Each operation on its own side -/

theorem PerSide.eq_of_get {α : Type} {p q : PerSide α} (h : ∀ d, p.get d = q.get d) : p = q :=
  show PerSide.mk (p.get .one) (p.get .two) = ⟨q.get .one, q.get .two⟩ by rw [h, h]

theorem State.judgeLoadLost_side (s : State) : s.judgeLoadLost.rope.side = s.rope.side := by
  have h (d : Side) := (keeps_judgeLoadLost (k := ropeWatch (fun _ => True) fun _ => False) s).rope d trivial
  exact PerSide.eq_of_get h

theorem State.raiseCause_ropeSide (s : State) (c : Cause) (hc : c.kind ≠ .advisory) :
    (s.raiseCause c).rope.side = s.rope.side := by
  have h (d : Side) := (keeps_raiseCause (k := ropeWatch (fun _ => True) fun _ => False) s c hc).rope d trivial
  exact PerSide.eq_of_get h

theorem State.judgeBothBad_side (s : State) (d : Side) : (s.judgeBothBad d).rope.side.get d =
    { s.rope.side.get d with bothBad := (s.rope.side.get d).isBothBad } := by
  by_cases h : (s.rope.side.get d).isBothBad = (s.rope.side.get d).bothBad
  · rw [State.judgeBothBad, if_pos h, h]
  · simp only [State.judgeBothBad, if_neg h, State.judgeLoadLost_side, apply_ite State.rope, State.startDegrade_rope,
      ite_self]
    exact PerSide.get_set_self _ _ _

theorem State.setLoadChan_side (s : State) (d : Side) (r : Twin) (x : LoadChannel) :
    (s.setLoadChan d r x).rope.side.get d =
      { s.rope.side.get d with chan := (s.rope.side.get d).chan.set r x } := PerSide.get_set_self _ _ _

theorem State.updateChannel_side (s : State) (d : Side) (r : Twin) (value : Option Half) :
    ∃ b, (s.updateChannel d r value).rope.side.get d = { s.rope.side.get d with
      chan := (s.rope.side.get d).chan.set r ((s.loadChan d r).update value), bothBad := b } := by
  cases value with
  | none => exact ⟨_, State.setLoadChan_side s d r _⟩
  | some v =>
    obtain ⟨x, hx⟩ : ∃ x, x = if (s.loadChan d r).alarm then
        (s.setLoadChan d r ((s.loadChan d r).take v.toNat)).clearAdvisory (.loadChannel d r)
      else s.setLoadChan d r ((s.loadChan d r).take v.toNat) := ⟨_, rfl⟩
    have hside : x.rope.side.get d = { s.rope.side.get d with
        chan := (s.rope.side.get d).chan.set r ((s.loadChan d r).take v.toNat) } := by
      rw [hx, apply_ite State.rope, State.clearAdvisory_rope, ite_self, State.setLoadChan_side]
    have hupdate : s.updateChannel d r (some v) = x.judgeBothBad d := by rw [hx]; rfl
    exact ⟨_, by rw [hupdate, State.judgeBothBad_side, hside]; rfl⟩

/-! ## Advisories (R136) -/

theorem State.mem_addActive (s : State) {c : Cause} (h : c.isLimit = false) : c ∈ (s.addActive c).trip.active := by
  have hsame (x : Cause) : sameEntry c x = decide (c = x) := by
    cases c <;> first | rfl | contradiction
  unfold State.addActive
  split
  next hany =>
    obtain ⟨x, hx, hcx⟩ := List.any_eq_true.mp hany
    rw [hsame, decide_eq_true_iff] at hcx
    rwa [hcx]
  next => exact List.mem_append_right _ List.mem_cons_self

/-- An advisory that is set: its code, its entry, its report and no latch. -/
theorem State.setAdvisory_sets (s : State) (c : Cause) (h : c.isLimit = false) :
    c.code ∈ (s.setAdvisory c).trip.causes ∧ c ∈ (s.setAdvisory c).trip.active ∧
      (s.setAdvisory c).trip.latch = s.trip.latch ∧
      (s.setAdvisory c).link = s.link.push (s.stamped (.alarm c true)) := by
  unfold State.setAdvisory
  rw [State.report_trip, State.offerCapture_trip]
  refine ⟨?_, (s.addCause c).mem_addActive h, ?_, ?_⟩
  · have hadd : c.code ∈ (s.addCause c).trip.causes := mem_insertCode.mpr (.inl rfl)
    unfold State.addActive
    split
    · exact hadd
    · exact hadd
  · unfold State.addActive
    split <;> rfl
  · rw [State.report_link, State.offerCapture_link, State.addActive_link, State.stamped_congr (s := s) (by simp [State.addCause])]
    rfl

theorem State.clearAdvisory_clears (s : State) (c : Cause) :
    c ∉ (s.clearAdvisory c).trip.active ∧ (s.clearAdvisory c).Holds (s.stamped (.alarm c false)) := by
  refine ⟨?_, ((s.dropActive fun x => x = c).report_holds (.alarm c false)).1⟩
  unfold State.clearAdvisory
  rw [State.report_trip]
  simp [State.dropActive]

end Sys2Proof.Machine
end


section
/-! The load-lost judgement (R57), and the expiry of a hold timer (R44, R45, R56). -/

namespace Sys2Proof.Machine

/-! ## A raise over a wind under way (R121) -/

/-- A latch that a wind under way did not have stops it, and is its own first cause. -/
theorem State.raiseCause_stops {s : State} {w : OpenWind} {c : Cause} {k : Stage} (hw : s.wind.current = some w)
    (hp : w.phase = .running ∨ w.phase = .creep) (hc : c.reaches k = true) (hclear : s.latched k = false) :
    (s.raiseCause c).phase = some .stopping ∧ (s.raiseCause c).wind.current.bind OpenWind.stop = some .trip ∧
      (s.raiseCause c).trip.latch.get k = .latched c := by
  have hfresh : k ∈ s.newlyLatched c := State.mem_newlyLatched.mpr ⟨hc, hclear⟩
  rw [State.raiseCause_of_fresh (List.ne_nil_of_mem hfresh),
    State.handLatch_of_underWay (by rw [State.raiseRecord_wind]; exact hw) c hp, State.enterStopping_eq]
  exact ⟨rfl, rfl, by rw [State.raiseRecord_latch, if_pos hfresh]⟩

theorem KeepsBase.stays_stopping {k : Watch} {s t : State} (h : KeepsBase k s t) {w : OpenWind}
    (hw : s.wind.current = some w) (hp : w.phase = .stopping) : t.phase = some .stopping :=
  h.stopping (by unfold State.phase; rw [hw, ← hp]; rfl)

/-! ## The load-lost judgement (R57) -/

/-- Whether a side in play has the both-BAD status. -/
def State.faulty (s : State) (d : Side) : Bool := (s.rope.side.get d).bothBad && s.inPlay d

theorem State.loadFault_eq_none {s : State} : s.loadFault = none ↔ s.faulty .one = false ∧ s.faulty .two = false := by
  show sidesOf (s.faulty .one) (s.faulty .two) = none ↔ _
  cases s.faulty .one <;> cases s.faulty .two <;> simp [sidesOf]

theorem State.loadFault_of_faulty {s : State} (h : s.faulty .one = true ∨ s.faulty .two = true) : s.loadFault =
    some (if s.faulty .one = false then .two else if s.faulty .two = false then .one else .both) := by
  show sidesOf (s.faulty .one) (s.faulty .two) = _
  cases h1 : s.faulty .one <;> cases h2 : s.faulty .two <;> simp_all [sidesOf]

/-- Whether the judgement changes to true. -/
def State.losesLoad (s : State) : Prop :=
  s.manUnderWay = true ∧ (s.faulty .one = true ∨ s.faulty .two = true) ∧ s.rope.loadLost = false

theorem State.judgeLoadLost_of_losing {s : State} {sides : Sides} (h : s.losesLoad) (hsides : s.loadFault = some sides) :
    s.judgeLoadLost = (s.setRope { s.rope with loadLost := true }).raiseCause (.loadLost sides) := by
  obtain ⟨hman, -, hlost⟩ := h
  unfold State.judgeLoadLost
  simp [hsides, hman, hlost]

theorem State.judgeLoadLost_of_not_losing {s : State} (h : ¬s.losesLoad) :
    s.judgeLoadLost = s.setRope { s.rope with loadLost := s.judgeLoadLost.rope.loadLost } := by
  unfold State.judgeLoadLost
  split
  next => rfl
  next sides hsides =>
    split
    next => rfl
    next hman =>
      split
      next => rfl
      next hlost =>
        refine absurd ⟨by simpa using hman, ?_, by simpa using hlost⟩ h
        refine Classical.byContradiction fun hnone => ?_
        rw [State.loadFault_eq_none.mpr (by simpa [not_or] using hnone)] at hsides
        contradiction

theorem State.manUnderWay_iff {s : State} : s.manUnderWay = true ↔
    ∃ w, s.wind.current = some w ∧ w.mode = .man ∧ (w.phase = .running ∨ w.phase = .creep) := by
  unfold State.manUnderWay
  cases s.wind.current <;> simp

/-- A loss of the load: LOAD LOST with the sides at fault, stage 1, and the wind stopped. -/
theorem State.judgeLoadLost_loses {s : State} (h : s.losesLoad) :
    15 ∈ s.judgeLoadLost.trip.causes ∧ s.judgeLoadLost.latched .s1 = true ∧
      (s.latched .s1 = false → s.judgeLoadLost.phase = some .stopping ∧
        s.judgeLoadLost.wind.current.bind OpenWind.stop = some .trip ∧ s.judgeLoadLost.trip.latch.get .s1 = .latched
          (.loadLost (if s.faulty .one = false then .two else if s.faulty .two = false then .one else .both))) := by
  have hsides := State.loadFault_of_faulty h.2.1
  obtain ⟨w, hw, -, hp⟩ := State.manUnderWay_iff.mp h.1
  rw [State.judgeLoadLost_of_losing h hsides]
  obtain ⟨hcause, hlatch⟩ := State.raiseCause_raised (s.setRope { s.rope with loadLost := true }) (.loadLost _)
  exact ⟨hcause, hlatch .s1 rfl, fun hclear => State.raiseCause_stops hw hp rfl hclear⟩

theorem State.judgeLoadLost_env (s : State) : s.judgeLoadLost.env = s.env := by
  by_cases h : s.losesLoad
  · obtain ⟨w, hw, -, hp⟩ := State.manUnderWay_iff.mp h.1
    have hkeeps := (keeps_judgeLoadLost (k := { Watch.nothing with env := True, counters := True, degrade := True })
      s).toKeepsBase
    have hopen := (hkeeps.opened (by rw [hw]; nofun) (by unfold State.phase; rw [hw]; rcases hp with hp | hp <;> simp [hp])).1
    have hover := (hkeeps.counters trivial).elim id fun hclosed => absurd hclosed.2 hopen
    rw [hkeeps.env trivial, hkeeps.degrade_of_open trivial hopen, hover]
  · rw [State.judgeLoadLost_of_not_losing h]
    rfl

/-! ## The both-BAD status (R56) -/

theorem RopeSide.isBothBad_eq (p : RopeSide) :
    p.isBothBad = decide (p.chan.a.health = .bad ∧ p.chan.b.health = .bad) := by
  unfold RopeSide.isBothBad
  cases p.chan.a.health <;> cases p.chan.b.health <;> decide

theorem State.startDegrade_eq (s : State) (v : Int) : s.startDegrade v = { s with
    env := if s.windOpen = true then { s.env with degrade := s.env.degrade.or (some ⟨v, 0⟩) } else s.env } := by
  by_cases h : s.windOpen = true
  · rw [State.startDegrade_of_open h, if_pos h]
  · rw [State.startDegrade, if_neg fun hand => h hand.1, if_neg h]

/-- The record with a changed both-BAD status, and the degrade state of R96. -/
def State.bothBadChanged (s : State) (d : Side) : State :=
  let s1 := s.setRopeSide d { s.rope.side.get d with bothBad := (s.rope.side.get d).isBothBad }
  if (s.rope.side.get d).isBothBad && s.inPlay d then s1.startDegrade s.playSpeed else s1

theorem State.judgeBothBad_of_change {s : State} {d : Side} (h : (s.rope.side.get d).isBothBad ≠ (s.rope.side.get d).bothBad) :
    s.judgeBothBad d = (s.bothBadChanged d).judgeLoadLost := if_neg h

theorem State.judgeBothBad_of_same {s : State} {d : Side} (h : (s.rope.side.get d).isBothBad = (s.rope.side.get d).bothBad) :
    s.judgeBothBad d = s := if_pos h

theorem State.bothBadChanged_eq (s : State) (d : Side) : s.bothBadChanged d = { s with
    rope := { s.rope with
      side := s.rope.side.set d { s.rope.side.get d with bothBad := (s.rope.side.get d).isBothBad } }
    env := if (s.rope.side.get d).isBothBad = true ∧ s.inPlay d = true ∧ s.windOpen = true then
      { s.env with degrade := s.env.degrade.or (some ⟨s.playSpeed, 0⟩) } else s.env } := by
  unfold State.bothBadChanged
  dsimp only
  rw [State.startDegrade_eq]
  cases (s.rope.side.get d).isBothBad with
  | false => simp only [Bool.false_and, Bool.false_eq_true, false_and, if_false]; rfl
  | true =>
    cases s.inPlay d with
    | false => simp only [Bool.and_false, Bool.false_eq_true, false_and, and_false, if_false]; rfl
    | true => simp only [Bool.and_self, if_true, true_and]; rfl

/-! ## The expiry of a hold timer -/

theorem exec_holdTimer {s : State} {d : Side} {r : Twin} (h : (s.loadChan d r).hold = some 0) :
    exec (.holdTimerExpiry d r) s = .next (s.expireHold d r).transmit :=
  congrArg Host.Outcome.next (if_pos (decide_eq_true h))

/-- The channel BAD and its advisory set (R44, R45). -/
def State.holdExpired (s : State) (d : Side) (r : Twin) : State :=
  let s1 := s.setLoadChan d r (s.loadChan d r).expire
  if (s.loadChan d r).alarm then s1 else s1.setAdvisory (.loadChannel d r)

theorem State.expireHold_eq (s : State) (d : Side) (r : Twin) : s.expireHold d r = (s.holdExpired d r).judgeBothBad d :=
  rfl

theorem State.setAdvisory_eq (s : State) (c : Cause) :
    s.setAdvisory c = { s with link := (s.setAdvisory c).link, trip := (s.setAdvisory c).trip } := by
  unfold State.setAdvisory
  rw [State.report_eq]
  obtain ⟨x, hx⟩ : ∃ x, x = ((s.addCause c).addActive c).offerCapture c := ⟨_, rfl⟩
  have h : x = { s with trip := x.trip } := by
    rw [hx]
    unfold State.offerCapture State.addActive
    split
    · split <;> rfl
    · split
      · split <;> rfl
      · split <;> rfl
  rw [← hx, h]

theorem State.holdExpired_eq (s : State) (d : Side) (r : Twin) : s.holdExpired d r = { s with
    link := (s.holdExpired d r).link, rope := (s.setLoadChan d r (s.loadChan d r).expire).rope
    trip := (s.holdExpired d r).trip } := by
  unfold State.holdExpired
  dsimp only
  split
  · rfl
  · conv => lhs; rw [State.setAdvisory_eq]
    rfl

/-- The fault record and the reports of the expiry itself. -/
theorem State.holdExpired_sets (s : State) (d : Side) (r : Twin) :
    (s.holdExpired d r).trip.latch = s.trip.latch ∧
      (s.holdExpired d r).link = s.link.pushAll
        ((if (s.loadChan d r).alarm then [] else [.alarm (.loadChannel d r) true]).map s.stamped) ∧
      ((s.loadChan d r).alarm = false → 34 ∈ (s.holdExpired d r).trip.causes ∧
        .loadChannel d r ∈ (s.holdExpired d r).trip.active) := by
  unfold State.holdExpired
  dsimp only
  obtain ⟨hcause, hentry, hlatch, hlink⟩ := State.setAdvisory_sets
    (s.setLoadChan d r (s.loadChan d r).expire) (.loadChannel d r) rfl
  split
  next h => exact ⟨rfl, rfl, fun hno => by rw [h] at hno; contradiction⟩
  next => exact ⟨hlatch, hlink, fun _ => ⟨hcause, hentry⟩⟩

/-- The channels of the sides after the expiry. -/
theorem State.holdExpired_side (s : State) (d : Side) (r : Twin) :
    (s.holdExpired d r).rope.side.get d = { s.rope.side.get d with
        chan := (s.rope.side.get d).chan.set r (s.loadChan d r).expire } ∧
      ∀ e, e ≠ d → (s.holdExpired d r).rope.side.get e = s.rope.side.get e := by
  rw [State.holdExpired_eq]
  exact ⟨State.setLoadChan_side s d r _, fun e he => PerSide.get_set_ne _ _ _ _ he⟩

/-- The judged status of a side changes no channel, and no record of the other side. -/
theorem State.judgeBothBad_keeps (s : State) (d : Side) :
    ((s.judgeBothBad d).rope.side.get d).chan = (s.rope.side.get d).chan ∧
      ∀ e, e ≠ d → (s.judgeBothBad d).rope.side.get e = s.rope.side.get e :=
  ⟨by rw [State.judgeBothBad_side],
    fun e he => (keeps_judgeBothBad (k := ropeWatch (· ≠ d) fun _ => False) s d (fun h => h rfl) id).rope e he⟩

theorem State.expireHold_channels (s : State) (d : Side) (r : Twin) :
    (s.expireHold d r).loadChan d r = (s.loadChan d r).expire ∧
      ∀ e p, e ≠ d ∨ p ≠ r → (s.expireHold d r).loadChan e p = s.loadChan e p := by
  obtain ⟨hown, hother⟩ := s.holdExpired_side d r
  obtain ⟨hchan, hrest⟩ := (s.holdExpired d r).judgeBothBad_keeps d
  unfold State.loadChan
  rw [State.expireHold_eq]
  refine ⟨by rw [hchan, hown]; exact PerTwin.get_set_self _ _ _, fun e p h => ?_⟩
  by_cases he : e = d
  · subst he
    rw [hchan, hown]
    exact PerTwin.get_set_ne _ _ _ _ (h.resolve_left fun hne => hne rfl)
  · rw [hrest e he, hother e he]

/-- The expiry over a status that it does not change, and over one that it changes. -/
theorem State.expireHold_by_change (s : State) (d : Side) (r : Twin) :
    (((s.holdExpired d r).rope.side.get d).isBothBad = (s.rope.side.get d).bothBad →
        s.expireHold d r = s.holdExpired d r) ∧
      (((s.holdExpired d r).rope.side.get d).isBothBad ≠ (s.rope.side.get d).bothBad →
        s.expireHold d r = ((s.holdExpired d r).bothBadChanged d).judgeLoadLost) := by
  have hsame : ((s.holdExpired d r).rope.side.get d).bothBad = (s.rope.side.get d).bothBad := by
    rw [(s.holdExpired_side d r).1]
  exact ⟨fun h => State.judgeBothBad_of_same (h.trans hsame.symm), fun h =>
    State.judgeBothBad_of_change fun heq => h (heq.trans hsame)⟩

section
variable {s : State} {d : Side} {r : Twin}

/-- The state that the load-lost judgement finds when the status changes. -/
theorem State.changed_eq : (s.holdExpired d r).bothBadChanged d = { s with
    link := (s.holdExpired d r).link, rope := ((s.holdExpired d r).bothBadChanged d).rope
    env := ((s.holdExpired d r).bothBadChanged d).env, trip := (s.holdExpired d r).trip } := by
  conv => lhs; rw [State.bothBadChanged_eq, State.holdExpired_eq]
  conv => rhs; rw [State.bothBadChanged_eq, State.holdExpired_eq]

theorem State.faulty_changed (e : Side) : ((s.holdExpired d r).bothBadChanged d).faulty e =
    ((((s.holdExpired d r).bothBadChanged d).judgeLoadLost.rope.side.get e).bothBad && s.inPlay e) := by
  unfold State.faulty
  rw [State.judgeLoadLost_side]
  congr 1
  rw [State.changed_eq]
  rfl

theorem State.losesLoad_changed : ((s.holdExpired d r).bothBadChanged d).losesLoad ↔
    s.manUnderWay = true ∧ (((s.holdExpired d r).bothBadChanged d).faulty .one = true ∨
      ((s.holdExpired d r).bothBadChanged d).faulty .two = true) ∧ s.rope.loadLost = false := by
  have hman : ((s.holdExpired d r).bothBadChanged d).manUnderWay = s.manUnderWay := by rw [State.changed_eq]; rfl
  have hlost : ((s.holdExpired d r).bothBadChanged d).rope.loadLost = s.rope.loadLost := by
    rw [State.bothBadChanged_eq, State.holdExpired_eq]
    rfl
  unfold State.losesLoad
  rw [hman, hlost]

/-- Whether the expiry changes the status of its side. -/
def State.holdChanges (s : State) (d : Side) (r : Twin) : Prop :=
  ((s.holdExpired d r).rope.side.get d).isBothBad ≠ (s.rope.side.get d).bothBad

/-- Whether the expiry loses the load (R57). -/
def State.holdLoses (s : State) (d : Side) (r : Twin) : Prop :=
  s.holdChanges d r ∧ s.manUnderWay = true ∧
    ((((s.expireHold d r).rope.side.get .one).bothBad && s.inPlay .one) = true ∨
      (((s.expireHold d r).rope.side.get .two).bothBad && s.inPlay .two) = true) ∧ s.rope.loadLost = false

theorem State.expireHold_of_change (h : s.holdChanges d r) :
    s.expireHold d r = ((s.holdExpired d r).bothBadChanged d).judgeLoadLost := (s.expireHold_by_change d r).2 h

theorem State.expireHold_of_same (h : ¬s.holdChanges d r) : s.expireHold d r = s.holdExpired d r :=
  (s.expireHold_by_change d r).1 (Classical.not_not.mp h)

theorem State.expireHold_env : (s.expireHold d r).env =
    if ((s.holdExpired d r).rope.side.get d).isBothBad = true ∧
        ((s.holdExpired d r).rope.side.get d).isBothBad ≠ (s.rope.side.get d).bothBad ∧ s.inPlay d = true ∧
          s.windOpen = true then
      { s.env with degrade := s.env.degrade.or (some ⟨s.playSpeed, 0⟩) } else s.env := by
  by_cases hc : s.holdChanges d r
  · have hplay : (s.holdExpired d r).inPlay d = s.inPlay d := by rw [State.holdExpired_eq]; rfl
    have hspeed : (s.holdExpired d r).playSpeed = s.playSpeed := by rw [State.holdExpired_eq]; rfl
    have hopen : (s.holdExpired d r).windOpen = s.windOpen := by rw [State.holdExpired_eq]; rfl
    have henv : (s.holdExpired d r).env = s.env := by rw [State.holdExpired_eq]
    rw [State.expireHold_of_change hc, State.judgeLoadLost_env, State.bothBadChanged_eq, hplay, hspeed, hopen, henv]
    exact ite_congr (propext ⟨fun ⟨h1, h2, h3⟩ => ⟨h1, hc, h2, h3⟩, fun ⟨h1, _, h2, h3⟩ => ⟨h1, h2, h3⟩⟩)
      (fun _ => rfl) fun _ => rfl
  · rw [State.expireHold_of_same hc, if_neg fun hand => hc hand.2.1, State.holdExpired_eq]

theorem State.expireHold_loses (h : s.holdLoses d r) :
    15 ∈ (s.expireHold d r).trip.causes ∧ (s.expireHold d r).latched .s1 = true ∧
      (s.latched .s1 = true → (s.expireHold d r).trip.latch.get .s1 = s.trip.latch.get .s1) ∧
      (s.latched .s1 = false → (s.expireHold d r).phase = some .stopping ∧
        (s.expireHold d r).wind.current.bind OpenWind.stop = some .trip ∧
        (s.expireHold d r).trip.latch.get .s1 = .latched (.loadLost
          (if (((s.expireHold d r).rope.side.get .one).bothBad && s.inPlay .one) = false then .two
          else if (((s.expireHold d r).rope.side.get .two).bothBad && s.inPlay .two) = false then .one else .both))) := by
  obtain ⟨hc, hman, hfault, hlost⟩ := h
  rw [State.expireHold_of_change hc, ← State.faulty_changed, ← State.faulty_changed] at *
  have hlatch : ((s.holdExpired d r).bothBadChanged d).trip.latch = s.trip.latch := by
    rw [State.changed_eq]
    exact (s.holdExpired_sets d r).1
  obtain ⟨hcause, hlatched, hstops⟩ := State.judgeLoadLost_loses (State.losesLoad_changed.mpr ⟨hman, hfault, hlost⟩)
  refine ⟨hcause, hlatched, fun hs => ?_, fun hs => hstops ((congrFun (State.latched_congr hlatch) .s1).trans hs)⟩
  obtain ⟨c, hc1⟩ : ∃ c, s.trip.latch.get .s1 = .latched c := by
    unfold State.latched at hs
    cases hl : s.trip.latch.get .s1 with
    | clear => rw [hl] at hs; contradiction
    | latched c => exact ⟨c, rfl⟩
  rw [hc1]
  exact (keeps_judgeLoadLost (k := .nothing) _).first .s1 c (by rw [hlatch, hc1])

theorem State.expireHold_spares (h : ¬s.holdLoses d r) : s.expireHold d r = { s with
    link := (s.holdExpired d r).link, rope := (s.expireHold d r).rope, env := (s.expireHold d r).env
    trip := (s.holdExpired d r).trip } := by
  by_cases hc : s.holdChanges d r
  · have hspared : ¬((s.holdExpired d r).bothBadChanged d).losesLoad := fun hl => by
      obtain ⟨hman, hfault, hlost⟩ := State.losesLoad_changed.mp hl
      rw [State.faulty_changed, State.faulty_changed, ← State.expireHold_of_change hc] at hfault
      exact h ⟨hc, hman, hfault, hlost⟩
    rw [State.expireHold_of_change hc, State.judgeLoadLost_of_not_losing hspared]
    have hframe := State.changed_eq (s := s) (d := d) (r := r)
    generalize (s.holdExpired d r).bothBadChanged d = y at hframe ⊢
    generalize y.judgeLoadLost.rope.loadLost = b
    conv => lhs; rw [hframe]
    rfl
  · rw [State.expireHold_of_same hc]
    conv => lhs; rw [State.holdExpired_eq]
    conv => rhs; rw [State.holdExpired_eq]

end

theorem State.transmit_loadChan (s : State) (d : Side) (r : Twin) : s.transmit.loadChan d r = s.loadChan d r := by
  unfold State.loadChan
  rw [State.transmit_rope]

/-- Settles O47: the channel and its advisory first, then, if the side's status changes, the degrade state and the
load-lost judgement. -/
theorem holdTimersEndInBad : Obligations.HoldTimersEndInBad := by
  intro d r s
  refine ⟨fun h => congrArg Host.Outcome.next (if_neg fun hend => h (of_decide_eq_true hend)), fun h => ?_⟩
  obtain ⟨hown, hother⟩ := s.expireHold_channels d r
  obtain ⟨hlatch, hlink, hset⟩ := s.holdExpired_sets d r
  have hjudged : (s.expireHold d r).rope.side.get d = _ := (s.holdExpired d r).judgeBothBad_side d
  have hkeeps : Keeps (ropeWatch (· ≠ d) fun _ => True) (s.holdExpired d r) (s.expireHold d r) :=
    keeps_judgeBothBad _ d (fun hd => hd rfl) id
  have hrest : d.other ≠ d := by cases d <;> decide
  have hboth : ((s.holdExpired d r).rope.side.get d).isBothBad = decide
      (((s.expireHold d r).transmit.loadChan d .a).health = .bad ∧
        ((s.expireHold d r).transmit.loadChan d .b).health = .bad) := by
    rw [State.transmit_loadChan, State.transmit_loadChan, RopeSide.isBothBad_eq]
    unfold State.loadChan
    rw [hjudged]
    rfl
  have henv := State.expireHold_env (s := s) (d := d) (r := r)
  have hlosing := State.expireHold_loses (s := s) (d := d) (r := r)
  have hsparing := State.expireHold_spares (s := s) (d := d) (r := r)
  unfold State.holdLoses State.holdChanges at hlosing hsparing
  rw [← (s.expireHold d r).transmit_rope] at hlosing hsparing
  simp only [hboth, State.manUnderWay_iff, Bool.and_eq_true, Bool.and_eq_false_iff] at henv hlosing hsparing
  refine ⟨_, exec_holdTimer h, (State.transmit_loadChan ..).trans hown,
    fun e p hne => (State.transmit_loadChan ..).trans (hother e p hne), ?_, ?_, fun hno => ⟨?_, ?_, ?_⟩, ?_, fun hl => ?_,
    fun hl => ?_⟩
  · rw [State.transmit_rope, hjudged]
    exact hboth
  · rw [State.transmit_rope]
    exact congrArg RopeSide.bothBad ((hkeeps.rope d.other hrest).trans ((s.holdExpired_side d r).2 d.other hrest))
  · rw [State.transmit_trip]
    exact hkeeps.causes (hset hno).1
  · rw [State.transmit_trip]
    exact (hkeeps.entry _ rfl trivial).mpr (hset hno).2
  · have hpush := ((s.setLoadChan d r (s.loadChan d r).expire).report_holds (.alarm (.loadChannel d r) true)).1
    refine (hkeeps.holds _ (State.holds_congr ?_ _ hpush)).sends
    rw [hlink, hno, State.report_link]
    rfl
  · rw [State.transmit_env]
    exact henv.trans (ite_congr (propext (and_congr decide_eq_true_iff Iff.rfl)) (fun _ => rfl) fun _ => rfl)
  · obtain ⟨hcause, hlatched, hkept, hstops⟩ := hlosing hl
    rw [State.transmit_trip]
    refine ⟨hcause, by rw [State.transmit_latched]; exact hlatched, hkept, fun hclear => ?_⟩
    obtain ⟨hphase, hstop, hfirst⟩ := hstops hclear
    unfold State.phase at *
    rw [State.transmit_wind]
    refine ⟨hphase, hstop, hfirst.trans (congrArg _ (congrArg _ ?_))⟩
    have hnot (x : Side) : ((s.expireHold d r).transmit.rope.side.get x).bothBad = false ∨ s.inPlay x = false ↔
        ¬(((s.expireHold d r).transmit.rope.side.get x).bothBad = true ∧ s.inPlay x = true) := by
      rw [Classical.not_and_iff_not_or_not, Bool.not_eq_true, Bool.not_eq_true]
    exact ite_congr (propext (hnot .one)) (fun _ => rfl) fun _ =>
      ite_congr (propext (hnot .two)) (fun _ => rfl) fun _ => rfl
  · have hspared := hsparing hl
    have htrip : (s.expireHold d r).trip = (s.holdExpired d r).trip := (congrArg State.trip hspared).trans (Eq.refl _)
    refine ⟨State.told_of_link ?_, ?_, ?_⟩
    · rw [congrArg State.link hspared]
      exact hlink
    · unfold State.latches
      rw [State.transmit_latched, State.latched_congr (htrip ▸ hlatch)]
    · rw [State.transmit_eq]
      refine (congrArg (State.setLink · _) hspared).trans ?_
      rw [State.transmit_rope, ← htrip]
      rfl

end Sys2Proof.Machine
end


section
/-! Load samples (R42 to R46) and load evaluations (R43, R47 to R51, R56, R57). -/

namespace Sys2Proof.Machine

/-! ## The work of the rope unit -/

section
variable {side : Side → Prop} {entry : Cause → Prop} (s : State)

theorem ropeWork_updateChannel (d : Side) (r : Twin) (v : Option Half) (h : ¬side d) (he : ¬entry (.loadChannel d r)) :
    RopeWork side entry s (s.updateChannel d r v) := ⟨work_updateChannel s d r v, keeps_updateChannel s d r v h id he⟩

theorem ropeWork_weigh (d : Side) (h : ¬side d) : RopeWork side entry s (s.weigh d) :=
  ⟨work_weigh s d, keeps_weigh s d h⟩

theorem ropeWork_judgeBalance (d : Side) (h : ¬side d) (he : ¬entry (.balance d)) :
    RopeWork side entry s (s.judgeBalance d) := ⟨work_judgeBalance s d, keeps_judgeBalance s d h he⟩

theorem ropeWork_judgeSlack (d : Side) (h : ¬side d) : RopeWork side entry s (s.judgeSlack d) :=
  ⟨work_judgeSlack s d, keeps_judgeSlack s d h⟩

theorem ropeWork_judgeBothBad (d : Side) (h : ¬side d) : RopeWork side entry s (s.judgeBothBad d) :=
  ⟨work_judgeBothBad s d, keeps_judgeBothBad s d h id⟩

theorem ropeWork_judgeLoadLost : RopeWork side entry s s.judgeLoadLost := ⟨work_judgeLoadLost s, keeps_judgeLoadLost s⟩

theorem ropeWork_judgeLoads (h : ∀ d, ¬side d) : RopeWork side entry s s.judgeLoads :=
  ((ropeWork_judgeBothBad s .one (h .one)).trans (ropeWork_judgeBothBad _ .two (h .two))).trans (ropeWork_judgeLoadLost _)

end

/-! ## The channels at a valid frame (R44, R46) -/

/-- Both channels of a side take their values. -/
def State.updateSide (s : State) (d : Side) (v : PerTwin (Option Half)) : State :=
  (s.updateChannel d .a v.a).updateChannel d .b v.b

theorem State.updateChannels_eq (s : State) (v : PerSide (PerTwin (Option Half))) :
    s.updateChannels v = (s.updateSide .one v.one).updateSide .two v.two := rfl

theorem State.updateSide_side (s : State) (d : Side) (v : PerTwin (Option Half)) :
    ∃ b, (s.updateSide d v).rope.side.get d = { s.rope.side.get d with
      chan := ⟨(s.loadChan d .a).update v.a, (s.loadChan d .b).update v.b⟩, bothBad := b } := by
  obtain ⟨b, hfirst⟩ := s.updateChannel_side d .a v.a
  obtain ⟨c, hsecond⟩ := (s.updateChannel d .a v.a).updateChannel_side d .b v.b
  refine ⟨c, hsecond.trans ?_⟩
  unfold State.loadChan
  rw [hfirst]
  rfl

theorem ropeWork_updateSide {side : Side → Prop} {entry : Cause → Prop} (s : State) (d : Side)
    (v : PerTwin (Option Half)) (h : ¬side d) (he : ∀ r, ¬entry (.loadChannel d r)) :
    RopeWork side entry s (s.updateSide d v) :=
  (ropeWork_updateChannel s d .a _ h (he .a)).trans (ropeWork_updateChannel _ d .b _ h (he .b))

theorem ropeWork_updateChannels {side : Side → Prop} {entry : Cause → Prop} (s : State)
    (v : PerSide (PerTwin (Option Half))) (h : ∀ d, ¬side d) (he : ∀ d r, ¬entry (.loadChannel d r)) :
    RopeWork side entry s (s.updateChannels v) :=
  (ropeWork_updateSide s .one _ (h .one) (he .one)).trans (ropeWork_updateSide _ .two _ (h .two) (he .two))

theorem State.updateChannels_side (s : State) (v : PerSide (PerTwin (Option Half))) (d : Side) :
    ∃ b, (s.updateChannels v).rope.side.get d = { s.rope.side.get d with
      chan := ⟨(s.loadChan d .a).update (v.get d).a, (s.loadChan d .b).update (v.get d).b⟩, bothBad := b } := by
  rw [State.updateChannels_eq]
  cases d with
  | one =>
    obtain ⟨b, hb⟩ := s.updateSide_side .one v.one
    exact ⟨b, ((ropeWork_updateSide (side := (· = .one)) (entry := fun _ => False) _ .two v.two nofun fun _ => id).keeps.rope
      .one rfl).trans hb⟩
  | two =>
    obtain ⟨b, hb⟩ := (s.updateSide .one v.one).updateSide_side .two v.two
    refine ⟨b, hb.trans ?_⟩
    have hkept := (ropeWork_updateSide (side := (· = .two)) (entry := fun _ => False) s .one v.one nofun fun _ => id).keeps.rope
      .two rfl
    unfold State.loadChan
    rw [hkept]
    rfl

/-! ## The weighing of both sides (R47 to R51) -/

/-- Steps 2 to 4 of an evaluation. -/
def State.weighed (s : State) : State := (s.weigh .one).weigh .two

theorem State.weighed_side (s : State) (d : Side) : s.weighed.rope.side.get d = { s.rope.side.get d with
    tension := s.tensionOf d, stretch := s.stretchOf d (s.tensionOf d), payload := s.payloadOf d (s.tensionOf d) } := by
  cases d <;> rfl

theorem ropeWork_weighed {side : Side → Prop} {entry : Cause → Prop} (s : State) (h : ∀ d, ¬side d) :
    RopeWork side entry s s.weighed := (ropeWork_weigh s .one (h .one)).trans (ropeWork_weigh _ .two (h .two))

theorem State.judgeLoads_side (s : State) (d : Side) : s.judgeLoads.rope.side.get d =
    { s.rope.side.get d with bothBad := (s.rope.side.get d).isBothBad } := by
  unfold State.judgeLoads
  rw [State.judgeLoadLost_side]
  cases d with
  | one => rw [((s.judgeBothBad .one).judgeBothBad_keeps .two).2 .one nofun, State.judgeBothBad_side]
  | two => rw [State.judgeBothBad_side, (s.judgeBothBad_keeps .one).2 .two nofun]

/-! ## The supervision of balance and slack leaves the rest of a side's record (R52 to R55) -/

/-- The counts and the BALANCE flag of a record taken from another. -/
def RopeSide.counting (p q : RopeSide) : RopeSide :=
  { p with alarms := q.alarms, clears := q.clears, trips := q.trips, slacks := q.slacks, balance := q.balance }

theorem RopeSide.counting_trans {p q r : RopeSide} (h : q = p.counting q) (g : r = q.counting r) : r = p.counting r := by
  rw [g, h]
  rfl

theorem State.setRopeSide_get (s : State) (d : Side) (x : RopeSide) : (s.setRopeSide d x).rope.side.get d = x :=
  PerSide.get_set_self _ _ _

theorem State.judgeAlarm_counting (s : State) (d : Side) (i : Int) : (s.judgeAlarm d i).rope.side.get d =
    (s.rope.side.get d).counting ((s.judgeAlarm d i).rope.side.get d) := by
  unfold State.judgeAlarm
  dsimp only
  split
  · split
    · rw [State.setAdvisory_rope, State.setRopeSide_get]; rfl
    · rw [State.setRopeSide_get]; rfl
  · split
    · rw [State.setRopeSide_get]; rfl
    · split
      · rw [State.clearAdvisory_rope, State.setRopeSide_get]; rfl
      · rw [State.setRopeSide_get]; rfl

theorem State.judgeImbalance_counting (s : State) (d : Side) (i : Int) : (s.judgeImbalance d i).rope.side.get d =
    (s.rope.side.get d).counting ((s.judgeImbalance d i).rope.side.get d) := by
  unfold State.judgeImbalance
  dsimp only
  split
  · rw [State.setRopeSide_get]; rfl
  · split
    · rw [State.raiseCause_ropeSide _ (.ropeImbalance d) (nomatch ·), State.setRopeSide_get]; rfl
    · rw [State.setRopeSide_get]; rfl

theorem State.judgeBalance_counting (s : State) (d : Side) : (s.judgeBalance d).rope.side.get d =
    (s.rope.side.get d).counting ((s.judgeBalance d).rope.side.get d) := by
  unfold State.judgeBalance
  dsimp only
  split
  · exact RopeSide.counting_trans (s.judgeAlarm_counting d _) (State.judgeImbalance_counting _ d _)
  · rfl

theorem State.judgeSlack_counting (s : State) (d : Side) : (s.judgeSlack d).rope.side.get d =
    (s.rope.side.get d).counting ((s.judgeSlack d).rope.side.get d) := by
  unfold State.judgeSlack
  dsimp only
  split
  · rw [State.setRopeSide_get]; rfl
  · split
    · rw [State.raiseCause_ropeSide _ (.slackRope d) (nomatch ·), State.setRopeSide_get]; rfl
    · rw [State.setRopeSide_get]; rfl

/-- What the supervision of one side's counts takes part in, with that side and its BALANCE watched elsewhere. -/
abbrev Supervised (d : Side) := RopeWork (· = d) (· = .balance d)

/-- The supervision as one side sees it: its balance judged, then its slack. -/
theorem State.superviseRopes_split {s : State} (h : s.hasTable = true) (d : Side) : ∃ x z,
    Supervised d s x ∧ Supervised d (x.judgeBalance d) z ∧ Supervised d (z.judgeSlack d) s.superviseRopes := by
  have hrun : s.superviseRopes = (((s.judgeBalance .one).judgeBalance .two).judgeSlack .one).judgeSlack .two := if_pos h
  rw [hrun]
  cases d with
  | one =>
    exact ⟨s, _, .rfl, ropeWork_judgeBalance _ .two nofun nofun, ropeWork_judgeSlack _ .two nofun⟩
  | two =>
    exact ⟨_, _, ropeWork_judgeBalance s .one nofun nofun, ropeWork_judgeSlack _ .one nofun, .rfl⟩

theorem State.superviseRopes_counting (s : State) (d : Side) : s.superviseRopes.rope.side.get d =
    (s.rope.side.get d).counting (s.superviseRopes.rope.side.get d) := by
  by_cases h : s.hasTable = true
  · obtain ⟨x, z, hx, hz, ht⟩ := State.superviseRopes_split h d
    have hjudged := (hx.keeps.rope d rfl) ▸ x.judgeBalance_counting d
    have hslack := (hz.keeps.rope d rfl) ▸ z.judgeSlack_counting d
    rw [← ht.keeps.rope d rfl] at hslack
    exact RopeSide.counting_trans hjudged hslack
  · rw [State.superviseRopes, if_neg h]
    rfl

theorem ropeWork_superviseRopes {side : Side → Prop} {entry : Cause → Prop} (s : State) (h : ∀ d, ¬side d)
    (he : ∀ d, ¬entry (.balance d)) : RopeWork side entry s s.superviseRopes := by
  unfold State.superviseRopes
  split
  · exact (((ropeWork_judgeBalance s .one (h _) (he _)).trans (ropeWork_judgeBalance _ .two (h _) (he _))).trans
      (ropeWork_judgeSlack _ .one (h _))).trans (ropeWork_judgeSlack _ .two (h _))
  · exact .rfl

/-! ## The whole evaluation -/

/-- An evaluation after its step 1, over a frame or a timer expiry. -/
def State.evaluated (s : State) (supervises : Bool) : State :=
  if s.drums.sampled then (if supervises then s.weighed.superviseRopes else s.weighed).judgeLoads else s

theorem State.evaluateFrame_eq (s : State) (v : PerSide (PerTwin (Option Half))) :
    s.evaluateFrame v = (s.updateChannels v).evaluated true := rfl

theorem State.evaluateTimer_eq (s : State) : s.evaluateTimer = s.loseChannels.evaluated false := rfl

theorem ropeWork_evaluated {entry : Cause → Prop} (s : State) (b : Bool) (he : ∀ d, ¬entry (.balance d)) :
    RopeWork (fun _ => False) entry s (s.evaluated b) := by
  have hweighed : RopeWork (fun _ => False) entry s s.weighed := ropeWork_weighed s fun _ => id
  unfold State.evaluated
  split
  · cases b
    · exact hweighed.trans (ropeWork_judgeLoads _ fun _ => id)
    · exact (hweighed.trans (ropeWork_superviseRopes _ (fun _ => id) he)).trans (ropeWork_judgeLoads _ fun _ => id)
  · exact .rfl

/-- A side's record after an evaluation that forms it. -/
theorem State.evaluated_side {s : State} (h : s.drums.sampled = true) (b : Bool) (d : Side) :
    (s.evaluated b).rope.side.get d = { (s.rope.side.get d).counting ((s.evaluated b).rope.side.get d) with
      bothBad := (s.rope.side.get d).isBothBad, tension := s.tensionOf d, stretch := s.stretchOf d (s.tensionOf d)
      payload := s.payloadOf d (s.tensionOf d) } := by
  have hrun : s.evaluated b = (if b then s.weighed.superviseRopes else s.weighed).judgeLoads := if_pos h
  rw [hrun, State.judgeLoads_side]
  cases b with
  | false => rw [if_neg nofun, State.weighed_side]; rfl
  | true =>
    rw [if_pos rfl, State.superviseRopes_counting, State.weighed_side]
    rfl

theorem State.evaluated_of_unsampled {s : State} (h : s.drums.sampled = false) (b : Bool) : s.evaluated b = s :=
  if_neg (ne_true_of_eq_false h)

/-- An evaluation leaves the channels as its step 1 has left them. -/
theorem State.evaluated_chan (s : State) (b : Bool) (d : Side) :
    ((s.evaluated b).rope.side.get d).chan = (s.rope.side.get d).chan := by
  cases h : s.drums.sampled with
  | false => rw [State.evaluated_of_unsampled h]
  | true => rw [State.evaluated_side h]; rfl

end Sys2Proof.Machine
end


section
/-! The channels at a load sample (R42 to R46). -/

namespace Sys2Proof.Machine

/-! ## A load sample as a run -/

theorem exec_loadSample_repeated {f : LoadFrame} {s : State} (h : s.rope.lastSeq = some f.seq) :
    exec (.loadSample f) s = .next s.huntLoad := congrArg Host.Outcome.next (if_pos h)

theorem exec_loadSample {f : LoadFrame} {s : State} (h : s.rope.lastSeq ≠ some f.seq) : exec (.loadSample f) s =
    .next ((((s.acceptLoad f.seq).updateChannels f.value).evaluated true).sampleLoads).transmit :=
  congrArg Host.Outcome.next (if_neg h)

/-- The sitting of the proof unit after an evaluation leaves the rope unit. -/
theorem State.sampleLoads_rope (s : State) (d : Side) :
    s.sampleLoads.transmit.rope.side.get d = s.rope.side.get d := by
  rw [State.transmit_rope]
  exact (keeps_sampleLoads (k := ropeWatch (fun _ => True) fun _ => False) s).rope d trivial

theorem State.sampleLoads_line {s t : State} {side entry} (h : RopeWork side entry s t) :
    t.sampleLoads.transmit.rope.lastSeq = s.rope.lastSeq ∧ t.sampleLoads.transmit.rope.frame = s.rope.frame ∧
      t.sampleLoads.transmit.rope.rx = s.rope.rx := by
  rw [State.transmit_rope]
  obtain ⟨hrx, hseq, hframe⟩ := (h.keeps.trans (keeps_sampleLoads t)).line
  exact ⟨hseq, hframe, hrx⟩

/-- The channels at the end are those of step 1. -/
theorem State.evaluated_loadChan (s : State) (b : Bool) (d : Side) (r : Twin) :
    ((s.evaluated b).sampleLoads).transmit.loadChan d r = s.loadChan d r := by
  unfold State.loadChan
  rw [State.sampleLoads_rope, State.evaluated_chan]

theorem State.updateChannels_loadChan (s : State) (v : PerSide (PerTwin (Option Half))) (d : Side) (r : Twin) :
    (s.updateChannels v).loadChan d r = (s.loadChan d r).update ((v.get d).get r) := by
  obtain ⟨b, hside⟩ := s.updateChannels_side v d
  unfold State.loadChan at *
  rw [hside]
  cases r <;> rfl

/-! ## A channel that returns (R45) -/

theorem State.updateChannel_other (s : State) {d e : Side} {r q : Twin} (v : Option Half) (h : e ≠ d ∨ q ≠ r) :
    (s.updateChannel e q v).loadChan d r = s.loadChan d r := by
  unfold State.loadChan
  by_cases he : d = e
  · subst he
    obtain ⟨b, hside⟩ := s.updateChannel_side d q v
    rw [hside]
    exact PerTwin.get_set_ne _ _ _ _ (h.resolve_left fun hne => hne rfl).symm
  · rw [(ropeWork_updateChannel (side := (· = d)) (entry := fun _ => False) s e q v (fun h => he h.symm) id).keeps.rope d rfl]

/-- A channel that returns with its alarm flag set clears its advisory. -/
theorem State.updateChannel_clears {s : State} {d : Side} {r : Twin} {v : Half} (h : (s.loadChan d r).alarm = true) :
    .loadChannel d r ∉ (s.updateChannel d r (some v)).trip.active ∧
      (s.updateChannel d r (some v)).Holds (s.stamped (.alarm (.loadChannel d r) false)) := by
  obtain ⟨hentry, hheld⟩ := (s.setLoadChan d r ((s.loadChan d r).take v.toNat)).clearAdvisory_clears (.loadChannel d r)
  have hupdate : s.updateChannel d r (some v) = ((s.setLoadChan d r ((s.loadChan d r).take v.toNat)).clearAdvisory
      (.loadChannel d r)).judgeBothBad d := by
    simp only [State.updateChannel, h, if_true]
  have hkeeps := keeps_judgeBothBad (k := ropeWatch (fun _ => False) fun _ => True)
    ((s.setLoadChan d r ((s.loadChan d r).take v.toNat)).clearAdvisory (.loadChannel d r)) d id id
  rw [hupdate]
  exact ⟨mt (hkeeps.entry _ rfl trivial).mp hentry, hkeeps.holds _ hheld⟩

/-- The update of one channel among the four. -/
theorem State.updateChannels_split (s : State) (v : PerSide (PerTwin (Option Half))) (d : Side) (r : Twin) :
    ∃ x : State, x.clock = s.clock ∧ x.loadChan d r = s.loadChan d r ∧
      RopeWork (fun _ => False) (· = .loadChannel d r) (x.updateChannel d r ((v.get d).get r)) (s.updateChannels v) := by
  have hgo (x : State) (e : Side) (q : Twin) (w : Option Half) (h : e ≠ d ∨ q ≠ r) :
      RopeWork (fun _ => False) (· = .loadChannel d r) x (x.updateChannel e q w) :=
    ropeWork_updateChannel x e q w id fun heq => by
      obtain ⟨he, hq⟩ := Cause.loadChannel.inj heq
      exact h.elim (fun hne => hne he) fun hne => hne hq
  have hsame {x : State} {e : Side} {q : Twin} (w : Option Half) (h : e ≠ d ∨ q ≠ r)
      (hx : x.clock = s.clock ∧ x.loadChan d r = s.loadChan d r) : (x.updateChannel e q w).clock = s.clock ∧
        (x.updateChannel e q w).loadChan d r = s.loadChan d r :=
    ⟨(work_updateChannel x e q w).clock.trans hx.1, (x.updateChannel_other w h).trans hx.2⟩
  have hnone : s.clock = s.clock ∧ s.loadChan d r = s.loadChan d r := ⟨rfl, rfl⟩
  cases d with
  | one =>
    have htwo {w : Twin} : Side.two ≠ .one ∨ w ≠ r := .inl nofun
    cases r with
    | a => exact ⟨s, rfl, rfl, ((hgo _ .one .b _ (.inr nofun)).trans (hgo _ .two .a _ htwo)).trans (hgo _ .two .b _ htwo)⟩
    | b =>
      obtain ⟨hclock, hchan⟩ := hsame v.one.a (e := .one) (q := .a) (.inr nofun) hnone
      exact ⟨_, hclock, hchan, (hgo _ .two .a _ htwo).trans (hgo _ .two .b _ htwo)⟩
  | two =>
    have hone {w : Twin} : Side.one ≠ .two ∨ w ≠ r := .inl nofun
    have hfirst := hsame v.one.b (e := .one) (q := .b) hone (hsame v.one.a (e := .one) (q := .a) hone hnone)
    cases r with
    | a => exact ⟨_, hfirst.1, hfirst.2, hgo _ .two .b _ (.inr nofun)⟩
    | b =>
      obtain ⟨hclock, hchan⟩ := hsame v.two.a (e := .two) (q := .a) (.inr nofun) hfirst
      exact ⟨_, hclock, hchan, .rfl⟩

/-- Settles O44: each channel's value, the advisory of a returning one, and the receiver's line. -/
theorem loadSamplesUpdateTheChannels : Obligations.LoadSamplesUpdateTheChannels := by
  intro f s
  refine ⟨exec_loadSample_repeated, fun hnew => ⟨_, exec_loadSample hnew, ?_⟩⟩
  have hupdates : RopeWork (fun _ => False) (fun _ => False) (s.acceptLoad f.seq)
      ((s.acceptLoad f.seq).updateChannels f.value) := ropeWork_updateChannels _ _ (fun _ => id) fun _ _ => id
  have hall := hupdates.trans (ropeWork_evaluated _ true fun _ => id)
  have hchan (d : Side) (r : Twin) := ((s.acceptLoad f.seq).updateChannels f.value).evaluated_loadChan true d r
  obtain ⟨hseq, hframe, hrx⟩ := State.sampleLoads_line hall
  refine ⟨hseq, hframe, hrx, ?_, fun d r halarm hgone => ?_, fun d r => ?_⟩
  · rw [State.transmit_drums]
    have hdrum := (hall.keeps.trans (keeps_sampleLoads _)).drum .one trivial
    exact (congrArg Drum.enc hdrum).trans (Eq.refl _)
  · rw [hchan, State.updateChannels_loadChan] at hgone
    obtain ⟨v, hv⟩ : ∃ v, (f.value.get d).get r = some v := by
      cases hv : (f.value.get d).get r with
      | some v => exact ⟨v, rfl⟩
      | none =>
        have hkept : ((s.loadChan d r).lose).alarm = (s.loadChan d r).alarm := by
          unfold LoadChannel.lose; split <;> rfl
        rw [hv] at hgone
        exact absurd ((hkept.symm.trans hgone).symm.trans halarm) Bool.false_ne_true
    obtain ⟨x, hclock, hx, hrest⟩ := (s.acceptLoad f.seq).updateChannels_split f.value d r
    rw [hv] at hrest
    obtain ⟨hentry, hheld⟩ := State.updateChannel_clears (s := x) (v := v) ((congrArg LoadChannel.alarm hx).trans halarm)
    have hend := (hrest.trans (ropeWork_evaluated _ true fun _ => nofun)).keeps.trans (keeps_sampleLoads _)
    rw [State.stamped_congr hclock] at hheld
    rw [State.transmit_trip]
    exact ⟨mt (hend.entry _ rfl rfl).mp hentry, (hend.holds _ hheld).sends⟩
  · rw [hchan, State.updateChannels_loadChan]
    cases (f.value.get d).get r <;> rfl

end Sys2Proof.Machine
end


section
/-! Load evaluations (R43, R47 to R51, R56, R57). -/

namespace Sys2Proof.Machine

/-! ## The values of an evaluation (R47 to R51) -/

theorem State.emptyTension_eq (s : State) (d : Side) : s.emptyTension d =
    (s.sideData d).weight + (s.sideData d).ropeWeight * max ((s.depth.get d).D0 - s.winder.sheave.get d) 0 / 1000 := by
  have hmax (l : Int) : (if 0 < l then l else 0) = max l 0 := by split <;> omega
  unfold State.emptyTension State.ropeTerm State.suspended
  dsimp only
  rw [hmax]

/-- The tension of two channels, or a nominal one when both are BAD (R47). -/
def tensionFrom (p : PerTwin LoadChannel) (nominal : Int) : Int :=
  if p.a.health = .bad then
    if p.b.health = .bad then nominal else 2 * (p.b.slots.sum / 8 * 10 : Nat)
  else if p.b.health = .bad then 2 * (p.a.slots.sum / 8 * 10 : Nat)
  else (p.a.slots.sum / 8 * 10 : Nat) + (p.b.slots.sum / 8 * 10 : Nat)

theorem State.tensionOf_eq (s : State) (d : Side) : s.tensionOf d = tensionFrom (s.rope.side.get d).chan
    (if s.hasTable then s.emptyTension d + (s.sideData d).payloadLimit / 2 else 0) := by
  unfold State.tensionOf tensionFrom
  dsimp only
  cases (s.rope.side.get d).chan.a.health <;> cases (s.rope.side.get d).chan.b.health <;> rfl

theorem State.stretchOf_bounds (s : State) (d : Side) (t : Int) : 0 ≤ s.stretchOf d t ∧ s.stretchOf d t ≤ 20000 := by
  unfold State.stretchOf
  split
  · exact clamp_bounds (by decide)
  · decide

theorem wide_of_fits {x : Int} (h : -(2 ^ 63) ≤ x ∧ x < 2 ^ 63) : wide x = x := if_pos h

/-- A stretch whose products fit their 64 bits (R49). -/
theorem State.stretchOf_of_fits {s : State} {d : Side} {t : Int} (htable : s.hasTable = true) (hl : 0 < s.suspended d)
    (h1 : -(2 ^ 63) ≤ t * s.suspended d ∧ t * s.suspended d < 2 ^ 63)
    (h2 : -(2 ^ 63) ≤ (s.sideData d).ropeWeight * (s.suspended d * s.suspended d) ∧
      (s.sideData d).ropeWeight * (s.suspended d * s.suspended d) < 2 ^ 63)
    (h3 : -(2 ^ 63) ≤ t * s.suspended d - (s.sideData d).ropeWeight * (s.suspended d * s.suspended d) / 2000 ∧
      t * s.suspended d - (s.sideData d).ropeWeight * (s.suspended d * s.suspended d) / 2000 < 2 ^ 63) :
    s.stretchOf d t = clamp 0 20000
      ((t * s.suspended d - (s.sideData d).ropeWeight * (s.suspended d * s.suspended d) / 2000 +
        (s.sideData d).stiffness * 500) / ((s.sideData d).stiffness * 1000)) := by
  unfold State.stretchOf stretchNumerator
  rw [if_pos ⟨htable, hl⟩, wide_of_fits h1, wide_of_fits h2, wide_of_fits h3]
  rfl

theorem State.payloadOf_eq (s : State) (d : Side) (t : Int) :
    s.payloadOf d t = if s.hasTable then max 0 (t - s.emptyTension d) else 0 := by
  unfold State.payloadOf State.emptyTension
  cases s.hasTable with
  | false => rfl
  | true =>
    simp only [true_and, if_true]
    split <;> omega

/-! ## The load-lost judgement over a whole evaluation (R57) -/

/-- Load loss not yet judged over a MAN wind under way, with the latches of `s`. -/
structure Unjudged (s x : State) : Prop where
  man : x.manUnderWay = true
  lost : x.rope.loadLost = false
  latch : x.trip.latch = s.trip.latch

/-- LOAD LOST raised since `s`. -/
structure LoadLoss (s x : State) : Prop where
  cause : 15 ∈ x.trip.causes
  latched : x.latched .s1 = true
  stops : s.latched .s1 = false → x.phase = some .stopping

theorem LoadLoss.keeps {k : Watch} {s x y : State} (h : LoadLoss s x) (g : KeepsBase k x y) : LoadLoss s y :=
  ⟨g.causes h.cause, g.latched h.latched, fun hs => g.stopping (h.stops hs)⟩

theorem Unjudged.judgeLoadLost {s x : State} (h : Unjudged s x) :
    ((x.faulty .one = true ∨ x.faulty .two = true) → LoadLoss s x.judgeLoadLost) ∧
      (LoadLoss s x.judgeLoadLost ∨ Unjudged s x.judgeLoadLost) := by
  have hloss (hf : x.faulty .one = true ∨ x.faulty .two = true) : LoadLoss s x.judgeLoadLost := by
    obtain ⟨hcause, hlatched, hstops⟩ := State.judgeLoadLost_loses ⟨h.man, hf, h.lost⟩
    exact ⟨hcause, hlatched, fun hs => (hstops ((congrFun (State.latched_congr h.latch) .s1).trans hs)).1⟩
  refine ⟨hloss, ?_⟩
  by_cases hf : x.faulty .one = true ∨ x.faulty .two = true
  · exact .inl (hloss hf)
  · have hnone : x.loadFault = none := State.loadFault_eq_none.mpr (by simpa [not_or] using hf)
    have hjudged : x.judgeLoadLost = x.setRope { x.rope with loadLost := false } := by
      unfold State.judgeLoadLost
      simp only [hnone]
    rw [hjudged]
    exact .inr ⟨h.man, rfl, h.latch⟩

theorem Unjudged.judgeBothBad {s x : State} (h : Unjudged s x) (d : Side) :
    LoadLoss s (x.judgeBothBad d) ∨ Unjudged s (x.judgeBothBad d) := by
  by_cases hc : (x.rope.side.get d).isBothBad = (x.rope.side.get d).bothBad
  · rw [State.judgeBothBad_of_same hc]
    exact .inr h
  · rw [State.judgeBothBad_of_change hc]
    refine (Unjudged.judgeLoadLost ⟨?_, ?_, ?_⟩).2 <;> rw [State.bothBadChanged_eq]
    · exact h.man
    · exact h.lost
    · exact h.latch

/-- A side at fault at the end of an evaluation that began unjudged. -/
theorem Unjudged.judgeLoads {s x : State} (h : Unjudged s x)
    (hf : x.judgeLoads.faulty .one = true ∨ x.judgeLoads.faulty .two = true) : LoadLoss s x.judgeLoads := by
  have hkeeps {y : State} (d : Side) : Keeps (ropeWatch (fun _ => False) fun _ => False) y (y.judgeBothBad d) :=
    keeps_judgeBothBad y d id id
  have hlast {y : State} : Keeps (ropeWatch (fun _ => False) fun _ => False) y y.judgeLoadLost := keeps_judgeLoadLost y
  rcases h.judgeBothBad .one with hloss | hone
  · exact hloss.keeps ((hkeeps .two).trans hlast).toKeepsBase
  · rcases hone.judgeBothBad .two with hloss | htwo
    · exact hloss.keeps hlast.toKeepsBase
    · refine htwo.judgeLoadLost.1 ?_
      have hfaulty (d : Side) : ((x.judgeBothBad .one).judgeBothBad .two).faulty d = x.judgeLoads.faulty d := by
        unfold State.judgeLoads State.faulty State.inPlay
        rw [State.judgeLoadLost_side, (work_judgeLoadLost _).inputs]
      rw [hfaulty, hfaulty]
      exact hf

/-! ## An expiry of the frame timer (R43) -/

theorem exec_frameTimer {s : State} (h : s.rope.frame = some 0) : exec .frameTimerExpiry s =
    .next ((((s.setRope { s.rope with frame := some 10 }).loseChannels.evaluated false).sampleLoads).transmit) :=
  congrArg Host.Outcome.next (if_pos (decide_eq_true h))

theorem State.loseChannels_side (s : State) (d : Side) : s.loseChannels.rope.side.get d =
    { s.rope.side.get d with chan := ⟨(s.loadChan d .a).lose, (s.loadChan d .b).lose⟩ } := by
  cases d <;> rfl

theorem ropeWork_loseChannels {entry : Cause → Prop} (s : State) : RopeWork (fun _ => False) entry s s.loseChannels :=
  ⟨work_setRope s _, .of_block rfl rfl rfl (fun _ _ => rfl) (fun _ => ⟨rfl, rfl, rfl⟩) (fun _ _ => rfl) nofun
    ⟨rfl, rfl, rfl⟩ (fun _ => rfl) (fun _ => rfl) (fun _ => rfl)⟩

theorem State.manUnderWay_of {s : State} {w : OpenWind} (hw : s.wind.current = some w) (hman : w.mode = .man)
    (hp : w.phase = .running ∨ w.phase = .creep) : s.manUnderWay = true := State.manUnderWay_iff.mpr ⟨w, hw, hman, hp⟩

/-- A side at fault at the end of a timer evaluation, over a MAN wind under way not yet judged so. -/
theorem State.evaluated_loses {s x : State} (hjudged : Unjudged s x) (hs : x.drums.sampled = true)
    (hf : (x.evaluated false).faulty .one = true ∨ (x.evaluated false).faulty .two = true) :
    LoadLoss s (x.evaluated false).sampleLoads.transmit := by
  have hrun : x.evaluated false = x.weighed.judgeLoads := if_pos hs
  rw [hrun] at hf ⊢
  have hloss := (Unjudged.judgeLoads (x := x.weighed) ⟨hjudged.man, hjudged.lost, hjudged.latch⟩ hf).keeps
    (keeps_sampleLoads (k := .nothing) _).toKeepsBase
  refine ⟨?_, ?_, fun hs => ?_⟩
  · rw [State.transmit_trip]; exact hloss.cause
  · rw [State.transmit_latched]; exact hloss.latched
  · unfold State.phase; rw [State.transmit_wind]; exact hloss.stops hs

theorem LoadChannel.lose_eq (x : LoadChannel) :
    x.lose = if x.health = .good then { x with health := .held, hold := some 500 } else x := rfl

/-! ## Both evaluations -/

/-- An evaluation from `s`, with the state that its step 1 leaves. -/
inductive Evaluation (s : State) : Instr → State → Bool → Prop
  | timer (h : s.rope.frame = some 0) :
      Evaluation s .frameTimerExpiry (s.setRope { s.rope with frame := some 10 }).loseChannels false
  | frame (f : LoadFrame) (h : s.rope.lastSeq ≠ some f.seq) :
      Evaluation s (.loadSample f) ((s.acceptLoad f.seq).updateChannels f.value) true

theorem Evaluation.of_due {s : State} {c : Instr}
    (h : (c = .frameTimerExpiry ∧ s.rope.frame = some 0) ∨ (∃ f, c = .loadSample f ∧ s.rope.lastSeq ≠ some f.seq)) :
    ∃ x b, Evaluation s c x b := by
  rcases h with ⟨rfl, h⟩ | ⟨f, rfl, h⟩
  · exact ⟨_, _, .timer h⟩
  · exact ⟨_, _, .frame f h⟩

section
variable {s x : State} {c : Instr} {b : Bool} (h : Evaluation s c x b)
include h

theorem Evaluation.run : exec c s = .next (x.evaluated b).sampleLoads.transmit := by
  cases h with
  | timer h => exact exec_frameTimer h
  | frame f h => exact exec_loadSample h

/-- Step 1 begins at `s` but for the line of the receiver. -/
theorem Evaluation.begins : ∃ u, RopeWork (fun _ => False) (fun _ => False) (s.setRope u) x ∧ u.side = s.rope.side := by
  cases h with
  | timer h => exact ⟨_, ropeWork_loseChannels _, rfl⟩
  | frame f h => exact ⟨_, ropeWork_updateChannels _ _ (fun _ => id) fun _ _ => id, rfl⟩

theorem Evaluation.sampled : x.drums.sampled = s.drums.sampled := by
  obtain ⟨u, hu, -⟩ := h.begins; exact hu.sampled

theorem Evaluation.sideData (d : Side) : x.sideData d = s.sideData d := by
  obtain ⟨u, hu, -⟩ := h.begins; exact hu.sideData d

theorem Evaluation.hasTable : x.hasTable = s.hasTable := by
  obtain ⟨u, hu, -⟩ := h.begins; exact hu.hasTable

theorem Evaluation.suspended (d : Side) : x.suspended d = s.suspended d := by
  obtain ⟨u, hu, -⟩ := h.begins; exact hu.suspended d

theorem Evaluation.emptyTension (d : Side) : x.emptyTension d = s.emptyTension d := by
  obtain ⟨u, hu, -⟩ := h.begins; exact hu.emptyTension d

theorem Evaluation.speed (d : Side) : x.speed d = s.speed d := by
  obtain ⟨u, hu, -⟩ := h.begins; exact hu.speed d

theorem Evaluation.inPlay (d : Side) : x.inPlay d = s.inPlay d := by
  obtain ⟨u, hu, -⟩ := h.begins; exact hu.inPlay d

/-- Step 1 moves the channels and the both-BAD status of a side. -/
theorem Evaluation.side (d : Side) :
    ∃ p bad, x.rope.side.get d = { s.rope.side.get d with chan := p, bothBad := bad } := by
  cases h with
  | timer h => exact ⟨_, _, State.loseChannels_side _ d⟩
  | frame f h =>
    obtain ⟨bad, hside⟩ := (s.acceptLoad f.seq).updateChannels_side f.value d
    exact ⟨_, bad, hside⟩

end

/-- Settles O45: the values each side's record takes, and the load-lost judgement at their end. -/
theorem loadEvaluationsWeighBothSides : Obligations.LoadEvaluationsWeighBothSides := by
  refine ⟨fun s h => congrArg Host.Outcome.next (if_neg fun hend => h (of_decide_eq_true hend)), fun s c hc => ?_⟩
  obtain ⟨x, b, heval⟩ := Evaluation.of_due hc
  have hside (d : Side) := (x.evaluated b).sampleLoads_rope d
  have hchan (d : Side) (r : Twin) := x.evaluated_loadChan b d r
  have hevaluated := ropeWork_evaluated (entry := fun _ => False) x b fun _ => id
  refine ⟨_, heval.run, fun hcase => ?_, fun hs d => ?_, fun w hw hcase hs hman hp hlost hf => ?_, fun d => ?_⟩
  · cases heval with
    | frame f h => contradiction
    | timer h =>
      obtain ⟨hseq, hframe, -⟩ := State.sampleLoads_line ((ropeWork_loseChannels
        (s.setRope { s.rope with frame := some 10 })).trans hevaluated)
      refine ⟨hframe, hseq, fun d r => ?_⟩
      rw [hchan, ← LoadChannel.lose_eq]
      cases d <;> cases r <;> rfl
  · rw [hside, State.evaluated_side (heval.sampled.trans hs), RopeSide.isBothBad_eq, hchan, hchan]
    rfl
  · cases heval with
    | frame f h => contradiction
    | timer h =>
      obtain ⟨hcause, hlatched, hstops⟩ := State.evaluated_loses (s := s)
        (x := (s.setRope { s.rope with frame := some 10 }).loseChannels)
        ⟨State.manUnderWay_of hw hman hp, hlost, rfl⟩ hs (by
          unfold State.faulty
          rw [hevaluated.inPlay, hevaluated.inPlay, ← hside, ← hside, Bool.and_eq_true, Bool.and_eq_true]
          exact hf.imp (fun hone => ⟨hone, rfl⟩) fun ⟨hclutch, htwo⟩ => ⟨htwo, hclutch⟩)
      exact ⟨hcause, hlatched, hstops⟩
  · intro p lim L empty fits fa fb
    have hempty : x.emptyTension d = empty := (heval.emptyTension d).trans (s.emptyTension_eq d)
    have hL : x.suspended d = L := heval.suspended d
    refine ⟨fun hs => ?_, fun hs => ?_⟩
    · have hp : p = x.rope.side.get d := by
        rw [← State.evaluated_of_unsampled (s := x) (heval.sampled.trans hs) b]
        exact hside d
      obtain ⟨q, bad, hx⟩ := heval.side d
      rw [hp, hx]
      exact ⟨rfl, rfl, rfl⟩
    · have hp : p = _ := (hside d).trans (State.evaluated_side (heval.sampled.trans hs) b d)
      have hchanp : p.chan = (x.rope.side.get d).chan := by rw [hp]; rfl
      have htension : p.tension = tensionFrom p.chan (if s.hasTable then empty + lim.payloadLimit / 2 else 0) := by
        rw [hchanp, hp, ← hempty, ← heval.hasTable]
        exact (x.tensionOf_eq d).trans (by rw [heval.sideData])
      have hstretch : p.stretch = x.stretchOf d p.tension := by rw [hp]
      have hpayload : p.payload = x.payloadOf d p.tension := by rw [hp]
      refine ⟨?_, ?_, ?_, ?_, ?_, ?_⟩
      · rw [htension]
        unfold tensionFrom
        cases p.chan.a.health <;> cases p.chan.b.health <;> rfl
      · rw [hstretch]; exact (x.stretchOf_bounds d _).1
      · rw [hstretch]; exact (x.stretchOf_bounds d _).2
      · intro hno
        rw [hstretch, State.stretchOf, if_neg]
        rw [heval.hasTable, hL]
        rintro ⟨htable, hpos⟩
        exact hno.elim (fun h => by rw [h] at htable; contradiction) (fun h => by omega)
      · intro htable hpos h1 h2 h3
        rw [← hL] at hpos h1 h2 h3 ⊢
        rw [hstretch]
        have hlim : x.sideData d = lim := heval.sideData d
        rw [← hlim] at h2 h3 ⊢
        exact State.stretchOf_of_fits (heval.hasTable.trans htable) hpos h1 h2 h3
      · rw [hpayload, State.payloadOf_eq, heval.hasTable, hempty]

end Sys2Proof.Machine
end


section
/-! The supervision of balance and slack at a load sample (R52 to R55). -/

namespace Sys2Proof.Machine

/-- Work that keeps more keeps less. -/
theorem RopeWork.mono {side side' : Side → Prop} {entry entry' : Cause → Prop} {s t : State}
    (h : RopeWork side entry s t) (hs : ∀ d, side' d → side d) (he : ∀ c, entry' c → entry c) :
    RopeWork side' entry' s t :=
  ⟨h.work, { h.keeps with entry := fun c hc hk => h.keeps.entry c hc (he c hk), rope := fun d hd => h.keeps.rope d (hs d hd) }⟩

/-! ## The balance of one side (R52 to R54) -/

section
variable {s : State} {d : Side} {i : Int} {p : RopeSide} (hp : s.rope.side.get d = p)
include hp

theorem State.judgeAlarm_above (h : (s.sideData d).alarm < i) (hcount : p.alarms ≤ 8) :
    (s.judgeAlarm d i).rope.side.get d = { p with
      alarms := min 8 (p.alarms + 1), clears := 0, balance := p.balance || decide (3 ≤ p.alarms) } := by
  have hsucc : satSucc 8 p.alarms = min 8 (p.alarms + 1) := by unfold satSucc; split <;> omega
  have hset : 4 ≤ min 8 (p.alarms + 1) ↔ 3 ≤ p.alarms := by omega
  unfold State.judgeAlarm
  simp only [hp, if_pos h, hsucc, hset]
  cases hb : p.balance with
  | true => rw [if_neg (fun hand => nomatch hand.2), State.setRopeSide_get]; rfl
  | false =>
    by_cases h3 : 3 ≤ p.alarms
    · rw [if_pos ⟨h3, rfl⟩, State.setAdvisory_rope, State.setRopeSide_get, decide_eq_true h3]; rfl
    · rw [if_neg fun hand => h3 hand.1, State.setRopeSide_get, decide_eq_false h3]; rfl

theorem State.judgeAlarm_between (h : ¬(s.sideData d).alarm < i) (hc : (s.sideData d).clear < i) :
    (s.judgeAlarm d i).rope.side.get d = { p with alarms := 0, clears := 0 } := by
  unfold State.judgeAlarm
  simp only [hp, if_neg h, if_pos hc, State.setRopeSide_get]

theorem State.judgeAlarm_below (h : ¬(s.sideData d).alarm < i) (hc : ¬(s.sideData d).clear < i) (hcount : p.clears ≤ 8) :
    (s.judgeAlarm d i).rope.side.get d = { p with
      alarms := 0, clears := min 8 (p.clears + 1), balance := p.balance && decide (p.clears < 7) } := by
  have hsucc : satSucc 8 p.clears = min 8 (p.clears + 1) := by unfold satSucc; split <;> omega
  have hset : 8 ≤ min 8 (p.clears + 1) ↔ ¬p.clears < 7 := by omega
  unfold State.judgeAlarm
  simp only [hp, if_neg h, if_neg hc, hsucc, hset]
  cases hb : p.balance with
  | false => rw [if_neg (fun hand => nomatch hand.2), State.setRopeSide_get]; rfl
  | true =>
    by_cases h7 : p.clears < 7
    · rw [if_neg fun hand => hand.1 h7, State.setRopeSide_get, decide_eq_true h7]; rfl
    · rw [if_pos ⟨h7, rfl⟩, State.clearAdvisory_rope, State.setRopeSide_get, decide_eq_false h7]; rfl

/-- A BALANCE flag that is set sets its advisory, and one that is cleared clears it. -/
theorem State.judgeAlarm_advisory :
    (p.balance = false → ((s.judgeAlarm d i).rope.side.get d).balance = true →
        33 ∈ (s.judgeAlarm d i).trip.causes ∧ .balance d ∈ (s.judgeAlarm d i).trip.active) ∧
      (p.balance = true → ((s.judgeAlarm d i).rope.side.get d).balance = false →
        .balance d ∉ (s.judgeAlarm d i).trip.active) := by
  have hkept {x : RopeSide} {q r : Prop} (hx : x.balance = p.balance) :
      (p.balance = false → ((s.setRopeSide d x).rope.side.get d).balance = true → q) ∧
        (p.balance = true → ((s.setRopeSide d x).rope.side.get d).balance = false → r) := by
    rw [State.setRopeSide_get, hx]
    exact ⟨fun hb hn => absurd (hb.symm.trans hn) nofun, fun hb hn => absurd (hb.symm.trans hn) nofun⟩
  unfold State.judgeAlarm
  simp only [hp]
  split
  · split
    next hflag =>
      obtain ⟨hcause, hentry, -, -⟩ := (s.setRopeSide d { p with
        alarms := satSucc 8 p.alarms, clears := 0, balance := true }).setAdvisory_sets (.balance d) rfl
      exact ⟨fun _ _ => ⟨hcause, hentry⟩, fun hb => by rw [hb] at hflag; exact absurd hflag.2 nofun⟩
    · exact hkept rfl
  · split
    · exact hkept rfl
    · split
      next hflag =>
        refine ⟨fun hb => by rw [hb] at hflag; exact absurd hflag.2 nofun, fun _ _ => ?_⟩
        exact (State.clearAdvisory_clears _ _).1
      · exact hkept rfl

/-- The alarm judgement moves its counts and the flag alone. -/
theorem State.judgeAlarm_side : (s.judgeAlarm d i).rope.side.get d = { p with
    alarms := ((s.judgeAlarm d i).rope.side.get d).alarms, clears := ((s.judgeAlarm d i).rope.side.get d).clears
    balance := ((s.judgeAlarm d i).rope.side.get d).balance } := by
  unfold State.judgeAlarm
  simp only [hp]
  split
  · split
    · rw [State.setAdvisory_rope, State.setRopeSide_get]
    · rw [State.setRopeSide_get]
  · split
    · rw [State.setRopeSide_get]
    · split
      · rw [State.clearAdvisory_rope, State.setRopeSide_get]
      · rw [State.setRopeSide_get]

theorem State.judgeImbalance_within (h : i ≤ (s.sideData d).trip) :
    (s.judgeImbalance d i).rope.side.get d = { p with trips := 0 } := by
  unfold State.judgeImbalance
  simp only [hp, if_pos h, State.setRopeSide_get]

theorem State.judgeImbalance_counts (h : (s.sideData d).trip < i) (hcount : p.trips < 3) :
    (s.judgeImbalance d i).rope.side.get d = { p with trips := p.trips + 1 } := by
  unfold State.judgeImbalance
  simp only [hp, if_neg (Int.not_le.mpr h), if_neg (show ¬4 ≤ p.trips + 1 by omega), State.setRopeSide_get]

theorem State.judgeImbalance_raises (h : (s.sideData d).trip < i) (hcount : 3 ≤ p.trips) :
    (s.judgeImbalance d i).rope.side.get d = { p with trips := 0 } ∧ 14 ∈ (s.judgeImbalance d i).trip.causes ∧
      (s.judgeImbalance d i).latched .s1 = true ∧ (s.judgeImbalance d i).latched .s2 = true := by
  unfold State.judgeImbalance
  simp only [hp, if_neg (Int.not_le.mpr h), if_pos (show 4 ≤ p.trips + 1 by omega)]
  obtain ⟨hcause, hlatched⟩ := (s.setRopeSide d { p with trips := 0 }).raiseCause_raised (.ropeImbalance d)
  refine ⟨?_, hcause, hlatched .s1 rfl, hlatched .s2 rfl⟩
  rw [State.raiseCause_ropeSide _ (.ropeImbalance d) (nomatch ·), State.setRopeSide_get]

/-- The trip judgement moves its count alone. -/
theorem State.judgeImbalance_side : (s.judgeImbalance d i).rope.side.get d =
    { p with trips := ((s.judgeImbalance d i).rope.side.get d).trips } := by
  rcases Int.lt_or_le (s.sideData d).trip i with h | h
  · rcases Nat.lt_or_ge p.trips 3 with hcount | hcount
    · rw [State.judgeImbalance_counts hp h hcount]
    · rw [(State.judgeImbalance_raises hp h hcount).1]
  · rw [State.judgeImbalance_within hp h]

/-! ## The slack of one side (R55) -/

/-- Whether the side's record shows a slack rope. -/
def State.slackens (s : State) (d : Side) (p : RopeSide) : Prop :=
  p.isBothBad = false ∧ 50 < s.speed d ∧ p.tension < (s.sideData d).slack * s.emptyTension d / 1000

theorem State.judgeSlack_taut (h : ¬s.slackens d p) : (s.judgeSlack d).rope.side.get d = { p with slacks := 0 } := by
  have hcond : p.isBothBad = true ∨ s.speed d ≤ 50 ∨ (s.sideData d).slack * s.emptyTension d / 1000 ≤ p.tension := by
    unfold State.slackens at h
    refine Classical.byContradiction fun hno => ?_
    obtain ⟨hgood, hrest⟩ := not_or.mp hno
    obtain ⟨hspeed, htension⟩ := not_or.mp hrest
    exact h ⟨eq_false_of_ne_true hgood, Int.not_le.mp hspeed, Int.not_le.mp htension⟩
  unfold State.judgeSlack
  simp only [hp, if_pos hcond, State.setRopeSide_get]

theorem State.judgeSlack_slack (h : s.slackens d p) :
    (p.slacks < 2 → (s.judgeSlack d).rope.side.get d = { p with slacks := p.slacks + 1 }) ∧
      (2 ≤ p.slacks → (s.judgeSlack d).rope.side.get d = { p with slacks := 0 } ∧
        13 ∈ (s.judgeSlack d).trip.causes ∧ ∀ j, (s.judgeSlack d).latched j = true) := by
  obtain ⟨hbad, hspeed, htension⟩ := h
  have hcond : ¬(p.isBothBad = true ∨ s.speed d ≤ 50 ∨ (s.sideData d).slack * s.emptyTension d / 1000 ≤ p.tension) := by
    rw [hbad]
    rintro (h | h | h)
    · contradiction
    · omega
    · omega
  unfold State.judgeSlack
  simp only [hp, if_neg hcond]
  refine ⟨fun hcount => ?_, fun hcount => ?_⟩
  · rw [if_neg (show ¬3 ≤ p.slacks + 1 by omega), State.setRopeSide_get]
  · rw [if_pos (show 3 ≤ p.slacks + 1 by omega)]
    obtain ⟨hcause, hlatched⟩ := (s.setRopeSide d { p with slacks := 0 }).raiseCause_raised (.slackRope d)
    refine ⟨?_, hcause, fun j => hlatched j (by cases j <;> rfl)⟩
    rw [State.raiseCause_ropeSide _ (.slackRope d) (nomatch ·), State.setRopeSide_get]

/-- The slack judgement moves its count alone. -/
theorem State.judgeSlack_side : (s.judgeSlack d).rope.side.get d =
    { p with slacks := ((s.judgeSlack d).rope.side.get d).slacks } := by
  by_cases h : s.slackens d p
  · obtain ⟨hfew, hmany⟩ := State.judgeSlack_slack hp h
    rcases Nat.lt_or_ge p.slacks 2 with hcount | hcount
    · rw [hfew hcount]
    · rw [(hmany hcount).1]
  · rw [State.judgeSlack_taut hp h]

end

/-! ## The supervision within an evaluation -/

theorem imbalance_eq (a b : Int) :
    imbalance a b = if a + b = 0 then 0 else mag (a - b) * 1000 / (a + b) := by
  have hmag : 0 ≤ mag (a - b) := by unfold mag; split <;> omega
  unfold imbalance
  rw [Int.tdiv_eq_ediv_of_nonneg (by omega)]

/-- The supervision of one side within an evaluation at a frame: `y` is where its balance is judged, `z` where its
slack is. -/
structure SideJudged (x : State) (d : Side) (y z : State) : Prop where
  before : RopeWork (fun _ => False) (· = .balance d) x y
  record : y.rope.side.get d = x.weighed.rope.side.get d
  between : RopeWork (fun _ => False) (· = .balance d) (y.judgeBalance d) z
  balanced : z.rope.side.get d = (y.judgeBalance d).rope.side.get d
  after : RopeWork (fun _ => False) (· = .balance d) (z.judgeSlack d) (x.evaluated true)
  ends : ∃ bad, (x.evaluated true).rope.side.get d = { (z.judgeSlack d).rope.side.get d with bothBad := bad }

theorem State.evaluated_judges {x : State} (hs : x.drums.sampled = true) (htable : x.hasTable = true) (d : Side) :
    ∃ y z, SideJudged x d y z := by
  have hrun : x.evaluated true = x.weighed.superviseRopes.judgeLoads := if_pos hs
  have hweigh : RopeWork (fun _ => False) (· = .balance d) x x.weighed := ropeWork_weighed x fun _ => id
  obtain ⟨y, z, hy, hz, ht⟩ := State.superviseRopes_split (hweigh.hasTable.trans htable) d
  have hloose {u v : State} (h : Supervised d u v) : RopeWork (fun _ => False) (· = .balance d) u v :=
    h.mono nofun fun _ => id
  refine ⟨y, z, hweigh.trans (hloose hy), hy.keeps.rope d rfl, hloose hz, hz.keeps.rope d rfl, ?_, ?_⟩
  · rw [hrun]
    exact (hloose ht).trans (ropeWork_judgeLoads _ fun _ => id)
  · rw [hrun, State.judgeLoads_side, ht.keeps.rope d rfl]
    exact ⟨_, rfl⟩

/-- With nothing to supervise the counts and the flag stay. -/
theorem State.evaluated_uncounted {x : State} {b : Bool} (h : b = false ∨ x.drums.sampled = false ∨ x.hasTable = false)
    (d : Side) : (x.rope.side.get d).counting ((x.evaluated b).rope.side.get d) = x.rope.side.get d := by
  cases hs : x.drums.sampled with
  | false => rw [State.evaluated_of_unsampled hs]; rfl
  | true =>
    have hrun : x.evaluated b = x.weighed.judgeLoads := by
      rw [State.evaluated, if_pos hs]
      rcases h with hb | hno | hno
      · rw [hb]; rfl
      · rw [hs] at hno; contradiction
      · have htable : x.weighed.hasTable ≠ true := ne_true_of_eq_false hno
        rw [State.superviseRopes, if_neg htable, ite_self]
    rw [hrun, State.judgeLoads_side, State.weighed_side]
    rfl

/-- A balance that is not judged leaves the side and the machine (R52). -/
theorem State.judgeBalance_of_unusable {s : State} {d : Side}
    (h : ¬((s.loadChan d .a).health ≠ .bad ∧ (s.loadChan d .b).health ≠ .bad)) : s.judgeBalance d = s := by
  unfold State.judgeBalance
  refine if_neg fun hand => h ?_
  rw [Bool.and_eq_true] at hand
  unfold State.loadChan
  constructor
  · intro hbad; exact absurd hand.1 (by rw [show (s.rope.side.get d).chan.a.health = .bad from hbad]; decide)
  · intro hbad; exact absurd hand.2 (by rw [show (s.rope.side.get d).chan.b.health = .bad from hbad]; decide)

theorem State.judgeBalance_of_usable {s : State} {d : Side} {i : Int}
    (ha : (s.loadChan d .a).health ≠ .bad) (hb : (s.loadChan d .b).health ≠ .bad)
    (hi : imbalance (s.loadChan d .a).filtered (s.loadChan d .b).filtered = i) :
    s.judgeBalance d = (s.judgeAlarm d i).judgeImbalance d i := by
  have hgood (r : Twin) (h : (s.loadChan d r).health ≠ .bad) : (s.loadChan d r).health.usable = true := by
    cases hh : (s.loadChan d r).health <;> first | rfl | contradiction
  subst hi
  exact if_pos (by rw [Bool.and_eq_true]; exact ⟨hgood .a ha, hgood .b hb⟩)

section
variable {x y z : State} {d : Side} (h : SideJudged x d y z)
include h

/-- The record in which the slack is judged, and its end. -/
theorem SideJudged.chan : (z.rope.side.get d).chan = (x.rope.side.get d).chan ∧
    (y.rope.side.get d).chan = (x.rope.side.get d).chan := by
  have hy : (y.rope.side.get d).chan = (x.rope.side.get d).chan := by rw [h.record, State.weighed_side]
  refine ⟨?_, hy⟩
  rw [h.balanced, y.judgeBalance_counting d]
  exact hy

theorem SideJudged.reach : RopeWork (fun _ => False) (fun _ => False) x z :=
  ((h.before.mono (fun _ => id) nofun).trans (ropeWork_judgeBalance y d id id)).trans (h.between.mono (fun _ => id) nofun)

theorem SideJudged.tension : (z.rope.side.get d).tension = ((x.evaluated true).rope.side.get d).tension := by
  obtain ⟨bad, hend⟩ := h.ends
  rw [hend, State.judgeSlack_side rfl]

end

/-- What a side's end record shows of the two judgements. -/
theorem SideJudged.counts {x y z : State} {d : Side} (h : SideJudged x d y z) :
    let q := (x.evaluated true).rope.side.get d
    let r := (y.judgeBalance d).rope.side.get d
    q.alarms = r.alarms ∧ q.clears = r.clears ∧ q.trips = r.trips ∧ q.balance = r.balance ∧
      q.slacks = ((z.judgeSlack d).rope.side.get d).slacks := by
  obtain ⟨bad, hend⟩ := h.ends
  dsimp only
  rw [hend, State.judgeSlack_side rfl, ← h.balanced]
  exact ⟨rfl, rfl, rfl, rfl, rfl⟩

/-- A balance that is judged: the alarm counts over the record before it, the trip count over it, and no slack count. -/
theorem State.judgeBalance_parts {s : State} {d : Side} {i : Int} (h : s.judgeBalance d = (s.judgeAlarm d i).judgeImbalance d i) :
    let p := s.rope.side.get d
    let a := (s.judgeAlarm d i).rope.side.get d
    let q := (s.judgeBalance d).rope.side.get d
    a.trips = p.trips ∧ a.slacks = p.slacks ∧ q.alarms = a.alarms ∧ q.clears = a.clears ∧ q.balance = a.balance ∧
      q.slacks = a.slacks := by
  dsimp only
  rw [h, State.judgeImbalance_side rfl]
  have ha := State.judgeAlarm_side (s := s) (d := d) (i := i) rfl
  exact ⟨(congrArg RopeSide.trips ha).trans (Eq.refl _), (congrArg RopeSide.slacks ha).trans (Eq.refl _), rfl, rfl, rfl,
    rfl⟩

theorem State.judgeBalance_slacks (s : State) (d : Side) :
    ((s.judgeBalance d).rope.side.get d).slacks = (s.rope.side.get d).slacks := by
  by_cases h : (s.loadChan d .a).health ≠ .bad ∧ (s.loadChan d .b).health ≠ .bad
  · obtain ⟨-, hslacks, -, -, -, hsame⟩ := State.judgeBalance_parts (State.judgeBalance_of_usable h.1 h.2 rfl)
    exact hsame.trans hslacks
  · rw [State.judgeBalance_of_unusable h]

/-- The balance of a side with both channels usable, at the end of the evaluation (R53, R54). -/
theorem SideJudged.balances {x y z : State} {d : Side} (h : SideJudged x d y z) {i : Int} {p q : RopeSide}
    {lim : SideData} (hp : y.rope.side.get d = p) (hq : (x.evaluated true).rope.side.get d = q)
    (hlim : x.sideData d = lim) (hrun : y.judgeBalance d = (y.judgeAlarm d i).judgeImbalance d i)
    (ha : p.alarms ≤ 8) (hc : p.clears ≤ 8) :
    (lim.alarm < i → q.alarms = min 8 (p.alarms + 1) ∧ q.clears = 0 ∧ q.balance = (p.balance || decide (3 ≤ p.alarms))) ∧
    (i ≤ lim.alarm → lim.clear < i → q.alarms = 0 ∧ q.clears = 0 ∧ q.balance = p.balance) ∧
    (i ≤ lim.alarm → i ≤ lim.clear → q.alarms = 0 ∧ q.clears = min 8 (p.clears + 1) ∧
      q.balance = (p.balance && decide (p.clears < 7))) ∧
    (p.balance = false → q.balance = true →
      33 ∈ (x.evaluated true).trip.causes ∧ .balance d ∈ (x.evaluated true).trip.active) ∧
    (p.balance = true → q.balance = false → .balance d ∉ (x.evaluated true).trip.active) ∧
    (i ≤ lim.trip → q.trips = 0) ∧
    (lim.trip < i → p.trips < 3 → q.trips = p.trips + 1) ∧
    (lim.trip < i → 3 ≤ p.trips → q.trips = 0 ∧ 14 ∈ (x.evaluated true).trip.causes ∧
      (x.evaluated true).latched .s1 = true ∧ (x.evaluated true).latched .s2 = true) := by
  obtain ⟨htrips, -, halarms, hclears, hbalance, -⟩ := State.judgeBalance_parts hrun
  obtain ⟨hqa, hqc, hqt, hqb, -⟩ := h.counts
  rw [hq] at hqa hqc hqt hqb
  have hylim : y.sideData d = lim := (h.before.sideData d).trans hlim
  have halim : (y.judgeAlarm d i).sideData d = lim := by
    unfold State.sideData at *
    rw [(work_judgeAlarm y d i).active]
    exact hylim
  have hslack : RopeWork (fun _ => False) (· = .balance d) (y.judgeBalance d) (x.evaluated true) :=
    (h.between.trans (ropeWork_judgeSlack z d id)).trans h.after
  have himbalance : Keeps (ropeWatch (fun _ => False) (· = .balance d)) (y.judgeAlarm d i) (x.evaluated true) :=
    (keeps_judgeImbalance (y.judgeAlarm d i) d i id).trans (hrun ▸ hslack.keeps)
  obtain ⟨hset, hclear⟩ := State.judgeAlarm_advisory (s := y) (i := i) hp
  rw [hp] at htrips
  rw [hqa, hqc, hqb, halarms, hclears, hbalance]
  refine ⟨fun hi => ?_, fun hi hn => ?_, fun hi hn => ?_, fun hb hn => ?_, fun hb hn => ?_, fun hi => ?_, fun hi hn => ?_,
    fun hi hn => ?_⟩
  · rw [State.judgeAlarm_above hp (by rw [hylim]; exact hi) ha]
    exact ⟨rfl, rfl, rfl⟩
  · rw [State.judgeAlarm_between hp (by rw [hylim]; omega) (by rw [hylim]; exact hn)]
    exact ⟨rfl, rfl, rfl⟩
  · rw [State.judgeAlarm_below hp (by rw [hylim]; omega) (by rw [hylim]; omega) hc]
    exact ⟨rfl, rfl, rfl⟩
  · obtain ⟨hcause, hentry⟩ := hset hb hn
    exact ⟨himbalance.causes hcause, (himbalance.entry _ rfl rfl).mpr hentry⟩
  · exact mt (himbalance.entry _ rfl rfl).mp (hclear hb hn)
  · rw [hqt, hrun, State.judgeImbalance_within rfl (by rw [halim]; exact hi)]
  · rw [hqt, hrun, State.judgeImbalance_counts rfl (by rw [halim]; exact hi) (by omega), ← htrips]
  · obtain ⟨hside, hcause, h1, h2⟩ := State.judgeImbalance_raises (s := y.judgeAlarm d i) (d := d) (i := i) rfl
      (by rw [halim]; exact hi) (by omega)
    rw [← hrun] at hside hcause h1 h2
    rw [hqt, hside]
    exact ⟨rfl, hslack.keeps.causes hcause, hslack.keeps.latched h1, hslack.keeps.latched h2⟩

/-- The slack of a side at the end of the evaluation (R55). -/
theorem SideJudged.slackens {x y z : State} {d : Side} (h : SideJudged x d y z) {n : Nat} {q : RopeSide} {slack : Prop}
    (hn : (z.rope.side.get d).slacks = n) (hq : (x.evaluated true).rope.side.get d = q)
    (hslack : slack ↔ z.slackens d (z.rope.side.get d)) :
    (¬slack → q.slacks = 0) ∧ (slack → n < 2 → q.slacks = n + 1) ∧
      (slack → 2 ≤ n → q.slacks = 0 ∧ 13 ∈ (x.evaluated true).trip.causes ∧
        ∀ j, (x.evaluated true).latched j = true) := by
  obtain ⟨-, -, -, -, hqs⟩ := h.counts
  rw [hq] at hqs
  rw [hqs, hslack]
  refine ⟨fun hno => by rw [State.judgeSlack_taut rfl hno], fun hyes hfew => ?_, fun hyes hmany => ?_⟩
  · rw [(State.judgeSlack_slack rfl hyes).1 (by omega), ← hn]
  · obtain ⟨hside, hcause, hall⟩ := (State.judgeSlack_slack rfl hyes).2 (by omega)
    rw [hside]
    exact ⟨rfl, h.after.keeps.causes hcause, fun j => h.after.keeps.latched (hall j)⟩

/-- Settles O46: the balance of a side judged over its weighed record, then its slack over what that leaves. -/
theorem ropesAreSupervised : Obligations.RopesAreSupervised := by
  intro s c hc
  obtain ⟨x, b, heval⟩ := Evaluation.of_due hc
  refine ⟨_, heval.run, fun d => ?_⟩
  have hside := (x.evaluated b).sampleLoads_rope d
  have huse (r : Twin) := x.evaluated_loadChan b d r
  intro p q lim judged usable fa fb i empty slack
  obtain ⟨chan, bad, hx⟩ := heval.side d
  have hq : q = (x.evaluated b).rope.side.get d := hside
  have hqchan : q.chan = (x.rope.side.get d).chan := by rw [hq, State.evaluated_chan]
  have hcount : (x.rope.side.get d).alarms = p.alarms ∧ (x.rope.side.get d).clears = p.clears ∧
      (x.rope.side.get d).trips = p.trips ∧ (x.rope.side.get d).slacks = p.slacks ∧
      (x.rope.side.get d).balance = p.balance := by rw [hx]; exact ⟨rfl, rfl, rfl, rfl, rfl⟩
  obtain ⟨halarms, hclears, htrips, hslacks, hbalance⟩ := hcount
  refine ⟨fun hno => ?_, ?_⟩
  · have hwhy : b = false ∨ x.drums.sampled = false ∨ x.hasTable = false := by
      rw [heval.sampled, heval.hasTable]
      cases heval with
      | timer => exact .inl rfl
      | frame f h =>
        refine Classical.byContradiction fun hall => ?_
        obtain ⟨-, hrest⟩ := not_or.mp hall
        obtain ⟨hs, htable⟩ := not_or.mp hrest
        exact hno ⟨nofun, eq_true_of_ne_false hs, eq_true_of_ne_false htable⟩
    have hsame := hq ▸ State.evaluated_uncounted hwhy d
    exact ⟨(congrArg RopeSide.alarms hsame).trans halarms, (congrArg RopeSide.clears hsame).trans hclears,
      (congrArg RopeSide.trips hsame).trans htrips, (congrArg RopeSide.slacks hsame).trans hslacks,
      (congrArg RopeSide.balance hsame).trans hbalance⟩
  have hsplit (hj : judged) : b = true ∧ ∃ y z, SideJudged x d y z := by
    obtain ⟨hne, hs, htable⟩ := hj
    cases heval with
    | timer => contradiction
    | frame f h =>
      have hx := Evaluation.frame f h
      exact ⟨rfl, State.evaluated_judges (hx.sampled.trans hs) (hx.hasTable.trans htable) d⟩
  have husable (r : Twin) : usable r ↔ (x.loadChan d r).health ≠ .bad := by
    rw [← huse]
  have hlim : x.sideData d = lim := heval.sideData d
  have hslack {y z : State} (h : SideJudged x d y z) (hb : b = true) : slack ↔ z.slackens d (z.rope.side.get d) := by
    subst hb
    have hspeed : z.speed d = s.speed d := (h.reach.speed d).trans (heval.speed d)
    have hempty : z.emptyTension d = empty :=
      ((h.reach.emptyTension d).trans (heval.emptyTension d)).trans (s.emptyTension_eq d)
    have hbad : (z.rope.side.get d).isBothBad = false ↔ usable .a ∨ usable .b := by
      rw [RopeSide.isBothBad_eq, h.chan.1, decide_eq_false_iff_not, Classical.not_and_iff_not_or_not, husable, husable]
      rfl
    unfold State.slackens
    rw [hbad, hspeed, hempty, h.tension, ← hq, h.reach.sideData, hlim]
  have hslackCount {y z : State} (h : SideJudged x d y z) : (z.rope.side.get d).slacks = p.slacks := by
    rw [h.balanced, State.judgeBalance_slacks, h.record, State.weighed_side]
    exact hslacks
  have hloads {y z : State} (h : SideJudged x d y z) (r : Twin) : y.loadChan d r = x.loadChan d r := by
    unfold State.loadChan
    rw [h.chan.2]
  have hcounts {y z : State} (h : SideJudged x d y z) : (y.rope.side.get d).alarms = p.alarms ∧
      (y.rope.side.get d).clears = p.clears ∧ (y.rope.side.get d).trips = p.trips ∧
      (y.rope.side.get d).slacks = p.slacks ∧ (y.rope.side.get d).balance = p.balance := by
    rw [h.record, State.weighed_side]
    exact ⟨halarms, hclears, htrips, hslacks, hbalance⟩
  refine ⟨fun hj ha hb hca hcc => ?_, fun hj hno => ?_, fun hj hno => ?_, fun hj hyes hfew => ?_, fun hj hyes hmany => ?_⟩
  · obtain ⟨hbt, y, z, h⟩ := hsplit hj
    have hi : imbalance (y.loadChan d .a).filtered (y.loadChan d .b).filtered = i := by
      unfold State.loadChan
      rw [h.chan.2, ← hqchan]
      exact imbalance_eq fa fb
    have hy (r : Twin) (hr : usable r) : (y.loadChan d r).health ≠ .bad := by
      rw [hloads h]
      exact (husable r).mp hr
    have hrun := State.judgeBalance_of_usable (hy .a ha) (hy .b hb) hi
    obtain ⟨hPa, hPc, hPt, -, hPb⟩ := hcounts h
    subst hbt
    obtain ⟨h1, h2, h3, h4, h5, h6, h7, h8⟩ := h.balances rfl hq.symm hlim hrun (by rw [hPa]; exact hca)
      (by rw [hPc]; exact hcc)
    rw [hPa, hPb] at h1
    rw [hPb] at h2 h4 h5
    rw [hPc, hPb] at h3
    rw [hPt] at h7 h8
    have hend := (keeps_sampleLoads (k := ropeWatch (fun _ => True) fun _ => True) (x.evaluated true)).toKeepsBase
    rw [State.transmit_trip, State.transmit_latched]
    refine ⟨h1, h2, h3, fun hb hn => ?_, fun hb hn => ?_, h6, h7, fun hi hn => ?_⟩
    · obtain ⟨hcause, hentry⟩ := h4 hb hn
      exact ⟨hend.causes hcause, (hend.entry _ rfl trivial).mpr hentry⟩
    · exact mt (hend.entry _ rfl trivial).mp (h5 hb hn)
    · obtain ⟨hzero, hcause, hs1, hs2⟩ := h8 hi hn
      exact ⟨hzero, hend.causes hcause, hend.latched hs1, hend.latched hs2⟩
  · obtain ⟨hbt, y, z, h⟩ := hsplit hj
    have hrun : y.judgeBalance d = y := State.judgeBalance_of_unusable (by
      rw [hloads h, hloads h]
      exact fun hboth => hno ⟨(husable .a).mpr hboth.1, (husable .b).mpr hboth.2⟩)
    obtain ⟨hPa, hPc, hPt, -, hPb⟩ := hcounts h
    subst hbt
    obtain ⟨hqa, hqc, hqt, hqb, -⟩ := h.counts
    rw [hrun] at hqa hqc hqt hqb
    rw [hq]
    exact ⟨hqa.trans hPa, hqc.trans hPc, hqt.trans hPt, hqb.trans hPb⟩
  · obtain ⟨hb, y, z, h⟩ := hsplit hj
    have hiff := hslack h hb
    subst hb
    exact (h.slackens (hslackCount h) hq.symm hiff).1 hno
  · obtain ⟨hb, y, z, h⟩ := hsplit hj
    have hiff := hslack h hb
    subst hb
    exact (h.slackens (hslackCount h) hq.symm hiff).2.1 hyes hfew
  · obtain ⟨hb, y, z, h⟩ := hsplit hj
    have hiff := hslack h hb
    subst hb
    obtain ⟨hq0, hcause, hall⟩ := (h.slackens (hslackCount h) hq.symm hiff).2.2 hyes hmany
    have hend := (keeps_sampleLoads (k := .nothing) (x.evaluated true)).toKeepsBase
    refine ⟨hq0, ?_, State.latches_of_latched fun j => ?_⟩
    · rw [State.transmit_trip]; exact hend.causes hcause
    · rw [State.transmit_latched]; exact hend.latched (hall j)

end Sys2Proof.Machine
end


section
/-! A failed encoder (R22, R26, R28, R32, R96). -/

namespace Sys2Proof.Machine

theorem stateOfHealth_of_fits {x : Drum} (h : x.Fits) : stateOfHealth x.enc x.state = x.state := by
  obtain ⟨hlost, hB, hA, -, -⟩ := h
  unfold stateOfHealth
  cases ha : x.enc.a.failed <;> cases hb : x.enc.b.failed
  · rfl
  · exact (hA.mpr ⟨ha, hb⟩).symm
  · exact (hB.mpr ⟨ha, hb⟩).symm
  · exact (hlost.mpr ⟨ha, hb⟩).symm

theorem Drum.failing_single (x : Drum) (e : Twin) : (x.failing (decide (e = .a)) (decide (e = .b))).enc =
    x.enc.set e ⟨(x.enc.get e).count, true⟩ := by
  cases e <;> simp [Drum.failing, PerTwin.set, PerTwin.get]

/-- Both encoders of a drum in DUAL or DIVERGED are healthy (R23). -/
theorem Drum.Fits.healthy {x : Drum} (h : x.Fits) (hs : x.state = .dual ∨ x.state = .diverged) (e : Twin) :
    (x.enc.get e).failed = false := by
  obtain ⟨hlost, hB, hA, -, -⟩ := h
  cases ha : x.enc.a.failed <;> cases hb : x.enc.b.failed <;> cases e <;> simp_all [PerTwin.get]

/-- The first failure leaves the drum on the other encoder, the second none (R23, R26). -/
theorem Drum.Fits.goes_on {x : Drum} (h : x.Fits) (hs : x.state = .dual ∨ x.state = .diverged) (e : Twin) :
    stateOfHealth (x.enc.set e ⟨(x.enc.get e).count, true⟩) x.state = if e = .a then .singleB else .singleA := by
  have ha : x.enc.a.failed = false := h.healthy hs .a
  have hb : x.enc.b.failed = false := h.healthy hs .b
  unfold stateOfHealth
  cases e <;> simp [PerTwin.set, ha, hb]

theorem Drum.Fits.goes_lost {x : Drum} (h : x.Fits) {e : Twin} (hs : x.state = .singleA ∧ e = .a ∨ x.state = .singleB ∧ e = .b) :
    stateOfHealth (x.enc.set e ⟨(x.enc.get e).count, true⟩) x.state = .lost := by
  obtain ⟨-, hB, hA, -, -⟩ := h
  unfold stateOfHealth
  rcases hs with ⟨hs, rfl⟩ | ⟨hs, rfl⟩
  · simp [PerTwin.set, (hA.mp hs).2]
  · simp [PerTwin.set, (hB.mp hs).1]

/-! ## The kept work of a change of state -/

theorem keeps_raiseEntry {k : Watch} (s : State) (d : Side) (new : DrumState) : Keeps k s (s.raiseEntry d new) := by
  unfold State.raiseEntry
  cases new with
  | diverged => exact keeps_raiseCause s (.encoderDivergence d) (nomatch ·)
  | lost => exact keeps_raiseCause s (.drumLost d) (nomatch ·)
  | dual | singleA | singleB => exact .rfl

theorem keeps_announceDrum {k : Watch} (s : State) (d : Side) (x : Drum) (new : DrumState) (b : Bool) (v : Int)
    (hd : ¬k.degrade) (he : ¬k.entry (.encoderDisagreement d)) : Keeps k s (s.announceDrum d x new b v) :=
  (((keeps_raiseEntry s d new).trans (.onlyIf (keeps_clearAdvisory _ _ rfl he))).trans (keeps_report _ _)).trans
    (.onlyIf (keeps_startDegrade _ _ hd))

/-! ## The other encoder goes on (R23, R28, R96) -/

theorem State.clearAdvisory_eq (s : State) (c : Cause) : s.clearAdvisory c = { s with
    link := s.link.push (s.stamped (.alarm c false))
    trip := { s.trip with active := s.trip.active.filter fun y => decide (y ≠ c) } } := by
  unfold State.clearAdvisory
  rw [State.report_eq]
  have hnot : (fun x : Cause => !decide (x = c)) = fun y => decide (y ≠ c) := by funext y; rw [decide_not]
  unfold State.dropActive
  rw [hnot]
  rfl

/-- A drum that goes on with one encoder raises no cause. -/
theorem State.announceDrum_single {s : State} {d : Side} {x : Drum} {new : DrumState} {b : Bool} {v : Int}
    (h : entryCause d new = none) : s.announceDrum d x new b v = { s with
      link := s.link.pushAll (((if x.disagree then [ReportBody.alarm (.encoderDisagreement d) false] else []) ++
        [ReportBody.drum d x.state new x.enc.a.failed x.enc.b.failed x.theta]).map s.stamped)
      trip := if x.disagree then
        { s.trip with active := s.trip.active.filter fun y => decide (y ≠ .encoderDisagreement d) } else s.trip
      env := if b = true ∧ s.windOpen = true ∧ s.env.degrade = none then { s.env with degrade := some ⟨v, 0⟩ }
        else s.env } := by
  have hopen (u : State) (hu : u.wind = s.wind) : u.windOpen = s.windOpen := by unfold State.windOpen; rw [hu]
  have hlast (u : State) (hu : u.wind = s.wind) (henv : u.env = s.env) : (if b then u.startDegrade v else u) =
      { u with env := if b = true ∧ s.windOpen = true ∧ s.env.degrade = none then
        { s.env with degrade := some ⟨v, 0⟩ } else s.env } := by
    rw [← henv, ← hopen u hu]
    unfold State.startDegrade
    cases b with
    | false => rw [if_neg nofun, if_neg fun hand => nomatch hand.1]
    | true =>
      simp only [if_true, true_and, Option.isNone_iff_eq_none]
      split
      · rfl
      · rfl
  unfold State.announceDrum State.raiseEntry
  rw [h]
  dsimp only
  rw [hlast _ (by split <;> simp) (by split <;> simp)]
  cases x.disagree with
  | false => simp only [Bool.false_eq_true, if_false, State.report_eq]; rfl
  | true => simp only [if_true, State.report_eq, State.clearAdvisory_eq]; rfl

/-! ## No encoder is left (R26) -/

theorem State.raiseCause_drumLost (s : State) (d : Side) : .drumLost d ∈ (s.raiseCause (.drumLost d)).trip.active := by
  have hrecord : .drumLost d ∈ (s.raiseRecord (.drumLost d)).trip.active := by
    have hne (j : Stage) (h : Chan) : Cause.drumLost d ≠ .tripPath j h := nofun
    rw [State.mem_raiseRecord_active_iff fun j h _ => hne j h]
    by_cases h : .drumLost d ∈ s.trip.active
    · exact .inl h
    · exact .inr ⟨rfl, rfl, fun y hy => decide_eq_false fun heq => h (heq ▸ hy)⟩
  unfold State.raiseCause
  split
  next => exact hrecord
  next => exact (keepsBase_handLatch (k := .nothing) _ _).lost d hrecord

/-- What the drum unit's work leaves of the tracks and of the rope records. -/
def drumWatch : Watch where
  drum _ := True
  hold := True
  track _ := True
  rope _ := True
  env := True
  counters := True
  degrade := False
  entry _ := False
  count _ := ⟨0, 0, 0, 0, 0⟩

theorem State.announceDrum_lost (s : State) (d : Side) (x : Drum) (b : Bool) (v : Int) :
    11 ∈ (s.announceDrum d x .lost b v).trip.causes ∧ .drumLost d ∈ (s.announceDrum d x .lost b v).trip.active ∧
      ∀ j, (s.announceDrum d x .lost b v).latched j = true := by
  have hrest : Keeps drumWatch (s.raiseCause (.drumLost d)) (s.announceDrum d x .lost b v) :=
    ((Keeps.onlyIf (keeps_clearAdvisory _ _ rfl id)).trans (keeps_report _ _)).trans (.onlyIf (keeps_startDegrade _ _ id))
  obtain ⟨hcause, hlatched⟩ := s.raiseCause_raised (.drumLost d)
  exact ⟨hrest.causes hcause, hrest.lost d (s.raiseCause_drumLost d),
    fun j => hrest.latched (hlatched j (by cases j <;> rfl))⟩

/-! ## The events -/

/-- The state in which the encoder of a failure event fails. -/
def State.failing (s : State) (c : Instr) (d : Side) (e : Twin) : State :=
  if c = .quadratureError d e then s else s.setMonitor d e false

theorem exec_failure {s : State} {c : Instr} {d : Side} {e : Twin} (h : c = .quadratureError d e ∨ c = .lineMonitorInactive d e) :
    exec c s = .next ((s.failing c d e).failEncoder d e).transmit := by
  rcases h with rfl | rfl
  · rw [State.failing, if_pos rfl]; rfl
  · rw [State.failing, if_neg nofun]; rfl

theorem State.failing_eq (s : State) (c : Instr) (d : Side) (e : Twin) : s.failing c d e = { s with
    pins := if c = .quadratureError d e then s.pins
      else { s.pins with monitors := s.pins.monitors.set d ((s.pins.monitors.get d).set e false) } } := by
  unfold State.failing
  split <;> rfl

/-- An encoder that has failed before. -/
theorem State.failEncoder_again {s : State} {d : Side} {e : Twin} (hfit : (s.drums.drum.get d).Fits)
    (h : ((s.drums.drum.get d).enc.get e).failed = true) : s.failEncoder d e = s := by
  have hsame : (s.drums.drum.get d).failing (decide (e = .a)) (decide (e = .b)) = s.drums.drum.get d := by
    unfold Drum.failing
    cases e <;> simp_all [PerTwin.get]
    all_goals rw [← h]
  unfold State.failEncoder
  rw [State.failEncoders_eq, hsame, State.setDrum_self, stateOfHealth_of_fits hfit, State.changeDrum_of_same rfl]

/-- A failure that changes the state of the drum. -/
theorem State.failEncoder_changes {s : State} {d : Side} {e : Twin} {x : Drum} (hx : s.drums.drum.get d = x) {new : DrumState}
    (hnew : stateOfHealth (x.enc.set e ⟨(x.enc.get e).count, true⟩) x.state = new) (hne : x.state ≠ new) :
    s.failEncoder d e = (s.setDrum d { x with
        enc := x.enc.set e ⟨(x.enc.get e).count, true⟩, state := new, disagree := false, agreeing := 0
        history := if sameSource x.state new then x.history else [] }).announceDrum d
      (x.failing (decide (e = .a)) (decide (e = .b))) new (decide (x.state = .dual) && s.inPlay d) s.playSpeed := by
  subst hx
  unfold State.failEncoder
  rw [State.failEncoders_eq, Drum.failing_single, hnew, State.changeDrum_of_ne (by rw [State.setDrum_get]; exact hne),
    State.setDrum_get, State.setDrum_setDrum]
  have hplay : (s.setDrum d ((s.drums.drum.get d).failing (decide (e = .a)) (decide (e = .b)))).playSpeed = s.playSpeed := by
    unfold State.playSpeed State.speed
    cases d <;> rfl
  rw [hplay, Drum.enter, Drum.failing_single]
  rfl

/-- Settles O35: the drum's state follows the health of its encoders, and hands on what its new state says. -/
theorem failuresChangeTheDrumAtOnce : Obligations.FailuresChangeTheDrumAtOnce := by
  intro d e s c hc hfit x pins enc
  have hrun := exec_failure (s := s) hc
  have hu := s.failing_eq c d e
  generalize s.failing c d e = u at hrun hu
  have hx : u.drums.drum.get d = x := by rw [hu]
  refine ⟨fun hfailed => ⟨_, hrun, ?_⟩, fun hs => ⟨_, hrun, ?_⟩, fun hs => ⟨_, hrun, ?_⟩⟩
  · rw [State.failEncoder_again (hx ▸ hfit) (hx ▸ hfailed)]
    subst hu
    exact ⟨State.told_nothing rfl, State.transmit_pins _, by rw [State.transmit_eq]; rfl⟩
  · dsimp -zeta only
    intro new
    have hhealth := hfit.goes_on hs e
    have hfailed : (x.failing (decide (e = .a)) (decide (e = .b))).enc.a.failed = decide (e = .a) ∧
        (x.failing (decide (e = .a)) (decide (e = .b))).enc.b.failed = decide (e = .b) := by
      have ha : x.enc.a.failed = false := hfit.healthy hs .a
      have hb : x.enc.b.failed = false := hfit.healthy hs .b
      constructor <;> simp [Drum.failing, ha, hb]
    have hne : x.state ≠ new := by
      rcases hs with h | h <;> rw [h] <;> cases e <;> decide
    have hcause : entryCause d new = none := by cases e <;> rfl
    have hsource : sameSource x.state new = false := by
      rcases hs with h | h <;> rw [h] <;> cases e <;> rfl
    rw [State.failEncoder_changes hx hhealth hne, State.announceDrum_single hcause, hsource, hfailed.1, hfailed.2]
    subst hu
    refine ⟨State.told_of_link rfl, State.transmit_pins _, ?_, ?_, ?_, ?_⟩
    · rw [State.transmit_drums]; rfl
    · rw [State.transmit_trip]; rfl
    · rw [State.transmit_env]
      refine ite_congr (propext ?_) (fun _ => rfl) fun _ => rfl
      rw [Bool.and_eq_true, decide_eq_true_iff, and_assoc]
      exact Iff.rfl
    · rw [State.transmit_eq]; rfl
  · have hhealth := hfit.goes_lost hs
    have hne : x.state ≠ .lost := by rcases hs with ⟨h, -⟩ | ⟨h, -⟩ <;> rw [h] <;> decide
    have hsource : sameSource x.state .lost = false := by rcases hs with ⟨h, -⟩ | ⟨h, -⟩ <;> rw [h] <;> rfl
    rw [State.failEncoder_changes hx hhealth hne, hsource]
    obtain ⟨v, hv⟩ : ∃ v, v = u.setDrum d { x with
        enc := enc, state := .lost, disagree := false, agreeing := 0, history := [] } := ⟨_, rfl⟩
    have hrest := keeps_announceDrum (k := drumWatch) v d (x.failing (decide (e = .a)) (decide (e = .b))) .lost
      (decide (x.state = .dual) && u.inPlay d) u.playSpeed id id
    have hwork := work_announceDrum v d (x.failing (decide (e = .a)) (decide (e = .b))) .lost
      (decide (x.state = .dual) && u.inPlay d) u.playSpeed
    obtain ⟨hcause, hentry, hlatched⟩ := v.announceDrum_lost d (x.failing (decide (e = .a)) (decide (e = .b)))
      (decide (x.state = .dual) && u.inPlay d) u.playSpeed
    have hshow : (u.setDrum d { x with
        enc := x.enc.set e ⟨(x.enc.get e).count, true⟩, state := .lost, disagree := false, agreeing := 0,
        history := if false = true then x.history else [] }) = v := hv.symm
    rw [hshow]
    generalize v.announceDrum d _ _ _ _ = t at hrest hwork hcause hentry hlatched ⊢
    have hdrum : t.drums.drum.get d = { v.drums.drum.get d with restDue := (t.drums.drum.get d).restDue } :=
      hrest.drum d trivial
    have hv' : v.drums.drum.get d = { x with
        enc := enc, state := .lost, disagree := false, agreeing := 0, history := [] } := by
      rw [hv]; exact State.setDrum_get ..
    rw [hv'] at hdrum
    subst hv hu
    refine ⟨(State.transmit_pins _).trans hwork.pins, ?_⟩
    rw [State.transmit_drums, State.transmit_trip, State.transmit_rope, State.transmit_depth, State.transmit_inputs,
      State.transmit_clock, hdrum]
    refine ⟨rfl, rfl, rfl, rfl, hcause, hentry, State.latches_of_latched fun j => ?_, ?_, ?_, hwork.inputs, hwork.clock⟩
    · rw [State.transmit_latched]; exact hlatched j
    · exact PerSide.eq_of_get fun e => hrest.rope e trivial
    · exact PerSide.eq_of_get fun e => hrest.track e trivial

end Sys2Proof.Machine
end


section
/-! What the work of a drum sample and of a marker edge leaves of the rest of the machine. -/

namespace Sys2Proof.Machine

/-- A change of the counts of a side that the watched counts do not see. -/
def Watch.Ignores (k : Watch) (d : Side) (f : SideCounts → SideCounts) : Prop :=
  ∀ n : PerSide SideCounts, k.count (n.set d (f (n.get d))) = k.count n

/-- A disagreeing sample in the counts of a side (R127). -/
def addDisagreement (n : SideCounts) : SideCounts :=
  { n with disagreements := satSucc Config.max16 n.disagreements }

section
variable {k : Watch} (s : State)

/-! ## The drum unit -/

theorem keeps_changeDrum (d : Side) (new : DrumState) (h : ¬k.drum d) (hd : ¬k.degrade)
    (he : ¬k.entry (.encoderDisagreement d)) : Keeps k s (s.changeDrum d new) := by
  by_cases hsame : (s.drums.drum.get d).state = new
  · rw [State.changeDrum_of_same hsame]; exact .rfl
  · rw [State.changeDrum_of_ne hsame]
    exact (keeps_setDrum s d _ h).trans (keeps_announceDrum _ d _ new _ _ hd he)

theorem keeps_failEncoders (d : Side) (a b : Bool) (h : ¬k.drum d) (hd : ¬k.degrade)
    (he : ¬k.entry (.encoderDisagreement d)) : Keeps k s (s.failEncoders d a b) :=
  (keeps_setDrum s d _ h).trans (keeps_changeDrum _ d _ h hd he)

theorem keeps_voteDual (d : Side) (h : ¬k.drum d) (hd : ¬k.degrade) (he : ¬k.entry (.encoderDisagreement d))
    (hc : k.Ignores d addDisagreement) : Keeps k s (s.voteDual d) := by
  have hset (x : Drum) := keeps_setDrum s d x h
  unfold State.voteDual
  refine .ite (keeps_changeDrum s d _ h hd he) (.ite ?_ (.ite ?_ (hset _)))
  · exact ((hset _).trans (.unless (keeps_setAdvisory _ _ he))).trans (keeps_countSide _ d _ hc)
  · exact (hset _).trans (keeps_clearAdvisory _ _ rfl he)

theorem keeps_vote (d : Side) (h : ¬k.drum d) (hd : ¬k.degrade) (he : ¬k.entry (.encoderDisagreement d))
    (hc : k.Ignores d addDisagreement) : Keeps k s (s.vote d) :=
  ((keeps_setDrum s d _ h).trans (.onlyIf (keeps_voteDual _ d h hd he hc))).trans (keeps_setDrum _ d _ h)

theorem keeps_measure (d : Side) (take : Bool) (h : ¬k.drum d) : Keeps k s (s.measure d take) := keeps_setDrum s d _ h

/-- The drum unit's marks and its flag changed, the records of the drums up to their rest marks as they stood. -/
theorem keeps_setDrums (x : DrumUnit) (h : ∀ d, x.drum.get d = { s.drums.drum.get d with restDue := (x.drum.get d).restDue })
    (hh : k.hold → x.hold = s.drums.hold ∧ x.holdDue = s.drums.holdDue ∧ x.sampled = s.drums.sampled) :
    Keeps k s (s.setDrums x) :=
  .of_block rfl rfl rfl (fun d _ => h d) hh (fun _ _ => rfl) (fun _ _ => rfl) ⟨rfl, rfl, rfl⟩ (fun _ => rfl)
    (fun _ => rfl) (fun _ => rfl)

theorem keeps_clearRestMarks : Keeps k s s.clearRestMarks :=
  keeps_setDrums s _ (fun d => by cases d <;> rfl) fun _ => ⟨rfl, rfl, rfl⟩

theorem keeps_takeHold (h : ¬k.hold) : Keeps k s s.takeHold := by
  unfold State.takeHold
  refine .onlyIf (.trans (keeps_setDrums s _ ?_ ?_) (keeps_setWind _ _ ?_))
  · exact fun _ => rfl
  · exact fun hk => absurd hk h
  · exact rfl

theorem keeps_setSampled (h : ¬k.hold) : Keeps k s (s.setDrums { s.drums with sampled := true }) :=
  keeps_setDrums s _ (fun _ => rfl) fun hk => absurd hk h

/-! ## The depth tracker -/

theorem keeps_changeTrack (d : Side) (t : Track) (marker : Option Nat) (h : ¬k.track d) :
    Keeps k s (s.changeTrack d t marker) := by
  unfold State.changeTrack
  exact .ite (keeps_setTrack s d t h) ((keeps_setTrack s d t h).trans (keeps_report _ _))

theorem keeps_enterLost (d : Side) (marker : Option Nat) (h : ¬k.track d) : Keeps k s (s.enterLost d marker) :=
  (keeps_changeTrack s d _ marker h).trans (keeps_raiseCause _ (.positionLost d) (nomatch ·))

theorem keeps_enterSearching (d : Side) (h : ¬k.track d) : Keeps k s (s.enterSearching d) := keeps_changeTrack s d _ none h

theorem keeps_countReject (d : Side) (marker : Option Nat) (h : ¬k.track d) : Keeps k s (s.countReject d marker) :=
  .ite (keeps_enterLost s d marker h) (keeps_changeTrack s d _ marker h)

theorem keeps_formDepth (d : Side) (h : ¬k.track d) : Keeps k s (s.formDepth d) := keeps_setTrack s d _ h

theorem keeps_lockOnMotion (d : Side) (h : ¬k.track d) : Keeps k s (s.lockOnMotion d) :=
  .ite (keeps_enterLost s d none h) (.unless (.ite (keeps_enterSearching s d h) (.onlyIf (keeps_enterSearching s d h))))

theorem keeps_followDirection (d : Side) (h : ¬k.track d) : Keeps k s (s.followDirection d) :=
  .unless (.unless (keeps_setTrack s d _ h))

theorem keeps_judgeMisses (d : Side) (n : Nat) (h : ¬k.track d) (hc : k.Ignores d addMissed) :
    Keeps k s (s.judgeMisses d n) := by
  induction n generalizing s with
  | zero => exact .rfl
  | succ n ih =>
    unfold State.judgeMisses
    dsimp only
    split
    next =>
      exact .onlyIf ((((keeps_setTrack s d _ h).trans (keeps_countSide _ d _ hc)).trans (keeps_countReject _ d _ h)).trans
        (ih _))
    next => exact .rfl

theorem keeps_search (d : Side) (h : ¬k.track d) (he : ¬k.entry (.referenceSearch d)) : Keeps k s (s.search d) := by
  have hset (x : Track) := keeps_setTrack s d x h
  exact .ite (.ite ((hset _).trans (keeps_setAdvisory _ _ he)) (hset _)) (hset _)

theorem keeps_sampleLock (d : Side) (h : ¬k.track d) (he : ¬k.entry (.referenceSearch d)) (hc : k.Ignores d addMissed) :
    Keeps k s (s.sampleLock d) :=
  (((keeps_lockOnMotion s d h).trans (keeps_followDirection _ d h)).trans (keeps_judgeMisses _ d _ h hc)).trans
    (keeps_search _ d h he)

/-! ## The envelope computer -/

theorem keeps_judgeStageSpeed (j : Stage) (h : ¬k.counters) : Keeps k s (s.judgeStageSpeed j) := by
  have hset (x : PerStage Nat) : Keeps k s (s.setEnv { s.env with overCount := x }) :=
    keeps_setEnv s _ (fun _ => rfl) (fun hk => absurd hk h) fun _ => rfl
  unfold State.judgeStageSpeed
  split
  next => exact hset _
  next => exact .ite ((hset _).trans (keeps_raiseCause _ _ (nomatch ·))) (hset _)

theorem keeps_judgeSpeed (phase : Option Phase) (h : ¬k.counters) : Keeps k s (s.judgeSpeed phase) := by
  have hset (x : PerStage Nat) : Keeps k s (s.setEnv { s.env with overCount := x }) :=
    keeps_setEnv s _ (fun _ => rfl) (fun hk => absurd hk h) fun _ => rfl
  unfold State.judgeSpeed
  split
  next => exact hset _
  next => exact hset _
  next =>
    exact ((keeps_judgeStageSpeed s .s1 h).trans (keeps_judgeStageSpeed _ .s2 h)).trans (keeps_judgeStageSpeed _ .s3 h)

/-- A state whose sample has come to lie beyond an end of the shaft, or inside it again. -/
theorem keeps_judgeLimit (d : Side) (h : ¬k.env) : Keeps k s (s.judgeLimit d) := by
  unfold State.judgeLimit
  dsimp only
  refine .unless ?_
  have hset (x : PerSide LimitState) : Keeps k s (s.setEnv { s.env with limit := x }) :=
    keeps_setEnv s _ (fun hk => absurd hk h) (fun _ => rfl) fun _ => rfl
  have hended (x : PerSide LimitState) {p : Prop} [Decidable p] : Keeps k s
      (if p then s.setEnv { s.env with limit := x } else (s.setEnv { s.env with limit := x }).endLimit d) :=
    .ite (hset x) ((hset x).trans (keeps_endLimit _ d))
  have hraise (x : State) (e : ShaftEnd) (y : PerSide (Option Dir)) :
      Keeps k x ((x.setWind { x.wind with outward := y }).raiseCause (.limit d e)) :=
    .trans (keeps_setWind x _ (by rfl)) (keeps_raiseCause _ (.limit d e) (nomatch ·))
  split
  next => exact hended _
  next => exact (hended _).trans (hraise _ _ _)

theorem keeps_judgeOvertravel (w : Option OpenWind) : Keeps k s (s.judgeOvertravel w) := by
  unfold State.judgeOvertravel
  split
  next => exact .rfl
  next => exact .onlyIf (keeps_raiseCause s _ (nomatch ·))

/-! ## The wind controller -/

theorem keeps_watchStart (h : ¬k.counters) : Keeps k s s.watchStart := by
  unfold State.watchStart
  split
  next => exact .rfl
  next w hw =>
    have hadvance : Keeps k s (s.setCurrent (w.advance (s.payout w.lead))) := by
      refine keeps_setCurrent hw _ ?_ ?_ ?_ <;> rw [w.advance_eq]
      · exact id
      · exact id
    dsimp only
    split
    next hp =>
      refine .ite ?_ hadvance
      refine .trans (.trans (.trans (keeps_setCurrent hw _ ?_ ?_ ?_) (keeps_report _ _)) (keeps_setEnv _ _ ?_ ?_ ?_))
        (keeps_judgeLoadLost _)
      · exact fun hs => by rw [hp] at hs; contradiction
      · exact fun _ => nofun
      · rw [w.advance_eq]
      · exact fun _ => rfl
      · exact fun hk => absurd hk h
      · exact fun _ => rfl
    next => exact hadvance
    next => exact .rfl
    next => exact .rfl

theorem keeps_watchDirection : Keeps k s s.watchDirection := by
  unfold State.watchDirection
  split
  next => exact .rfl
  next => exact .onlyIf (keeps_raiseCause s _ (nomatch ·))

theorem keeps_watchCreep : Keeps k s s.watchCreep := by
  unfold State.watchCreep
  split
  next => exact .rfl
  next w hw =>
    split
    next h =>
      refine .trans (keeps_setCurrent hw _ ?_ ?_ ?_) (keeps_report _ _)
      · exact fun hs => by rw [h.1] at hs; contradiction
      · exact fun _ => nofun
      · exact rfl
    next => exact .rfl

theorem keeps_watchDwell : Keeps k s s.watchDwell := by
  unfold State.watchDwell
  split
  next => exact .rfl
  next w hw => exact .unless (.ite (.onlyIf (keeps_setCurrent hw _ id id rfl)) (keeps_setCurrent hw _ id id rfl))

theorem keeps_watchPeaks : Keeps k s s.watchPeaks := by
  unfold State.watchPeaks
  split
  next => exact .rfl
  next w hw => exact keeps_setCurrent hw _ id id rfl

theorem keeps_flagged (x : WindUnit) (c : Cause) (hx : x.current = s.wind.current) (hc : c.kind ≠ .advisory) :
    Keeps k s ((s.setWind x).raiseCause c) := (keeps_setWind s x hx).trans (keeps_raiseCause _ c hc)

theorem keeps_watchRest (d : Side) : Keeps k s (s.watchRest d) := .onlyIf (keeps_flagged s _ (.unintendedMotion d) rfl (nomatch ·))

theorem keeps_watchCreep2 : Keeps k s s.watchCreep2 := by
  unfold State.watchCreep2
  split
  next => exact .rfl
  next => exact .onlyIf (keeps_flagged s _ .drum2Creep rfl (nomatch ·))

theorem keeps_watchRecovery (d : Side) : Keeps k s (s.watchRecovery d) := by
  unfold State.watchRecovery
  split
  next => exact .rfl
  next =>
    split
    next => exact .rfl
    next => exact .ite (keeps_flagged s _ (.recoveryMotion d) rfl (nomatch ·)) (keeps_setWind s _ rfl)

theorem keeps_sampleWind (h : ¬k.counters) : Keeps k s s.sampleWind :=
  have hwind := ((((keeps_watchStart s h).trans (keeps_watchDirection _)).trans (keeps_watchCreep _)).trans
    (keeps_watchDwell _)).trans (keeps_watchPeaks _)
  ((((hwind.trans (keeps_watchRest _ .one)).trans (keeps_watchRest _ .two)).trans (keeps_watchCreep2 _)).trans
    (keeps_watchRecovery _ .one)).trans (keeps_watchRecovery _ .two)

end

end Sys2Proof.Machine
end


section
/-! Proof steps 2, 3 and 4 at their samples (R152 to R156). -/

namespace Sys2Proof.Machine

/-! ## A step's end -/

/-- A failing step: its report, and the proof unit after it. -/
theorem State.failProof_fails (s : State) (step code detail : Nat) :
    s.Told (s.failProof step code detail).transmit [.proofFail step code detail] ∧
      (s.failProof step code detail).transmit.proof = ⟨.proofFailed, some (code, detail)⟩ := by
  have h := s.failProof_frame step code detail
  exact ⟨State.told_of_link (congrArg State.link h), (State.transmit_proof _).trans (congrArg State.proof h)⟩

/-- A step that passes: its report, and the step that follows. -/
theorem State.stepPassed (s : State) (n : Nat) (next : ProofStep) :
    s.Told ((s.setReadiness (.proving next)).report (.proofStep n)).transmit [.proofStep n] ∧
      ((s.setReadiness (.proving next)).report (.proofStep n)).transmit.proof =
        { s.proof with readiness := .proving next } :=
  ⟨State.told_of_link (State.report_link ..), by rw [State.transmit_proof, State.report_proof]; rfl⟩

/-! ## What each step asks -/

theorem State.drumProves_iff {s : State} {d : Side} : s.drumProves d = true ↔
    (s.drums.drum.get d).enc.a.failed = false ∧ (s.drums.drum.get d).enc.b.failed = false ∧
      (s.drums.drum.get d).state ≠ .diverged ∧
      mag ((s.drums.drum.get d).enc.a.count - (s.drums.drum.get d).enc.b.count).toInt ≤ s.sup.agree := by
  unfold State.drumProves Drum.delta
  simp only [Bool.and_eq_true, Bool.not_eq_true', decide_eq_true_eq, and_assoc]

theorem State.lineProves_iff {s : State} {n : Fin 16} : s.lineProves n = true ↔ (s.pins.lines[n] = true →
    ∃ m ∈ s.markers, m.line = n.val ∧ (mag (m.desc - (s.depth.get m.side).D) ≤ s.sup.capture ∨
      mag (m.asc - (s.depth.get m.side).D) ≤ s.sup.capture)) := by
  unfold State.lineProves State.markerNear
  simp only [Bool.or_eq_true, Bool.not_eq_true', List.any_eq_true, Bool.and_eq_true, decide_eq_true_eq]
  cases s.pins.lines[n] <;> simp

theorem State.failingLine_eq (s : State) : s.failingLine = (List.finRange 16).find? fun n => !s.lineProves n := rfl

theorem State.failingLine_none {s : State} (h : ∀ n, s.lineProves n = true) : s.failingLine = none := by
  rw [State.failingLine_eq, List.find?_eq_none]
  simp [h]

theorem State.failingLine_least {s : State} {n : Fin 16} (hn : s.lineProves n = false)
    (hbelow : ∀ i < n, s.lineProves i = true) : s.failingLine = some n := by
  rw [State.failingLine_eq, List.find?_eq_some_iff_getElem]
  refine ⟨by rw [hn]; rfl, n.val, by simp, by simp, fun j hj => ?_⟩
  have hlt : (⟨j, by omega⟩ : Fin 16) < n := hj
  simpa using hbelow _ hlt

/-! ## The judgement by step -/

/-- The judgement of a step at a drum sample that finds both drums still. -/
def State.judgeStep (s : State) : ProofStep → State
  | .encoders => s.judgeEncoders
  | .markers => s.judgeMarkers
  | _ => s

section
variable {s : State} {step : ProofStep} (hr : s.proof.readiness = .proving step)
include hr

theorem State.sampleProof_of_proving : s.sampleProof =
    if !s.stationary .one then s.failProof step.number 0x8A 1
    else if !s.stationary .two then s.failProof step.number 0x8A 2
    else s.judgeStep step := by
  unfold State.sampleProof
  rw [hr]
  cases step <;> rfl

theorem State.sampleProof_moving_one (h : s.stationary .one = false) : s.sampleProof = s.failProof step.number 0x8A 1 := by
  rw [State.sampleProof_of_proving hr, h]
  rfl

theorem State.sampleProof_moving_two (h1 : s.stationary .one = true) (h : s.stationary .two = false) :
    s.sampleProof = s.failProof step.number 0x8A 2 := by
  rw [State.sampleProof_of_proving hr, h1, h]
  rfl

theorem State.sampleProof_still (h1 : s.stationary .one = true) (h2 : s.stationary .two = true) :
    s.sampleProof = s.judgeStep step := by
  rw [State.sampleProof_of_proving hr, h1, h2]
  rfl

end

theorem State.stationary_iff {s : State} {d : Side} : s.stationary d = true ↔ mag (s.speed d) < 50 := decide_eq_true_iff

/-- The proof has failed from `s` to `t` with one report. -/
def State.Fails (s t : State) (step code detail : Nat) : Prop :=
  s.Told t [.proofFail step code detail] ∧ t.proof = ⟨.proofFailed, some (code, detail)⟩

/-- A step of the proof has passed from `s` to `t` with one report. -/
def State.Passes (s t : State) (n : Nat) (next : ProofStep) : Prop :=
  s.Told t [.proofStep n] ∧ t.proof = { s.proof with readiness := .proving next }

section
variable {s : State}

theorem State.sampleProof_encoders (hr : s.proof.readiness = .proving .encoders) (h1 : s.stationary .one = true)
    (h2 : s.stationary .two = true) :
    (s.drumProves .one = false → s.Fails s.sampleProof.transmit 2 0x82 1) ∧
      (s.drumProves .one = true → s.drumProves .two = false → s.Fails s.sampleProof.transmit 2 0x83 2) ∧
      (s.drumProves .one = true → s.drumProves .two = true → s.Passes s.sampleProof.transmit 2 .markers) := by
  rw [State.sampleProof_still hr h1 h2, State.judgeStep, State.judgeEncoders]
  refine ⟨fun hone => ?_, fun hone htwo => ?_, fun hone htwo => ?_⟩
  · rw [hone]; exact s.failProof_fails 2 0x82 1
  · rw [hone, htwo]; exact s.failProof_fails 2 0x83 2
  · rw [hone, htwo]; exact s.stepPassed 2 .markers

theorem State.sampleProof_markers (hr : s.proof.readiness = .proving .markers) (h1 : s.stationary .one = true)
    (h2 : s.stationary .two = true) :
    ((∀ n, s.lineProves n = true) → s.Passes s.sampleProof.transmit 3 .loads) ∧
      ∀ n, s.lineProves n = false → (∀ i < n, s.lineProves i = true) →
        s.Fails s.sampleProof.transmit 3 0x84 n.val := by
  rw [State.sampleProof_still hr h1 h2, State.judgeStep, State.judgeMarkers]
  refine ⟨fun hall => ?_, fun n hn hbelow => ?_⟩
  · rw [State.failingLine_none hall]; exact s.stepPassed 3 .loads
  · rw [State.failingLine_least hn hbelow]; exact s.failProof_fails 3 0x84 n.val

/-- Motion fails a proof at any step (R153). -/
theorem State.sampleProof_moves {step : ProofStep} (hr : s.proof.readiness = .proving step)
    (h : s.stationary .one = false ∨ s.stationary .two = false) : s.sampleProof = s.failProof step.number 0x8A
      (if s.stationary .one = false then 1 else 2) := by
  cases h1 : s.stationary .one with
  | false => exact State.sampleProof_moving_one hr h1
  | true => exact State.sampleProof_moving_two hr h1 (h.resolve_left (by rw [h1]; decide))

theorem State.failProof_releases {step code detail : Nat} (htest : s.inTripTest = true) (k : Stage) (h : Chan) :
    let t := (s.failProof step code detail).transmit
    t.channel k h = ⟨!t.latched k, if s.readback k h = !t.latched k then none else some 20⟩ := by
  have hframe := s.failProof_frame step code detail
  obtain ⟨hchannel, -, htrip⟩ := State.leaveProof_channels (t := s.failProof step code detail) htest
    (r := .proofFailed) rfl ((congrArg State.trip hframe).trans (Eq.refl _))
  dsimp only
  rw [State.transmit_channel, State.transmit_latched, hchannel, State.latched_congr ((congrArg TripUnit.latch htrip).trans (Eq.refl _))]

end

/-! ## Step 4 -/

/-- The detail with which step 4 fails, if it does (R155). -/
def State.loadFailure (s : State) : Option Nat :=
  s.failingChannel.or (if s.tensionProves .one = false then some 0x11
    else if s.tensionProves .two = false then some 0x12 else none)

theorem State.sampleLoads_of_proving {s : State} (hr : s.proof.readiness = .proving .loads) :
    (∀ n, s.loadFailure = some n → s.sampleLoads = s.failProof 4 0x85 n) ∧
      (s.loadFailure = none → s.sampleLoads = s.passLoads) := by
  unfold State.sampleLoads State.loadFailure
  rw [hr]
  dsimp only
  cases s.failingChannel with
  | some n => exact ⟨fun m hm => by cases hm; rfl, nofun⟩
  | none =>
    cases h1 : s.tensionProves .one with
    | false => exact ⟨fun m hm => by cases hm; rfl, nofun⟩
    | true =>
      cases h2 : s.tensionProves .two with
      | false => exact ⟨fun m hm => by cases hm; rfl, nofun⟩
      | true => exact ⟨nofun, fun _ => rfl⟩

/-- The pass of step 4: its report, and the first half of step 5 (R155, R156). -/
theorem State.passLoads_passes (s : State) :
    s.passLoads.Holds (s.stamped (.proofStep 4)) ∧
      s.passLoads.proof = { s.proof with
        readiness := .proving (.tripPaths .s1 .x (!s.readback .s1 .x) (some 20)) } ∧
      ∀ k h, s.passLoads.channel k h = ⟨decide (k = .s1 ∧ h = .x ∧ s.readback .s1 .x = false), none⟩ := by
  have hread : (s.report (.proofStep 4)).readback .s1 .x = s.readback .s1 .x := by unfold State.readback; simp
  have hrun : s.passLoads = (s.report (.proofStep 4)).half .s1 .x (!s.readback .s1 .x) := by
    unfold State.passLoads
    rw [State.beginHalf_energise, hread]
  rw [hrun]
  refine ⟨(keeps_half (k := .nothing) _ _ _ _).holds _ (s.report_holds _).1, ?_, fun k h => ?_⟩
  · unfold State.half State.setReadiness
    rw [State.report_proof]
    rfl
  · simp only [State.half_channel, Bool.not_eq_true']

theorem State.tensionProves_eq_false {s : State} {d : Side} : s.tensionProves d = false ↔
    (s.rope.side.get d).tension < 500 * s.emptyTension d / 1000 ∨
      1500 * s.emptyTension d / 1000 < (s.rope.side.get d).tension := by
  unfold State.tensionProves
  rw [decide_eq_false_iff_not]
  omega

/-- An evaluation leaves the proof unit and the wired inputs. -/
theorem Evaluation.untouched {s x : State} {c : Instr} {b : Bool} (h : Evaluation s c x b) :
    (x.evaluated b).proof = s.proof ∧ (x.evaluated b).pins = s.pins ∧ (x.evaluated b).clock = s.clock ∧
      ∀ d, (x.evaluated b).emptyTension d = s.emptyTension d := by
  have hrest := ropeWork_evaluated (entry := fun _ => False) x b fun _ => id
  obtain ⟨u, hu, -⟩ := h.begins
  exact ⟨(hu.trans hrest).work.proof, (hu.trans hrest).work.pins, (hu.trans hrest).work.clock,
    fun d => (hrest.emptyTension d).trans (h.emptyTension d)⟩

/-- Settles O26: the drums' samples by step, then step 4 over the evaluation it finds. -/
theorem proofStepsAreJudged : Obligations.ProofStepsAreJudged := by
  refine ⟨fun s step hr => ?_, fun s c hr hc => ?_⟩
  · have hwork := work_atProof s
    have hexec := exec_drumSample s
    generalize s.atProof = u at hwork hexec ⊢
    have hdrum (d : Side) := (keeps_sampleProof (k := drumWatch) u).drum d trivial
    have htrack (d : Side) : u.sampleProof.depth.get d = u.depth.get d :=
      (keeps_sampleProof (k := drumWatch) u).track d trivial
    have hur : u.proof.readiness = .proving step := by rw [hwork.proof, hr]
    refine ⟨_, hexec, ?_⟩
    dsimp -zeta only
    intro still fails passes sound near
    have hsup : u.sup = s.sup := by unfold State.sup; rw [hwork.active]
    have hmarkers : u.markers = s.markers := by unfold State.markers; rw [hwork.active]
    have hD (d : Side) : u.sampleProof.transmit.depth.get d = u.depth.get d := by rw [State.transmit_depth, htrack]
    have hstill (d : Side) : still d ↔ u.stationary d = true := by
      rw [State.stationary_iff]
      unfold State.speed
      rw [← congrArg Drum.v (hdrum d), ← State.transmit_drums]
      exact Iff.rfl
    have hsound (d : Side) : sound d ↔ u.drumProves d = true := by
      have hx : u.sampleProof.transmit.drums.drum.get d =
          { u.drums.drum.get d with restDue := (u.sampleProof.drums.drum.get d).restDue } := by
        rw [State.transmit_drums]; exact hdrum d
      show (u.sampleProof.transmit.drums.drum.get d).enc.a.failed = false ∧ _ ↔ _
      rw [State.drumProves_iff, hsup, hx]
    have hnear (n : Fin 16) : near n ↔ u.lineProves n = true := by
      rw [State.lineProves_iff, hwork.pins, hmarkers, hsup]
      simp only [near, hD]
    have hfails (code detail : Nat) (h : u.Fails u.sampleProof.transmit step.number code detail) : fails code detail := h
    have hpasses (n : Nat) (next : ProofStep) (h : u.Passes u.sampleProof.transmit n next) : passes n next :=
      ⟨h.1, by rw [← hwork.proof]; exact h.2⟩
    simp only [hstill, hsound, hnear, Bool.not_eq_true]
    refine ⟨fun h1 => hfails _ _ ?_, fun h1 h2 => hfails _ _ ?_, fun htest hmoves k h => ?_, fun h1 h2 => ?_⟩
    · rw [State.sampleProof_moving_one hur h1]
      exact u.failProof_fails ..
    · rw [State.sampleProof_moving_two hur h1 h2]
      exact u.failProof_fails ..
    · have hread : s.readback k h = u.readback k h := by unfold State.readback; rw [hwork.pins]
      rw [hread, State.sampleProof_moves hur hmoves]
      exact State.failProof_releases ((State.inTripTest_congr hwork.proof).trans htest) k h
    · refine ⟨fun hstep hone => ?_, fun hstep hone htwo => ?_, fun hstep hone htwo => ?_, fun hstep hall => ?_,
        fun n hstep hn hbelow => ?_, fun hne hne' => ?_⟩
      · subst hstep; exact hfails _ _ ((State.sampleProof_encoders hur h1 h2).1 hone)
      · subst hstep; exact hfails _ _ ((State.sampleProof_encoders hur h1 h2).2.1 hone htwo)
      · subst hstep; exact hpasses _ _ ((State.sampleProof_encoders hur h1 h2).2.2 hone htwo)
      · subst hstep; exact hpasses _ _ ((State.sampleProof_markers hur h1 h2).1 hall)
      · subst hstep; exact hfails _ _ ((State.sampleProof_markers hur h1 h2).2 n hn hbelow)
      · rw [State.sampleProof_still hur h1 h2, State.transmit_proof, ← hwork.proof]
        cases step <;> first | rfl | contradiction
  · obtain ⟨x, b, heval⟩ := Evaluation.of_due hc
    obtain ⟨hproof, hpins, hclock, hempty⟩ := heval.untouched
    have hexec := heval.run
    have hside (d : Side) := (x.evaluated b).sampleLoads_rope d
    generalize x.evaluated b = u at hproof hpins hclock hempty hexec hside
    have hur : u.proof.readiness = .proving .loads := by rw [hproof, hr]
    obtain ⟨hfail, hpass⟩ := State.sampleLoads_of_proving hur
    refine ⟨_, hexec, ?_⟩
    dsimp -zeta only
    intro bad outside failure
    have hbad (d : Side) (r : Twin) : bad d r ↔ (u.loadChan d r).health ≠ .good := by
      show (u.sampleLoads.transmit.loadChan d r).health ≠ .good ↔ _
      unfold State.loadChan
      rw [hside]
    have houtside (d : Side) : outside d ↔ u.tensionProves d = false := by
      rw [State.tensionProves_eq_false, hempty, State.emptyTension_eq, ← hside]
    have hfailure : failure = u.loadFailure := by
      unfold State.loadFailure State.failingChannel
      simp only [failure, hbad, houtside, decide_eq_true_eq]
      (repeat' split) <;> rfl
    refine ⟨fun n hn => ?_, fun hn => ?_⟩
    · rw [hfail n (hfailure ▸ hn)]
      refine ⟨(u.failProof_fails 4 0x85 n).2, ?_⟩
      have hheld : (u.failProof 4 0x85 n).Holds (u.stamped (.proofFail 4 0x85 n)) := by
        refine State.holds_congr ?_ _ (u.report_holds (.proofFail 4 0x85 n)).1
        rw [State.report_link, State.failProof_frame]
        rfl
      rw [State.stamped_congr hclock] at hheld
      exact hheld.sends
    · rw [hpass (hfailure ▸ hn)]
      obtain ⟨hheld, hafter, hchannels⟩ := u.passLoads_passes
      have hread : u.readback .s1 .x = s.readback .s1 .x := by unfold State.readback; rw [hpins]
      rw [State.stamped_congr hclock] at hheld
      rw [hread] at hafter hchannels
      rw [State.transmit_proof, State.transmit_channel, hafter, hproof]
      exact ⟨rfl, hchannels, hheld.sends⟩

end Sys2Proof.Machine
end


section
/-! A drum sample block by block, and overspeed (R101, R102). -/

namespace Sys2Proof.Machine

/-! ## What the work of the blocks reads alike -/

section
variable {s t : State} (h : Work s t)
include h

theorem Work.sup : t.sup = s.sup := by unfold State.sup; rw [h.active]
theorem Work.winder : t.winder = s.winder := by unfold State.winder; rw [h.active]
theorem Work.sideData (d : Side) : t.sideData d = s.sideData d := by unfold State.sideData; rw [h.active]
theorem Work.mode (m : Mode) : t.mode m = s.mode m := by unfold State.mode; rw [h.active]
theorem Work.hasTable : t.hasTable = s.hasTable := State.hasTable_congr h.active
theorem Work.markers : t.markers = s.markers := by unfold State.markers; rw [h.active]
theorem Work.markersOf (d : Side) : t.markersOf d = s.markersOf d := by unfold State.markersOf; rw [h.markers]
theorem Work.zonesOf (d : Side) : t.zonesOf d = s.zonesOf d := by unfold State.zonesOf; rw [h.active]
theorem Work.inPlay (d : Side) : t.inPlay d = s.inPlay d := by unfold State.inPlay; rw [h.inputs]
theorem Work.stamped : t.stamped = s.stamped := State.stamped_congr h.clock

end

section
variable {k : Watch} {s t : State} (h : KeepsBase k s t)
include h

theorem KeepsBase.speed {d : Side} (hk : k.drum d) : t.speed d = s.speed d := by
  unfold State.speed; rw [h.drum d hk]

theorem KeepsBase.payout {d : Side} (hk : k.drum d) : t.payout d = s.payout d := by
  unfold State.payout; rw [h.drum d hk]

theorem KeepsBase.stationary {d : Side} (hk : k.drum d) : t.stationary d = s.stationary d := by
  unfold State.stationary; rw [h.speed hk]

/-- A wind that stays open keeps the envelope's record, its counters and its degrade state. -/
theorem KeepsBase.env_of_open (he : k.env) (hc : k.counters) (hd : k.degrade) (hopen : t.wind.current ≠ none) :
    t.env = s.env := by
  have hcount := (h.counters hc).elim id fun hclosed => absurd hclosed.2 hopen
  rw [h.env he, h.degrade_of_open hd hopen, hcount]

end

/-- A watch of everything but the advisories and the counts. -/
def fullWatch : Watch where
  drum _ := True
  hold := True
  track _ := True
  rope _ := True
  env := True
  counters := True
  degrade := True
  entry _ := False
  count _ := ⟨0, 0, 0, 0, 0⟩

/-- Whether a wind is open and has left ACCEPTED. -/
def State.left (s : State) : Prop := s.wind.current ≠ none ∧ s.phase ≠ some .accepted

theorem KeepsBase.left {k : Watch} {s t : State} (h : KeepsBase k s t) (hs : s.left) : t.left := h.opened hs.1 hs.2

/-! ## The drum sample block by block -/

theorem keeps_sampleDrums {k : Watch} (s : State) (h : ∀ d, ¬k.drum d) (hh : ¬k.hold) (hd : ¬k.degrade)
    (he : ∀ d, ¬k.entry (.encoderDisagreement d)) (hc : ∀ d, k.Ignores d addDisagreement) : Keeps k s s.sampleDrums := by
  unfold State.sampleDrums
  exact (((((keeps_clearRestMarks s).trans (keeps_vote _ .one (h _) hd (he _) (hc _))).trans
    (keeps_vote _ .two (h _) hd (he _) (hc _))).trans (keeps_measure _ .one _ (h _))).trans
    (keeps_measure _ .two _ (h _))).trans ((keeps_takeHold _ hh).trans (keeps_setSampled _ hh))

theorem keeps_sampleDepth {k : Watch} (s : State) (h : ∀ d, ¬k.track d) (he : ∀ d, ¬k.entry (.referenceSearch d))
    (hc : ∀ d, k.Ignores d addMissed) : Keeps k s s.sampleDepth :=
  (((keeps_formDepth s .one (h _)).trans (keeps_formDepth _ .two (h _))).trans
    (keeps_sampleLock _ .one (h _) (he _) (hc _))).trans (keeps_sampleLock _ .two (h _) (he _) (hc _))

/-- The envelope's record of a sample with a table (R86). -/
def State.enveloped (s : State) : State := s.setEnv (match s.wind.current with
  | some w => s.windEnvelope w
  | none => s.idleEnvelope)

theorem State.sampleEnvelope_of_table {s : State} (h : s.hasTable = true) : s.sampleEnvelope =
    (((s.enveloped.judgeSpeed s.phase).judgeLimit .one).judgeLimit .two).judgeOvertravel s.wind.current := if_pos h

theorem State.sampleEnvelope_of_none {s : State} (h : s.hasTable = false) : s.sampleEnvelope = s.setEnv s.noEnvelope :=
  if_neg (ne_true_of_eq_false h)

theorem State.enveloped_env (s : State) :
    s.enveloped.env.overCount = s.env.overCount ∧ s.enveloped.env.degrade = s.env.degrade ∧
      s.enveloped.env.limit = s.env.limit := by
  unfold State.enveloped
  split <;> exact ⟨rfl, rfl, rfl⟩

theorem keeps_enveloped {k : Watch} (s : State) (h : ¬k.env) : Keeps k s s.enveloped :=
  keeps_setEnv s _ (fun hk => absurd hk h) (fun _ => s.enveloped_env.1) fun _ => s.enveloped_env.2.1

theorem keeps_sampleEnvelope {k : Watch} (s : State) (h : ¬k.env) (hc : ¬k.counters) : Keeps k s s.sampleEnvelope := by
  cases htable : s.hasTable with
  | false =>
    rw [State.sampleEnvelope_of_none htable]
    exact keeps_setEnv s _ (fun hk => absurd hk h) (fun _ => rfl) fun _ => rfl
  | true =>
    rw [State.sampleEnvelope_of_table htable]
    exact (((((keeps_enveloped s h).trans (keeps_judgeSpeed _ _ hc)).trans (keeps_judgeLimit _ .one h)).trans
      (keeps_judgeLimit _ .two h)).trans (keeps_judgeOvertravel _ _))

/-- What a whole drum sample keeps. -/
theorem keeps_drumSample (s : State) : Keeps .nothing s s.atProof.sampleProof := by
  refine .trans (.trans (.trans (.trans (keeps_sampleDrums s ?_ ?_ ?_ ?_ ?_) (keeps_sampleDepth _ ?_ ?_ ?_))
    (keeps_sampleEnvelope _ ?_ ?_)) (keeps_sampleWind _ ?_)) (keeps_sampleProof _)
  all_goals first | exact id | exact fun _ => id | exact fun _ _ => rfl

/-! ## Overspeed of one stage (R101) -/

/-- Whether a side in play is faster than the threshold of a stage. -/
def State.exceeds (s : State) (k : Stage) (d : Side) : Bool := s.inPlay d && decide (s.env.thr.get k < mag (s.speed d))

/-- Whether any side is. -/
def State.exceeded (s : State) (k : Stage) : Bool := s.exceeds k .one || s.exceeds k .two

/-- The sides at fault. -/
def State.exceedingSides (s : State) (k : Stage) : Sides :=
  if s.exceeds k .one = false then .two else if s.exceeds k .two = false then .one else .both

theorem State.overSides_eq (s : State) (k : Stage) :
    s.overSides (s.env.thr.get k) = if s.exceeded k then some (s.exceedingSides k) else none := by
  have hone : decide (s.env.thr.get k < mag (s.speed .one)) = s.exceeds k .one := (Bool.true_and _).symm
  unfold State.overSides State.exceeded State.exceedingSides
  rw [hone, show (s.inPlay .two && decide (s.env.thr.get k < mag (s.speed .two))) = s.exceeds k .two from rfl]
  cases s.exceeds k .one <;> cases s.exceeds k .two <;> rfl

/-- The count of a stage's counter after a judged sample that does not raise. -/
def State.setOverCount (s : State) (k : Stage) (n : Nat) : State :=
  s.setEnv { s.env with overCount := s.env.overCount.set k n }

theorem State.judgeStageSpeed_spares {s : State} {k : Stage} (h : s.exceeded k = false ∨ s.env.overCount.get k = 0) :
    s.judgeStageSpeed k = s.setOverCount k (if s.exceeded k then 1 else 0) := by
  unfold State.judgeStageSpeed
  rw [State.overSides_eq]
  cases hover : s.exceeded k with
  | false => rfl
  | true =>
    have hzero := h.resolve_left (by rw [hover]; decide)
    simp only [if_true, hzero]
    rfl

theorem State.judgeStageSpeed_raises {s : State} {k : Stage} (h : s.exceeded k = true) (hcount : 1 ≤ s.env.overCount.get k) :
    s.judgeStageSpeed k = (s.setOverCount k 0).raiseCause (.overspeed k (s.exceedingSides k)) := by
  unfold State.judgeStageSpeed
  rw [State.overSides_eq, h]
  exact if_pos (by omega)

/-- The counter after a judged sample: it returns to 0 but for the first exceeding one. -/
theorem State.judgeStageSpeed_count (s : State) (k : Stage) : (s.judgeStageSpeed k).env.overCount.get k =
    if s.exceeded k = true ∧ s.env.overCount.get k = 0 then 1 else 0 := by
  by_cases h : s.exceeded k = false ∨ s.env.overCount.get k = 0
  · rw [State.judgeStageSpeed_spares h]
    refine (PerStage.get_set_self _ _ _).trans ?_
    cases hover : s.exceeded k with
    | false => simp
    | true => simp [h.resolve_left (by rw [hover]; decide)]
  · obtain ⟨hexceeds, hcount⟩ := not_or.mp h
    have hover : s.exceeded k = true := eq_true_of_ne_false hexceeds
    rw [State.judgeStageSpeed_raises hover (by omega), if_neg fun hand => hcount hand.2]
    rcases (keeps_raiseCause (k := fullWatch) (s.setOverCount k 0) (.overspeed k (s.exceedingSides k))
      (nomatch ·)).counters trivial with hsame | ⟨hzero, -⟩
    · rw [hsame]; exact PerStage.get_set_self _ _ _
    · rw [hzero]; cases k <;> rfl

/-- A judged sample of a wind that has left ACCEPTED moves this counter alone. -/
theorem State.judgeStageSpeed_env {s : State} (h : s.left) (k : Stage) : (s.judgeStageSpeed k).env = { s.env with
    overCount := s.env.overCount.set k (if s.exceeded k = true ∧ s.env.overCount.get k = 0 then 1 else 0) } := by
  by_cases hspare : s.exceeded k = false ∨ s.env.overCount.get k = 0
  · rw [State.judgeStageSpeed_spares hspare]
    cases hover : s.exceeded k with
    | false => simp; rfl
    | true => simp [hspare.resolve_left (by rw [hover]; decide)]; rfl
  · obtain ⟨hexceeds, hcount⟩ := not_or.mp hspare
    have hover : s.exceeded k = true := eq_true_of_ne_false hexceeds
    have hkeeps := (keeps_raiseCause (k := fullWatch) (s.setOverCount k 0) (.overspeed k (s.exceedingSides k))
      (nomatch ·)).toKeepsBase
    rw [State.judgeStageSpeed_raises hover (by omega), if_neg fun hand => hcount hand.2,
      hkeeps.env_of_open trivial trivial trivial (hkeeps.left (show (s.setOverCount k 0).left from h)).1]
    rfl

theorem Cause.overspeed_reaches (k j : Stage) (sides : Sides) :
    (Cause.overspeed k sides).reaches j = true ↔ stageCode j ≤ stageCode k := by
  cases sides <;> cases k <;> cases j <;> decide

/-- The second exceeding sample of a stage (R101). -/
theorem State.judgeStageSpeed_latches {s : State} {k : Stage} (h : s.exceeded k = true) (hcount : 1 ≤ s.env.overCount.get k) :
    3 ∈ (s.judgeStageSpeed k).trip.causes ∧
      (∀ j, stageCode j ≤ stageCode k → (s.judgeStageSpeed k).latched j = true) ∧
      (s.trip.latch.get k = .clear →
        (s.judgeStageSpeed k).trip.latch.get k = .latched (.overspeed k (s.exceedingSides k))) := by
  rw [State.judgeStageSpeed_raises h hcount]
  have hreach (j : Stage) := Cause.overspeed_reaches k j (s.exceedingSides k)
  obtain ⟨hcause, hlatched⟩ := (s.setOverCount k 0).raiseCause_raised (.overspeed k (s.exceedingSides k))
  refine ⟨hcause, fun j hj => hlatched j ((hreach j).mpr hj), fun hclear => ?_⟩
  have hfresh : k ∈ (s.setOverCount k 0).newlyLatched (.overspeed k (s.exceedingSides k)) := by
    refine State.mem_newlyLatched.mpr ⟨(hreach k).mpr (Nat.le_refl _), ?_⟩
    unfold State.latched
    rw [show (s.setOverCount k 0).trip.latch.get k = .clear from hclear]
    rfl
  rw [State.raiseCause_of_fresh (List.ne_nil_of_mem hfresh)]
  exact (keepsBase_handLatch (k := .nothing) _ _).first k _ (by rw [State.raiseRecord_latch, if_pos hfresh])

/-- A latch that stands keeps its first cause. -/
theorem KeepsBase.latch_of_latched {k : Watch} {s t : State} (h : KeepsBase k s t) {j : Stage} (hj : s.latched j = true) :
    t.trip.latch.get j = s.trip.latch.get j := by
  cases hl : s.trip.latch.get j with
  | clear => unfold State.latched at hj; rw [hl] at hj; contradiction
  | latched c => exact h.first j c hl

/-! ## Overspeed within a drum sample (R101, R102) -/

/-- The three stages judged one after the other, over a wind that has left ACCEPTED: each on the counter it had. -/
theorem State.judgeSpeed_stage {s : State} (h : s.left) {p : Phase} (hp : p ≠ .accepted) (k : Stage) :
    ∃ x, Keeps { fullWatch with counters := False } s x ∧
      Keeps { fullWatch with counters := False } (x.judgeStageSpeed k) (s.judgeSpeed (some p)) ∧
      x.env.thr = s.env.thr ∧ x.env.overCount.get k = s.env.overCount.get k ∧ Work s x ∧
      (s.judgeSpeed (some p)).env.overCount.get k = (x.judgeStageSpeed k).env.overCount.get k ∧
      (s.judgeSpeed (some p)).env.thr = s.env.thr := by
  have hrun : s.judgeSpeed (some p) = ((s.judgeStageSpeed .s1).judgeStageSpeed .s2).judgeStageSpeed .s3 := by
    cases p <;> first | rfl | contradiction
  have hkeeps (x : State) (j : Stage) : Keeps { fullWatch with counters := False } x (x.judgeStageSpeed j) :=
    keeps_judgeStageSpeed x j id
  have hleft1 : (s.judgeStageSpeed .s1).left := (hkeeps s .s1).left h
  have hleft2 : ((s.judgeStageSpeed .s1).judgeStageSpeed .s2).left := (hkeeps _ .s2).left hleft1
  have hthr : (s.judgeSpeed (some p)).env.thr = s.env.thr := by
    rw [hrun, State.judgeStageSpeed_env hleft2, State.judgeStageSpeed_env hleft1, State.judgeStageSpeed_env h]
  rw [hrun] at hthr ⊢
  cases k with
  | s1 =>
    refine ⟨s, .rfl, (hkeeps _ .s2).trans (hkeeps _ .s3), rfl, rfl, .rfl, ?_, hthr⟩
    rw [State.judgeStageSpeed_env hleft2, State.judgeStageSpeed_env hleft1]
    rfl
  | s2 =>
    refine ⟨_, hkeeps _ .s1, hkeeps _ .s3, ?_, ?_, work_judgeStageSpeed s .s1, ?_, hthr⟩
    · rw [State.judgeStageSpeed_env h]
    · rw [State.judgeStageSpeed_env h]; rfl
    · rw [State.judgeStageSpeed_env hleft2]; rfl
  | s3 =>
    refine ⟨_, (hkeeps _ .s1).trans (hkeeps _ .s2), .rfl, ?_, ?_,
      (work_judgeStageSpeed s .s1).trans (work_judgeStageSpeed _ .s2), rfl, hthr⟩
    · rw [State.judgeStageSpeed_env hleft1, State.judgeStageSpeed_env h]
    · rw [State.judgeStageSpeed_env hleft1, State.judgeStageSpeed_env h]; rfl

theorem State.judgeSpeed_unjudged (s : State) {p : Option Phase} (h : p = none ∨ p = some .accepted) :
    (s.judgeSpeed p).env.overCount = ⟨0, 0, 0⟩ := by
  rcases h with rfl | rfl <;> rfl

/-! ## The envelope's record after its judgements -/

/-- The limit state of a side after its judgement, the rest of the record as it stood. -/
theorem State.judgeLimit_env (s : State) (d : Side) : (s.judgeLimit d).env = { s.env with
    limit := s.env.limit.set d (limitState (s.sideData d) (s.depth.get d).D)
    degrade := (s.judgeLimit d).env.degrade, overCount := (s.judgeLimit d).env.overCount } := by
  have hset (l : PerSide LimitState) (e : LimitState) (h : e = l.get d) : l.set d e = l := by
    subst h; cases d <;> rfl
  have hraise (x : State) (e : ShaftEnd) (y : PerSide (Option Dir)) :
      ((x.setWind { x.wind with outward := y }).raiseCause (.limit d e)).env = { x.env with
        degrade := ((x.setWind { x.wind with outward := y }).raiseCause (.limit d e)).env.degrade
        overCount := ((x.setWind { x.wind with outward := y }).raiseCause (.limit d e)).env.overCount } :=
    (keeps_raiseCause (k := fullWatch) (x.setWind { x.wind with outward := y }) (.limit d e) (nomatch ·)).env trivial
  unfold State.judgeLimit
  dsimp only
  split
  next h => rw [hset _ _ h]
  next =>
    split
    next => split <;> rfl
    next =>
      rw [hraise]
      split <;> rfl

/-- The record of a sample with a table: the envelope's, and the limit states of the depths. -/
theorem State.sampleEnvelope_env {s : State} (h : s.hasTable = true) : s.sampleEnvelope.env = { s.enveloped.env with
    limit := ⟨limitState (s.sideData .one) s.depth.one.D, limitState (s.sideData .two) s.depth.two.D⟩
    degrade := s.sampleEnvelope.env.degrade, overCount := s.sampleEnvelope.env.overCount } := by
  have hspeed := keeps_judgeSpeed (k := { fullWatch with counters := False }) s.enveloped s.phase id
  have hone := keeps_judgeLimit (k := { fullWatch with env := False }) (s.enveloped.judgeSpeed s.phase) .one id
  have hover := keeps_judgeOvertravel (k := fullWatch) (((s.enveloped.judgeSpeed s.phase).judgeLimit .one).judgeLimit .two)
    s.wind.current
  have hwspeed : Work s (s.enveloped.judgeSpeed s.phase) :=
    (work_setEnv s _).trans (work_judgeSpeed _ _)
  have hwone := hwspeed.trans (work_judgeLimit _ .one)
  have hdepth1 : (s.enveloped.judgeSpeed s.phase).depth.get .one = s.depth.get .one := hspeed.track .one trivial
  have hdepth2 : ((s.enveloped.judgeSpeed s.phase).judgeLimit .one).depth.get .two = s.depth.get .two :=
    (hone.track .two trivial).trans (hspeed.track .two trivial)
  rw [State.sampleEnvelope_of_table h, hover.env trivial, State.judgeLimit_env, State.judgeLimit_env, hspeed.env trivial,
    hdepth1, hdepth2, hwspeed.sideData, hwone.sideData]
  rfl

end Sys2Proof.Machine
end


section
/-! Overspeed at a drum sample (R101, R102). -/

namespace Sys2Proof.Machine

/-- What the wind controller does after the start of motion keeps every watched part. -/
theorem keeps_afterStart {k : Watch} (s : State) : Keeps k s.watchStart s.sampleWind :=
  ((((((((keeps_watchDirection s.watchStart).trans (keeps_watchCreep _)).trans (keeps_watchDwell _)).trans
    (keeps_watchPeaks _)).trans (keeps_watchRest _ .one)).trans (keeps_watchRest _ .two)).trans
    (keeps_watchCreep2 _)).trans (keeps_watchRecovery _ .one)).trans (keeps_watchRecovery _ .two)

/-- The start of motion returns the counters to 0, and moves nothing else of the envelope. -/
theorem State.watchStart_env (s : State) : s.watchStart.env = s.env ∨
    s.phase = some .accepted ∧ s.watchStart.env = { s.env with overCount := ⟨0, 0, 0⟩ } := by
  unfold State.watchStart State.phase
  split
  next => exact .inl rfl
  next w hw =>
    dsimp only
    split
    next hp =>
      split
      · refine .inr ⟨by rw [hw, ← hp]; rfl, ?_⟩
        rw [State.enterRunning, State.judgeLoadLost_env, State.setEnv_env, State.report_env]
        rfl
      · exact .inl rfl
    all_goals exact .inl rfl

/-- The counters over the wind controller's work: those at 0 stay there, and a wind that has left ACCEPTED keeps them. -/
theorem State.sampleWind_counters (s : State) :
    (s.env.overCount = ⟨0, 0, 0⟩ → s.sampleWind.env.overCount = ⟨0, 0, 0⟩) ∧
      (s.left → s.sampleWind.env.overCount = s.env.overCount) := by
  have hrest := (keeps_afterStart (k := fullWatch) s).toKeepsBase
  constructor
  · intro hzero
    have hstart : s.watchStart.env.overCount = ⟨0, 0, 0⟩ := by
      rcases s.watchStart_env with h | ⟨-, h⟩ <;> rw [h]
      exact hzero
    exact (hrest.counters trivial).elim (fun hsame => hsame.trans hstart) And.left
  · intro hleft
    have hopen := (keeps_sampleWind (k := .nothing) s id).toKeepsBase.left hleft
    rw [hrest.env_of_open trivial trivial trivial hopen.1,
      s.watchStart_env.resolve_right fun h => hleft.2 h.1]

theorem State.left_iff {s : State} : s.left ↔ s.phase ≠ none ∧ s.phase ≠ some .accepted := by
  unfold State.left State.phase
  rw [Ne, Ne, Ne, Option.map_eq_none_iff]

/-- What the blocks after the depth tracker leave of a drum sample. -/
structure SampleRest (e t : State) : Prop where
  work : Work e t
  keeps : Keeps { fullWatch with env := False, counters := False } e t

/-- A drum sample from the envelope computer on, up to the proof unit's sitting. -/
theorem State.sampleRest (e : State) : SampleRest e e.sampleEnvelope.sampleWind :=
  ⟨(work_sampleEnvelope e).trans (work_sampleWind _), (keeps_sampleEnvelope e id id).trans (keeps_sampleWind _ id)⟩

/-- The thresholds, the permitted speed and the limit states of a sample stand to its end. -/
theorem State.sampleWind_env (s : State) : s.sampleWind.env = { s.env with
    degrade := s.sampleWind.env.degrade, overCount := s.sampleWind.env.overCount } :=
  (keeps_sampleWind (k := { fullWatch with counters := False }) s id).env trivial

/-- The first half of O41, over every state. -/
theorem State.judgeStageSpeed_twice (s : State) (k : Stage) :
    let thr := s.env.thr.get k
    let exceeds (d : Side) := s.inPlay d = true ∧ thr < mag (s.speed d)
    let t := s.judgeStageSpeed k
    t.env.overCount.get k = (if (exceeds .one ∨ exceeds .two) ∧ s.env.overCount.get k = 0 then 1 else 0) ∧
    (¬ (exceeds .one ∨ exceeds .two) ∨ s.env.overCount.get k = 0 → t.trip = s.trip ∧ t.wind = s.wind ∧ t.link = s.link) ∧
    ((exceeds .one ∨ exceeds .two) → 1 ≤ s.env.overCount.get k →
      3 ∈ t.trip.causes ∧ (∀ j, stageCode j ≤ stageCode k → t.latched j = true) ∧
      (∀ j, s.latched j = true → t.trip.latch.get j = s.trip.latch.get j) ∧
      ∀ c, s.trip.latch.get k = .clear → t.trip.latch.get k = .latched c →
        c = .overspeed k (if ¬ exceeds .one then .two else if ¬ exceeds .two then .one else .both)) := by
  intro thr exceeds t
  have hone (d : Side) : exceeds d ↔ s.exceeds k d = true := by
    unfold State.exceeds
    rw [Bool.and_eq_true, decide_eq_true_iff]
  have hany : exceeds .one ∨ exceeds .two ↔ s.exceeded k = true := by
    unfold State.exceeded
    rw [Bool.or_eq_true, hone, hone]
  refine ⟨?_, fun h => ?_, fun h hcount => ?_⟩
  · refine (s.judgeStageSpeed_count k).trans (ite_congr ?_ (fun _ => rfl) fun _ => rfl)
    rw [← hany]
  · rw [hany, Bool.not_eq_true] at h
    have hspare : t = s.setOverCount k _ := State.judgeStageSpeed_spares h
    rw [hspare]
    exact ⟨rfl, rfl, rfl⟩
  · obtain ⟨hcause, hlatched, hfirst⟩ := State.judgeStageSpeed_latches (hany.mp h) hcount
    refine ⟨hcause, hlatched, fun j hj => ?_, fun c hclear hc => ?_⟩
    · exact (keeps_judgeStageSpeed (k := .nothing) s k id).toKeepsBase.latch_of_latched hj
    · cases (hfirst hclear).symm.trans hc
      refine congrArg (Cause.overspeed k) ?_
      unfold State.exceedingSides
      exact ite_congr (by rw [hone, Bool.not_eq_true]) (fun _ => rfl) fun _ =>
        ite_congr (by rw [hone, Bool.not_eq_true]) (fun _ => rfl) fun _ => rfl

end Sys2Proof.Machine
end


section
/-! The end of a drum sample, and the overspeed of the stages at it (R101, R102). -/

namespace Sys2Proof.Machine

/-! ## The proof unit at the end of a drum sample -/

theorem State.sampleProof_frame (s : State) : s.sampleProof = { s with
    link := s.sampleProof.link, proof := s.sampleProof.proof
    trip := { s.trip with chan := s.sampleProof.trip.chan, active := s.sampleProof.trip.active } } := by
  have hfail (step code detail : Nat) : s.failProof step code detail = { s with
      link := (s.failProof step code detail).link, proof := (s.failProof step code detail).proof
      trip := { s.trip with
        chan := (s.failProof step code detail).trip.chan, active := (s.failProof step code detail).trip.active } } := by
    rw [State.failProof_frame, s.leaveProof_frame (r := .proofFailed) rfl]
    rfl
  have hpass (r : Readiness) (b : ReportBody) : (s.setReadiness r).report b = { s with
      link := ((s.setReadiness r).report b).link, proof := ((s.setReadiness r).report b).proof
      trip := { s.trip with
        chan := ((s.setReadiness r).report b).trip.chan, active := ((s.setReadiness r).report b).trip.active } } := by
    rw [State.report_eq]
    rfl
  unfold State.sampleProof
  split
  next =>
    split
    next => exact hfail ..
    next =>
      split
      next => exact hfail ..
      next =>
        split
        next =>
          unfold State.judgeEncoders
          split
          next => exact hfail ..
          next =>
            split
            next => exact hfail ..
            next => exact hpass ..
        next =>
          unfold State.judgeMarkers
          split
          next => exact hfail ..
          next => exact hpass ..
        all_goals rfl
  next => rfl

/-- What the proof unit and the transmitter leave of the state `u` that a drum sample has formed. -/
structure SampleEnd (u t : State) : Prop where
  wind : t.wind = u.wind
  env : t.env = u.env
  depth : t.depth = u.depth
  drums : t.drums = u.drums
  rope : t.rope = u.rope
  inputs : t.inputs = u.inputs
  latch : t.trip.latch = u.trip.latch
  causes : t.trip.causes = u.trip.causes
  entry : ∀ c, c.kind = .advisory → (c ∈ t.trip.active ↔ c ∈ u.trip.active)
  sends : ∀ (s : State) b, u.Holds (s.stamped b) → s.Sends t b

theorem State.sampleEnd (u : State) : SampleEnd u u.sampleProof.transmit := by
  have hkeeps := keeps_sampleProof (k := { Watch.nothing with entry := fun _ => True }) u
  have hframe := u.sampleProof_frame
  refine ⟨?_, ?_, ?_, ?_, ?_, ?_, ?_, ?_, fun c hc => ?_, fun s b hb => (hkeeps.holds _ hb).sends⟩
  · rw [State.transmit_wind, hframe]
  · rw [State.transmit_env, hframe]
  · rw [State.transmit_depth, hframe]
  · rw [State.transmit_drums, hframe]
  · rw [State.transmit_rope, hframe]
  · rw [State.transmit_inputs, hframe]
  · rw [State.transmit_trip, hframe]
  · rw [State.transmit_trip, hframe]
  · rw [State.transmit_trip]
    exact hkeeps.entry c hc trivial

section
variable {u t : State} (h : SampleEnd u t)
include h

theorem SampleEnd.latched : t.latched = u.latched := State.latched_congr h.latch
theorem SampleEnd.latches : t.latches = u.latches := by unfold State.latches; rw [h.latched]
theorem SampleEnd.phase : t.phase = u.phase := by unfold State.phase; rw [h.wind]
theorem SampleEnd.speed (d : Side) : t.speed d = u.speed d := by unfold State.speed; rw [h.drums]

end

/-- A claim about a drum sample, of the end of the state that the wind controller leaves. -/
theorem State.answers_drumSample {s : State} {P : State → Prop} (h : ∀ t, SampleEnd s.atProof t → P t) :
    Answers .drumSample s P :=
  ⟨_, exec_drumSample s, h _ s.atProof.sampleEnd⟩

/-! ## What a drum sample has formed when the envelope computer begins -/

theorem work_atEnvelope (s : State) : Work s s.atEnvelope := (work_sampleDrums s).trans (work_sampleDepth _)

/-- From the envelope computer to the end of the wind controller. -/
theorem State.keeps_atProof (s : State) :
    Keeps { fullWatch with env := False, counters := False } s.atEnvelope s.atProof := (State.sampleRest _).keeps

theorem keeps_atEnvelope {k : Watch} (s : State) (hd : ∀ d, ¬k.drum d) (hh : ¬k.hold) (hg : ¬k.degrade)
    (ht : ∀ d, ¬k.track d) (he : ∀ c, ¬k.entry c) (hc : ∀ d, k.Ignores d addDisagreement ∧ k.Ignores d addMissed) :
    Keeps k s s.atEnvelope :=
  (keeps_sampleDrums s hd hh hg (fun _ => he _) fun d => (hc d).1).trans
    (keeps_sampleDepth _ ht (fun _ => he _) fun d => (hc d).2)

/-- The envelope's record when the envelope computer begins, over a wind that is open and has left ACCEPTED. -/
theorem State.left.env_atEnvelope {s : State} (h : s.atEnvelope.left) (k : Stage) :
    s.atEnvelope.env.overCount.get k = s.env.overCount.get k := by
  have hkeeps := (keeps_atEnvelope (k := { Watch.nothing with counters := True }) s (fun _ => id) id id (fun _ => id)
    (fun _ => id) fun _ => ⟨fun _ => rfl, fun _ => rfl⟩).toKeepsBase
  rw [(hkeeps.counters trivial).resolve_right fun hclosed => h.1 hclosed.2]

/-! ## Overspeed at a drum sample (R101, R102) -/

/-- The envelope's judgements after those of the speed: counters at 0 stay there, and a wind that has left ACCEPTED keeps
them. -/
theorem State.sampleEnvelope_counters {e j : State} (htable : e.hasTable = true) (hj : e.enveloped.judgeSpeed e.phase = j) :
    (j.env.overCount = ⟨0, 0, 0⟩ → e.sampleEnvelope.env.overCount = ⟨0, 0, 0⟩) ∧
      (j.left → e.sampleEnvelope.env.overCount = j.env.overCount) ∧
      Keeps { fullWatch with env := False } j e.sampleEnvelope := by
  have hkeeps : Keeps { fullWatch with env := False } j e.sampleEnvelope := by
    rw [State.sampleEnvelope_of_table htable, hj]
    exact ((keeps_judgeLimit j .one id).trans (keeps_judgeLimit _ .two id)).trans (keeps_judgeOvertravel _ _)
  have hcounters := hkeeps.counters trivial
  exact ⟨fun hzero => hcounters.elim (fun hsame => hsame.trans hzero) And.left,
    fun hleft => hcounters.resolve_right fun hclosed => (hkeeps.toKeepsBase.left hleft).1 hclosed.2, hkeeps⟩

/-- With no wind under way the counters are 0 at the end of the sample. -/
theorem State.atProof_unjudged {s : State} (htable : s.atEnvelope.hasTable = true)
    (h : s.atEnvelope.phase = none ∨ s.atEnvelope.phase = some .accepted) : s.atProof.env.overCount = ⟨0, 0, 0⟩ := by
  have hjudged := (State.sampleEnvelope_counters htable rfl).1 (s.atEnvelope.enveloped.judgeSpeed_unjudged h)
  unfold State.atProof State.atWind
  exact (State.sampleWind_counters _).1 hjudged

/-- The thresholds of a sample with a table, at its end. -/
theorem State.atProof_env {s : State} (htable : s.atEnvelope.hasTable = true) :
    s.atProof.env.thr = s.atEnvelope.enveloped.env.thr ∧ s.atProof.env.vp = s.atEnvelope.enveloped.env.vp ∧
      s.atProof.env.limit = ⟨limitState (s.atEnvelope.sideData .one) s.atEnvelope.depth.one.D,
        limitState (s.atEnvelope.sideData .two) s.atEnvelope.depth.two.D⟩ := by
  unfold State.atProof State.atWind
  have hwind := State.sampleWind_env s.atEnvelope.sampleEnvelope
  have henv := State.sampleEnvelope_env htable
  generalize s.atEnvelope.sampleEnvelope.sampleWind.env = x at hwind ⊢
  generalize s.atEnvelope.sampleEnvelope.env = y at hwind henv
  generalize s.atEnvelope.enveloped.env = z at henv ⊢
  rw [hwind, henv]
  exact ⟨rfl, rfl, rfl⟩

/-- A wind under way is judged stage by stage: the counter and the fault record at the end of the sample. -/
theorem State.atProof_judged {s : State} (htable : s.atEnvelope.hasTable = true) (h : s.atEnvelope.left) (k : Stage) :
    ∃ x : State, (∀ d, x.exceeds k d = true ↔
        s.inPlay d = true ∧ s.atProof.env.thr.get k < mag (s.atProof.speed d)) ∧
      s.atProof.env.overCount.get k = (if x.exceeded k = true ∧ s.env.overCount.get k = 0 then 1 else 0) ∧
      (x.exceeded k = true → 1 ≤ s.env.overCount.get k →
        3 ∈ s.atProof.trip.causes ∧ ∀ j, stageCode j ≤ stageCode k → s.atProof.latched j = true) := by
  obtain ⟨p, hp⟩ := Option.ne_none_iff_exists'.mp (State.left_iff.mp h).1
  have hpne : p ≠ .accepted := fun heq => h.2 (heq ▸ hp)
  have hcountE := State.left.env_atEnvelope h k
  have hkeepsE := s.keeps_atProof
  have hworkE := work_atEnvelope s
  have hthrE := (State.atProof_env htable).1
  have hwind := State.sampleWind_counters s.atWind
  have hatProof : s.atProof = s.atWind.sampleWind := rfl
  have hatWind : s.atWind = s.atEnvelope.sampleEnvelope := rfl
  have hkeepsW := keeps_sampleWind (k := .nothing) s.atWind id
  rw [← hatProof] at hwind hkeepsW
  generalize s.atWind = m at *
  generalize s.atProof = u at *
  generalize s.atEnvelope = e at *
  have hleft : e.enveloped.left := (keeps_enveloped (k := .nothing) _ id).toKeepsBase.left h
  obtain ⟨x, hbefore, hafter, hthr, hcount, hwork, hend, hthrEnd⟩ := State.judgeSpeed_stage hleft hpne k
  have hjudged := State.sampleEnvelope_counters htable (congrArg _ hp)
  rw [← hatWind] at hjudged
  generalize e.enveloped.judgeSpeed (some p) = j at *
  have hjleft : j.left := (hbefore.trans ((keeps_judgeStageSpeed x k id).trans hafter)).toKeepsBase.left hleft
  have hcounts : u.env.overCount.get k = (x.judgeStageSpeed k).env.overCount.get k := by
    rw [hwind.2 (hjudged.2.2.toKeepsBase.left hjleft), hjudged.2.1 hjleft, hend]
  have hsame : x.env.overCount.get k = s.env.overCount.get k := by
    rw [hcount, e.enveloped_env.1, hcountE]
  have hspeed (d : Side) : u.speed d = x.speed d := by
    rw [hkeepsE.toKeepsBase.speed (d := d) trivial, hbefore.toKeepsBase.speed (d := d) trivial]
    rfl
  have hplay (d : Side) : x.inPlay d = s.inPlay d := by
    rw [hwork.inPlay, ← hworkE.inPlay]
    rfl
  refine ⟨x, fun d => ?_, ?_, fun hover hone => ?_⟩
  · unfold State.exceeds
    rw [Bool.and_eq_true, decide_eq_true_iff, hplay, hspeed, hthrE, hthr]
  · rw [hcounts, State.judgeStageSpeed_count, hsame]
  · obtain ⟨hcause, hlatched, -⟩ := State.judgeStageSpeed_latches hover (hsame ▸ hone)
    exact ⟨hkeepsW.causes (hjudged.2.2.causes (hafter.causes hcause)),
      fun i hi => hkeepsW.latched (hjudged.2.2.latched (hafter.latched (hlatched i hi)))⟩

/-- Settles O41: one stage over every state, then each stage at the sample that has been formed. -/
theorem overspeedNeedsTwoSamples : Obligations.OverspeedNeedsTwoSamples := by
  refine ⟨State.judgeStageSpeed_twice, fun s htable => State.answers_drumSample fun t ht k => ?_⟩
  have htableE : s.atEnvelope.hasTable = true := (work_atEnvelope s).hasTable.trans htable
  refine ⟨fun h => ?_, fun hne hne' => ?_⟩
  · rw [ht.env, State.atProof_unjudged htableE h]
    cases k <;> rfl
  · have hleft := State.left_iff.mpr ⟨hne, hne'⟩
    obtain ⟨x, hexceeds, hcount, hraises⟩ := State.atProof_judged htableE hleft k
    rw [← ht.env] at hcount
    rw [← ht.causes, ← ht.latched] at hraises
    have hany : x.exceeded k = true ↔ (s.inPlay .one = true ∧ t.env.thr.get k < mag (t.speed .one)) ∨
        (s.inPlay .two = true ∧ t.env.thr.get k < mag (t.speed .two)) := by
      unfold State.exceeded
      rw [Bool.or_eq_true, hexceeds, hexceeds, ht.env, ht.speed, ht.speed]
    refine ⟨hcount.trans (ite_congr (by rw [hany]) (fun _ => rfl) fun _ => rfl), fun hover hone => ?_⟩
    obtain ⟨hcause, hlatched⟩ := hraises (hany.mpr hover) hone
    refine ⟨hcause, hlatched, fun hclear => ?_⟩
    have hkeeps := keeps_drumSample s
    have hend := s.atProof.sampleProof_frame
    have hlatch : s.atProof.sampleProof.latched k = true := by
      rw [State.latched_congr (s := s.atProof) (by rw [hend])]
      rw [← ht.latched]
      exact hlatched k (Nat.le_refl _)
    have hphase : s.atProof.sampleProof.phase = s.atProof.phase := by unfold State.phase; rw [hend]
    rw [ht.phase, ← hphase]
    refine (hkeeps.trips k hclear hlatch).resolve_left fun hnone => ?_
    rw [hphase] at hnone
    exact (State.left_iff.mp (s.keeps_atProof.toKeepsBase.left hleft)).1 hnone

end Sys2Proof.Machine
end


section
/-! The permitted speed and the thresholds of a drum sample (R86 to R100). -/

namespace Sys2Proof.Machine

/-! ## The least of the terms (R99) -/

theorem min_eq_one (a b : Int) : min a b = a ∨ min a b = b := by omega

theorem foldl_min_le (v : Int) (l : List Int) : ∀ x ∈ v :: l, l.foldl min v ≤ x := by
  induction l generalizing v with
  | nil => exact fun x hx => Int.le_of_eq (List.mem_singleton.mp hx).symm
  | cons y l ih =>
    intro x hx
    rcases List.mem_cons.mp hx with rfl | hx
    · exact Int.le_trans (ih _ _ List.mem_cons_self) (Int.min_le_left _ _)
    · rcases List.mem_cons.mp hx with rfl | hx
      · exact Int.le_trans (ih _ _ List.mem_cons_self) (Int.min_le_right _ _)
      · exact ih _ _ (List.mem_cons_of_mem _ hx)

theorem foldl_min_mem (v : Int) (l : List Int) : l.foldl min v ∈ v :: l := by
  induction l generalizing v with
  | nil => exact List.mem_cons_self
  | cons y l ih =>
    rcases List.mem_cons.mp (ih (min v y)) with h | h
    · rw [List.foldl_cons, h]
      rcases min_eq_one v y with hmin | hmin <;> rw [hmin] <;> simp
    · exact List.mem_cons_of_mem _ (List.mem_cons_of_mem _ h)

/-- The sides in play, in their order. -/
def State.sidesInPlay (s : State) : List Side := if s.inputs.clutch then [.one, .two] else [.one]

/-- The limit term of a side at a sample (R91). -/
def State.limitTermOf (s : State) (p : ModeParams) (d : Side) : Int :=
  limitTerm p (s.sideData d) (s.depth.get d).D (s.depth.get d).u (s.travelDir d)

/-- The terms and caps of an open wind (R89 to R98). -/
def State.speedTerms (s : State) (w : OpenWind) : List Int :=
  [20000, (s.mode w.mode).vMax, targetTerm (s.mode w.mode) w.phase (s.targetDistance w)] ++
    s.sidesInPlay.map (s.limitTermOf (s.mode w.mode)) ++
    s.sidesInPlay.flatMap (fun d => s.zoneTerms (s.mode w.mode) d (s.travelDir d)) ++ s.lockCap.toList ++
    (s.degradeCap (s.mode w.mode)).toList ++ s.recoveryCap.toList

theorem State.windEnvelope_least (s : State) (w : OpenWind) :
    (s.windEnvelope w).vp ∈ s.speedTerms w ∧ ∀ x ∈ s.speedTerms w, (s.windEnvelope w).vp ≤ x := by
  obtain ⟨l, hl, hmem⟩ : ∃ l, (s.windEnvelope w).vp = min Config.maxSpeed (minWith (s.mode w.mode).vMax l) ∧
      ∀ x, x ∈ s.speedTerms w ↔ x = 20000 ∨ x ∈ (s.mode w.mode).vMax :: l := by
    refine ⟨_, rfl, fun x => ?_⟩
    unfold State.speedTerms State.sidesInPlay State.limitTermOf State.inPlay State.travelDirs
    cases h : s.inputs.clutch <;>
      simp only [State.inPlay, h, PerSide.get, List.mem_append, List.mem_cons, List.not_mem_nil, if_true, if_false,
        Bool.false_eq_true, Option.toList_some, Option.toList_none, List.map_cons, List.map_nil, List.flatMap_cons,
        List.flatMap_nil, or_false] <;> grind
  rw [hl]
  refine ⟨?_, fun x hx => ?_⟩
  · rw [hmem]
    rcases min_eq_one Config.maxSpeed (minWith (s.mode w.mode).vMax l) with h | h <;> rw [h]
    · exact .inl rfl
    · exact .inr (foldl_min_mem _ _)
  · rcases (hmem x).mp hx with rfl | hx
    · exact Int.min_le_left _ _
    · exact Int.le_trans (Int.min_le_right _ _) (foldl_min_le _ _ x hx)

/-! ## The record of a sample at its end -/

theorem threshold_of_get (p : Supervision) (vp : Int) (k : Stage) :
    (thresholds p vp).get k = vp + max (vp * p.margin.get k / 1000) (p.floor.get k) := by cases k <;> rfl

theorem State.enveloped_thr (s : State) : s.enveloped.env.thr = thresholds s.sup s.enveloped.env.vp ∧
    (s.wind.current = none → s.enveloped.env.vp = 0) ∧
      ∀ w, s.wind.current = some w → s.enveloped.env.vp = (s.windEnvelope w).vp := by
  unfold State.enveloped
  split
  next w hw => exact ⟨rfl, fun h => by rw [hw] at h; contradiction, fun v hv => by cases hw.symm.trans hv; rfl⟩
  next hw => exact ⟨rfl, fun _ => rfl, fun v hv => by rw [hw] at hv; contradiction⟩

theorem State.travelDir_of_open {s : State} {w : OpenWind} (hw : s.wind.current = some w) (d : Side) : s.travelDir d =
    if 50 ≤ mag (s.speed d) then (if 0 < s.speed d then .descending else .ascending)
    else if d = w.lead then w.dir else w.dir.opposite := by
  have hstill : s.stationary d = !decide (50 ≤ mag (s.speed d)) := by
    rw [Bool.eq_iff_iff, State.stationary_iff, Bool.not_eq_true', decide_eq_false_iff_not, Int.not_le]
  unfold State.travelDir
  rw [hw, hstill]
  (repeat' split) <;> simp_all [dirOfSpeed, sideDir]

theorem mag_of_nonneg {x : Int} (h : 0 ≤ x) : mag x = x := if_neg (by omega)
theorem mag_of_nonpos {x : Int} (h : x ≤ 0) : mag x = -x := by
  unfold mag
  split <;> omega

/-- The caps of a sample, each present or not (R95, R97, R98). -/
theorem State.caps_toList (s : State) :
    s.lockCap.toList = (if s.sidesInPlay.any fun d => !(s.depth.get d).sampledLock.referenced then [(s.mode .inspect).vMax]
        else []) ∧
      s.recoveryCap.toList = if s.wind.recovery.isSome then [Config.recoveryCap] else [] := by
  constructor
  · unfold State.lockCap State.sidesInPlay State.inPlay
    cases s.inputs.clutch <;> simp [PerSide.get] <;> (repeat' split) <;> rfl
  · unfold State.recoveryCap
    split <;> rfl

/-- With no table the sample is not evaluated. -/
theorem State.atProof_unevaluated {s : State} (htable : s.atEnvelope.hasTable = false) :
    s.atProof.env.vp = 0 ∧ s.atProof.env.thr = ⟨150, 300, 500⟩ ∧ s.atProof.env.limit = ⟨.inside, .inside⟩ := by
  unfold State.atProof State.atWind
  have hwind := State.sampleWind_env s.atEnvelope.sampleEnvelope
  have henv : s.atEnvelope.sampleEnvelope.env = s.atEnvelope.noEnvelope := by
    rw [State.sampleEnvelope_of_none htable, State.setEnv_env]
  generalize s.atEnvelope.sampleEnvelope.sampleWind.env = x at hwind ⊢
  generalize s.atEnvelope.sampleEnvelope.env = y at hwind henv
  rw [hwind, henv]
  exact ⟨rfl, rfl, rfl⟩

/-- Settles O39: the least of the terms that the envelope computer forms from the sample's own depths and speeds. -/
theorem permittedSpeedIsTheLeastTerm : Obligations.PermittedSpeedIsTheLeastTerm := by
  intro s t hexec e
  have ht : SampleEnd s.atProof t := by
    cases (exec_drumSample s).symm.trans hexec
    exact s.atProof.sampleEnd
  have hwork : Work s e := work_atEnvelope s
  have hkeeps := s.keeps_atProof.toKeepsBase
  have hD (d : Side) : t.depth.get d = e.depth.get d := by rw [ht.depth]; exact hkeeps.track d trivial
  have hv (d : Side) : t.speed d = e.speed d := (ht.speed d).trans (hkeeps.speed trivial)
  have hnone (h : e.hasTable = false) : t.env.vp = 0 ∧ t.env.thr = ⟨150, 300, 500⟩ := by
    obtain ⟨hvp, hthr, -⟩ := State.atProof_unevaluated (s := s) h
    exact ⟨by rw [ht.env, hvp], by rw [ht.env, hthr]⟩
  have hsome (h : e.hasTable = true) : t.env.vp = e.enveloped.env.vp ∧ t.env.thr = e.enveloped.env.thr := by
    obtain ⟨hthr, hvp, -⟩ := State.atProof_env (s := s) h
    exact ⟨by rw [ht.env, hvp], by rw [ht.env, hthr]⟩
  clear_value e
  obtain ⟨hthr, hidle, hopen⟩ := e.enveloped_thr
  rw [hwork.hasTable] at hnone hsome
  refine ⟨fun h => ?_, fun h => (hnone h).2, fun h k => ?_, fun w hw h => ?_⟩
  · cases htable : s.hasTable with
    | false => exact (hnone htable).1
    | true => rw [(hsome htable).1, hidle (h.resolve_right (by rw [htable]; decide))]
  · rw [(hsome h).2, (hsome h).1, hthr, threshold_of_get, hwork.sup]
  · intro p dir depth u limit zone ahead target inPlay unlocked terms
    have hdir (d : Side) : e.travelDir d = dir d := by
      rw [State.travelDir_of_open hw, ← hv]
    have hmode : e.mode w.mode = p := hwork.mode w.mode
    have hlimit : e.limitTermOf p = limit := by
      funext d
      have hterm : e.limitTermOf p d = limitTerm p (s.sideData d) (t.depth.get d).D (t.depth.get d).u (dir d) := by
        unfold State.limitTermOf
        rw [hdir, hwork.sideData, ← hD]
      exact hterm.trans rfl
    have hzone (d : Side) : e.zoneTerms p d (e.travelDir d) = (s.zonesOf d).filterMap (zone d) := by
      unfold State.zoneTerms
      rw [hwork.zonesOf, hdir, ← hD]
      refine congrArg (List.filterMap · _) (funext fun z => ?_)
      unfold zoneTerm
      cases hd : dir d <;> simp only [zone, hd, depth, u]
      · refine ite_congr rfl (fun _ => rfl) fun _ => ite_congr rfl (fun hnear => ?_) fun _ => rfl
        rw [mag_of_nonneg (by omega)]
      · refine ite_congr rfl (fun _ => rfl) fun _ => ite_congr rfl (fun hnear => ?_) fun _ => rfl
        rw [mag_of_nonpos (by omega), Int.neg_sub]
    have htarget : targetTerm p w.phase (e.targetDistance w) = target := by
      have hahead : e.targetDistance w = ahead := by unfold State.targetDistance; rw [← hD]
      rw [hahead]
      unfold targetTerm
      cases hp : w.phase <;> simp [target, hp] <;> rfl
    have hplay : e.sidesInPlay = inPlay := by unfold State.sidesInPlay; rw [hwork.inputs]
    have hterms : e.speedTerms w = terms := by
      unfold State.speedTerms
      obtain ⟨hlock, hrecovery⟩ := e.caps_toList
      rw [hmode, hlimit, htarget, hplay, funext hzone, hlock, hrecovery, hplay, hwork.mode]
      have hunlocked : (inPlay.any fun d => !(e.depth.get d).sampledLock.referenced) = unlocked := by simp only [unlocked, hD]
      have hdegrade : (e.degradeCap p).toList = match e.env.degrade with
          | some g => [max s.winder.degradedCap (g.v0 - p.aRet * (g.elapsed : Int) / 1000)]
          | none => [] := by
        unfold State.degradeCap
        rw [hwork.winder]
        cases e.env.degrade <;> rfl
      rw [hunlocked]
      exact congrArg (fun z => _ ++ z ++ _) hdegrade
    rw [(hsome h).1, hopen w hw, ← hterms]
    exact e.windEnvelope_least w

end Sys2Proof.Machine
end


section
/-! The tracks of the sides at a drum sample: how each part of the lock's work leaves its own side, and the depths and
limits of the sample (R62, R63, R103, R104). -/

namespace Sys2Proof.Machine

/-! ## A side's own track after a change (R67, R72, R73) -/

/-- A watch of everything but one side's own track, the advisories and the counts. -/
def besidesTrack (d : Side) : Watch := { fullWatch with track := (· ≠ d) }

/-- The track of a side at its entry to LOST (R73). -/
def Track.lostNow (t : Track) : Track := { t with lock := .lost, next := none, lastDir := none, rejects := 0 }

/-- The track of a side after a rejection in LOCKED or SUSPECT (R72). -/
def Track.rejected (t : Track) : Track :=
  if t.lock = .suspect ∧ 3 ≤ t.rejects + 1 then t.lostNow else { t with lock := .suspect, rejects := t.rejects + 1 }

/-- The track of a side that enters SEARCHING (R67). -/
def Track.searchingNow (t : Track) : Track := { t with lock := .searching, travelled := 0 }

section
variable (s : State) (d : Side)

theorem State.setTrack_own (t : Track) : (s.setTrack d t).depth.get d = t := PerSide.get_set_self _ _ _

theorem State.changeTrack_own (t : Track) (marker : Option Nat) : (s.changeTrack d t marker).depth.get d = t := by
  unfold State.changeTrack
  dsimp only
  split
  next => exact s.setTrack_own d t
  next => rw [State.report_depth]; exact s.setTrack_own d t

theorem State.raiseCause_track (c : Cause) (h : c.kind ≠ .advisory) : (s.raiseCause c).depth.get d = s.depth.get d :=
  (keeps_raiseCause (k := fullWatch) s c h).track d trivial

theorem State.enterLost_own (marker : Option Nat) : (s.enterLost d marker).depth.get d = (s.depth.get d).lostNow := by
  unfold State.enterLost
  rw [State.raiseCause_track _ _ (.positionLost d) (nomatch ·), State.changeTrack_own]
  rfl

theorem State.enterSearching_own : (s.enterSearching d).depth.get d = (s.depth.get d).searchingNow :=
  s.changeTrack_own d _ _

theorem State.countReject_own (marker : Option Nat) : (s.countReject d marker).depth.get d = (s.depth.get d).rejected := by
  unfold State.countReject Track.rejected
  dsimp only
  split
  next => exact s.enterLost_own d marker
  next => exact s.changeTrack_own d _ marker

/-- An entry to LOST latches stage 1 with POSITION LOST (R73). -/
theorem State.enterLost_raises (marker : Option Nat) :
    12 ∈ (s.enterLost d marker).trip.causes ∧ (s.enterLost d marker).latched .s1 = true := by
  unfold State.enterLost
  obtain ⟨hcause, hlatch⟩ := State.raiseCause_raised (s.changeTrack d _ marker) (.positionLost d)
  exact ⟨hcause, hlatch .s1 rfl⟩

theorem State.countReject_raises (marker : Option Nat) (h : (s.depth.get d).lock = .suspect ∧ 3 ≤ (s.depth.get d).rejects + 1) :
    12 ∈ (s.countReject d marker).trip.causes ∧ (s.countReject d marker).latched .s1 = true := by
  unfold State.countReject
  rw [if_pos h]
  exact s.enterLost_raises d marker

/-! ## The parts of the lock's work at a drum sample -/

/-- The track that the lock's own motion leaves (R67, R74). -/
def State.motioned : Track :=
  if (s.drums.drum.get d).state = .lost ∧ (s.depth.get d).lock ≠ .lost then (s.depth.get d).lostNow
  else if s.stationary d = false ∧
      ((s.depth.get d).lock = .unreferenced ∨ (s.depth.get d).lock = .lost ∧ s.latched .s1 = false) then
    (s.depth.get d).searchingNow
  else s.depth.get d

theorem State.lockOnMotion_own : (s.lockOnMotion d).depth.get d = s.motioned d := by
  unfold State.lockOnMotion State.motioned
  dsimp only
  split
  next => exact s.enterLost_own d none
  next =>
    cases hstill : s.stationary d with
    | true => simp
    | false =>
      by_cases hun : (s.depth.get d).lock = .unreferenced
      · simp [hun, s.enterSearching_own d]
      · by_cases hlost : (s.depth.get d).lock = .lost ∧ s.latched .s1 = false
        · simp [hlost, s.enterSearching_own d]
        · rw [if_neg (by decide), if_neg hun, if_neg (by simpa using hlost), if_neg (by simp [hun]; simpa using hlost)]

/-- The direction of a side after a sample (R75). -/
def State.dirNow : Option Dir := if s.stationary d then (s.depth.get d).lastDir else some (dirOfSpeed (s.speed d))

/-- The expected marker of a side after its direction has followed (R75). -/
def State.nextNow : Option Nat :=
  if s.dirNow d ≠ (s.depth.get d).lastDir ∧ (s.depth.get d).lock.referenced = true then
    (s.dirNow d).bind fun r => s.expectBeyond d r (s.depth.get d).D
  else (s.depth.get d).next

theorem State.followDirection_own : (s.followDirection d).depth.get d =
    { s.depth.get d with lastDir := s.dirNow d, next := s.nextNow d } := by
  unfold State.followDirection State.nextNow State.dirNow
  cases hstill : s.stationary d with
  | true => simp
  | false =>
    by_cases hdir : (s.depth.get d).lastDir = some (dirOfSpeed (s.speed d))
    · simp [hdir]
      rw [← hdir]
    · simp [hdir, Ne.symm hdir]

end

/-- The judgement of misses moves nothing of a track but the lock, its count and what is expected (R76). -/
theorem State.judgeMisses_own (d : Side) (n : Nat) (s : State) : (s.judgeMisses d n).depth.get d = { s.depth.get d with
    lock := ((s.judgeMisses d n).depth.get d).lock, rejects := ((s.judgeMisses d n).depth.get d).rejects
    next := ((s.judgeMisses d n).depth.get d).next, lastDir := ((s.judgeMisses d n).depth.get d).lastDir } := by
  induction n generalizing s with
  | zero => rfl
  | succ n ih =>
    unfold State.judgeMisses
    dsimp only
    split
    next =>
      split
      next =>
        rw [ih, State.countReject_own, State.countSide_depth, State.setTrack_own]
        unfold Track.rejected
        split <;> rfl
      next => rfl
    next => rfl

/-- The search distance after a sample, with a distance already travelled (R77). -/
def State.far (s : State) (d : Side) : Int :=
  (s.depth.get d).travelled + mag ((s.drums.drum.get d).payoutMm - (s.depth.get d).lastPayout)

theorem State.search_own (s : State) (d : Side) : (s.search d).depth.get d =
    if (s.depth.get d).lock = .searching ∨ (s.depth.get d).lock = .aligning then { s.depth.get d with
      travelled := s.far d % s.sup.searchDistance
      searches := ((s.depth.get d).searches + (s.far d / s.sup.searchDistance).toNat) % 64
      lastPayout := (s.drums.drum.get d).payoutMm
      searchFlag := (s.depth.get d).searchFlag || decide (0 < s.far d / s.sup.searchDistance) }
    else { s.depth.get d with lastPayout := (s.drums.drum.get d).payoutMm } := by
  have hset (x : State) (c : Cause) : (x.setAdvisory c).depth = x.depth := by rw [State.setAdvisory_eq]
  unfold State.search
  dsimp only
  split
  next =>
    by_cases hlap : 0 < s.far d / s.sup.searchDistance
    · cases hflag : (s.depth.get d).searchFlag with
      | true => simp [State.far]
      | false =>
        rw [if_pos ⟨hlap, rfl⟩, hset, State.setTrack_own, decide_eq_true hlap]
        rfl
    · rw [if_neg fun hand => hlap hand.1, State.setTrack_own, decide_eq_false hlap, Bool.or_false]
      rfl
  next => exact s.setTrack_own d _

/-! ## The depths that a sample forms (R62, R63) -/

/-- What the depth tracker hands on of a track. -/
def Track.formed (t : Track) : Int × Int × Int × Lock := (t.D0, t.D, t.u, t.sampledLock)

theorem State.sampleLock_formed (s : State) (d : Side) : ((s.sampleLock d).depth.get d).formed = (s.depth.get d).formed := by
  have hmotion : (s.motioned d).formed = (s.depth.get d).formed := by
    unfold State.motioned
    split
    · rfl
    · split <;> rfl
  unfold State.sampleLock
  rw [State.search_own]
  have hmisses := (((s.lockOnMotion d).followDirection d).judgeMisses_own d ((s.markersOf d).length + 1))
  rw [State.followDirection_own, State.lockOnMotion_own] at hmisses
  rw [← hmotion]
  dsimp only
  split <;> exact (congrArg Track.formed hmisses).trans rfl

/-- The track of a side once its depth is formed, over the drums of the sample. -/
def State.depthFormed (s : State) (d : Side) : Track := { s.depth.get d with
  D0 := if s.hasTable then (s.sideData d).hangOff + s.payout d + (s.depth.get d).K else 0
  D := if s.hasTable then (s.sideData d).hangOff + s.payout d + (s.depth.get d).K + (s.rope.side.get d).stretch else 0
  u := s.uncertainty (s.depth.get d).lock
  sampledLock := (s.depth.get d).lock }

theorem State.formDepth_own (s : State) (d : Side) : (s.formDepth d).depth.get d = s.depthFormed d := by
  unfold State.formDepth
  rw [State.setTrack_own]
  unfold State.depthFormed State.payout
  split <;> rfl

end Sys2Proof.Machine
end


section
/-! The depths, limits and overtravel of a drum sample (R62, R63, R103, R104). -/

namespace Sys2Proof.Machine

/-! ## One side's lock work within a drum sample -/

/-- A watch of one side's track and counts, with the drums, ropes and the envelope; of the advisories the other side's
REFERENCE SEARCH stays out. -/
def sideWatch (d : Side) : Watch :=
  { fullWatch with track := (· = d), entry := (· ≠ .referenceSearch d.other), count := fun n => n.get d }

theorem Side.other_ne (d : Side) : d.other ≠ d := by cases d <;> decide
theorem Side.ne_other (d : Side) : d ≠ d.other := by cases d <;> decide

theorem sideWatch_ignores (d : Side) (f : SideCounts → SideCounts) : (sideWatch d).Ignores d.other f :=
  fun _ => PerSide.get_set_ne _ _ _ _ (Side.ne_other d)

/-- The work of the depth tracker from the drums' sample `s` on, seen from one side: its depth is formed, then its lock
works, and nothing else of the block moves its track and its counts. -/
theorem State.sampleDepth_split (s : State) (d : Side) : ∃ x, Work s x ∧
    Keeps { sideWatch d with track := fun _ => False } s x ∧ x.depth.get d = s.depthFormed d ∧
      Keeps (sideWatch d) (x.sampleLock d) s.sampleDepth := by
  have hforms {k : Watch} (h : ∀ e, ¬k.track e) : Keeps k s ((s.formDepth .one).formDepth .two) :=
    (keeps_formDepth s .one (h _)).trans (keeps_formDepth _ .two (h _))
  have hwork : Work s ((s.formDepth .one).formDepth .two) := (work_formDepth s .one).trans (work_formDepth _ .two)
  cases d with
  | one =>
    refine ⟨_, hwork, hforms fun _ => id, ?_, keeps_sampleLock _ .two (nomatch ·) (fun h => h rfl) (sideWatch_ignores .one addMissed)⟩
    exact s.formDepth_own .one
  | two =>
    refine ⟨_, hwork.trans (work_sampleLock _ .one), (hforms fun _ => id).trans
      (keeps_sampleLock _ .one id (fun h => h rfl) (sideWatch_ignores .two addMissed)), ?_, .rfl⟩
    have hkeeps := keeps_sampleLock (k := { Watch.nothing with track := (· = .two) }) ((s.formDepth .one).formDepth .two) .one
      (nomatch ·) id fun _ => rfl
    exact (hkeeps.track .two rfl).trans ((s.formDepth .one).formDepth_own .two)

/-- What the depth tracker hands on of a side's track, over the drums of the sample. -/
theorem State.sampleDepth_formed (s : State) (d : Side) :
    (s.sampleDepth.depth.get d).formed = (s.depthFormed d).formed := by
  obtain ⟨x, -, -, htrack, hafter⟩ := s.sampleDepth_split d
  rw [hafter.track d rfl, State.sampleLock_formed, htrack]

/-! ## Limits and overtravel of the envelope computer (R103, R104) -/

/-- A side that comes to lie beyond a limit raises LIMIT (R103). -/
theorem State.judgeLimit_raises {s : State} {d : Side}
    (hne : limitState (s.sideData d) (s.depth.get d).D ≠ s.env.limit.get d)
    (hout : limitState (s.sideData d) (s.depth.get d).D ≠ .inside) :
    4 ∈ (s.judgeLimit d).trip.causes ∧ ∀ j, (s.judgeLimit d).latched j = true := by
  obtain ⟨e, he⟩ : ∃ e, (limitState (s.sideData d) (s.depth.get d).D).beyond = some e := by
    cases h : limitState (s.sideData d) (s.depth.get d).D with
    | inside => exact absurd h hout
    | beyondTop => exact ⟨_, rfl⟩
    | beyondBottom => exact ⟨_, rfl⟩
  obtain ⟨x, hx⟩ : ∃ x, s.judgeLimit d = State.raiseCause x (.limit d e) := by
    unfold State.judgeLimit
    dsimp only
    rw [if_neg hne, he]
    exact ⟨_, rfl⟩
  obtain ⟨hcause, hlatch⟩ := x.raiseCause_raised (.limit d e)
  rw [hx]
  exact ⟨hcause, fun j => hlatch j (by cases j <;> rfl)⟩

/-- At a sample with a table a side whose limit state has changed and lies outside has raised LIMIT. -/
theorem State.sampleEnvelope_limit {s : State} (htable : s.hasTable = true) {d : Side}
    (hne : limitState (s.sideData d) (s.depth.get d).D ≠ s.env.limit.get d)
    (hout : limitState (s.sideData d) (s.depth.get d).D ≠ .inside) :
    4 ∈ s.sampleEnvelope.trip.causes ∧ ∀ j, s.sampleEnvelope.latched j = true := by
  have hspeed := keeps_judgeSpeed (k := { fullWatch with counters := False }) s.enveloped s.phase id
  have hwspeed : Work s (s.enveloped.judgeSpeed s.phase) := (work_setEnv s _).trans (work_judgeSpeed _ _)
  have hold : (s.enveloped.judgeSpeed s.phase).env.limit = s.env.limit := by
    rw [hspeed.env trivial]
    exact s.enveloped_env.2.2
  have hdepth (e : Side) : (s.enveloped.judgeSpeed s.phase).depth.get e = s.depth.get e := hspeed.track e trivial
  rw [State.sampleEnvelope_of_table htable]
  generalize s.enveloped.judgeSpeed s.phase = j at *
  have hone := keeps_judgeLimit (k := { fullWatch with env := False }) j .one id
  have htwo := keeps_judgeLimit (k := .nothing) (j.judgeLimit .one) .two id
  have hover := keeps_judgeOvertravel (k := .nothing) ((j.judgeLimit .one).judgeLimit .two) s.wind.current
  cases d with
  | one =>
    rw [← hdepth, ← hwspeed.sideData, ← hold] at hne
    rw [← hdepth, ← hwspeed.sideData] at hout
    obtain ⟨hcause, hlatch⟩ := State.judgeLimit_raises hne hout
    exact ⟨hover.causes (htwo.causes hcause), fun i => hover.latched (htwo.latched (hlatch i))⟩
  | two =>
    have hwone : Work s (j.judgeLimit .one) := hwspeed.trans (work_judgeLimit _ .one)
    have hlimit : (j.judgeLimit .one).env.limit.get .two = s.env.limit.get .two := by
      rw [State.judgeLimit_env, ← hold]
      rfl
    have hD : (j.judgeLimit .one).depth.get .two = s.depth.get .two := (hone.track .two trivial).trans (hdepth .two)
    rw [← hD, ← hwone.sideData, ← hlimit] at hne
    rw [← hD, ← hwone.sideData] at hout
    obtain ⟨hcause, hlatch⟩ := State.judgeLimit_raises hne hout
    exact ⟨hover.causes hcause, fun i => hover.latched (hlatch i)⟩

/-- A lead side past its station by more than the overtravel band has raised STATION OVERTRAVEL (R104). -/
theorem State.sampleEnvelope_overtravel {s : State} (htable : s.hasTable = true) {w : OpenWind} (hw : s.wind.current = some w)
    (hp : w.phase = .running ∨ w.phase = .creep) (hpast : s.targetDistance w < -s.winder.overtravel) :
    5 ∈ s.sampleEnvelope.trip.causes ∧ s.sampleEnvelope.latched .s1 = true ∧ s.sampleEnvelope.latched .s2 = true := by
  have henv := State.sampleEnvelope_env htable
  have hwork : Work s (((s.enveloped.judgeSpeed s.phase).judgeLimit .one).judgeLimit .two) :=
    (((work_setEnv s _).trans (work_judgeSpeed _ _)).trans (work_judgeLimit _ .one)).trans (work_judgeLimit _ .two)
  rw [State.sampleEnvelope_of_table htable] at henv ⊢
  generalize ((s.enveloped.judgeSpeed s.phase).judgeLimit .one).judgeLimit .two = x at *
  have hdT : x.env.dT = some (s.targetDistance w) := by
    have hkept := congrArg Envelope.dT ((keeps_judgeOvertravel (k := fullWatch) x s.wind.current).env trivial)
    rw [henv] at hkept
    refine hkept.symm.trans ?_
    unfold State.enveloped
    rw [hw]
    rfl
  have hraise : x.judgeOvertravel s.wind.current = x.raiseCause (.stationOvertravel w.lead) := by
    unfold State.judgeOvertravel
    rw [hw, hdT, hwork.winder]
    exact if_pos ⟨hp, hpast⟩
  rw [hraise]
  obtain ⟨hcause, hlatch⟩ := x.raiseCause_raised (.stationOvertravel w.lead)
  exact ⟨hcause, hlatch .s1 rfl, hlatch .s2 rfl⟩

/-! ## The depths of a drum sample -/

/-- What the drum unit leaves of a side for the depth tracker: its track, its rope record and the limit states. -/
theorem State.sampleDrums_side (s : State) (d : Side) : s.sampleDrums.depth.get d = s.depth.get d ∧
    s.sampleDrums.rope.side.get d = s.rope.side.get d ∧ s.sampleDrums.env.limit = s.env.limit := by
  have hkeeps := keeps_sampleDrums (k := { Watch.nothing with track := fun _ => True, rope := fun _ => True, env := True }) s
    (fun _ => id) id id (fun _ => id) fun _ _ => rfl
  exact ⟨hkeeps.track d trivial, hkeeps.rope d trivial, by rw [hkeeps.env trivial]⟩

/-- The wind controller's work at a sample. -/
theorem State.keeps_windToEnd (s : State) : Keeps .nothing s.atEnvelope.sampleEnvelope s.atProof :=
  keeps_sampleWind s.atEnvelope.sampleEnvelope id

/-- From the drums' measures on nothing moves a drum but its rest mark. -/
theorem State.keeps_fromDrums (s : State) : Keeps { fullWatch with track := fun _ => False, env := False, counters := False }
    s.sampleDrums s.atProof :=
  (keeps_sampleDepth _ (fun _ => id) (fun _ => id) fun _ _ => rfl).trans
    ((keeps_sampleEnvelope _ id id).trans (keeps_sampleWind _ id))

/-- The depths of a sample at its end, over its own payouts. -/
theorem SampleEnd.formed {s t : State} (h : SampleEnd s.atProof t) (d : Side) : (t.depth.get d).formed = (
    if s.hasTable then (s.sideData d).hangOff + (t.drums.drum.get d).payoutMm + (s.depth.get d).K else 0,
    if s.hasTable then (s.sideData d).hangOff + (t.drums.drum.get d).payoutMm + (s.depth.get d).K +
      (s.rope.side.get d).stretch else 0, s.uncertainty (s.depth.get d).lock, (s.depth.get d).lock) := by
  have hwork := work_sampleDrums s
  obtain ⟨htrack, hrope, -⟩ := s.sampleDrums_side d
  have hpay : (t.drums.drum.get d).payoutMm = s.sampleDrums.payout d := by
    rw [h.drums]
    exact s.keeps_fromDrums.toKeepsBase.payout trivial
  have hunc (l : Lock) : s.sampleDrums.uncertainty l = s.uncertainty l := by
    cases l <;> simp only [State.uncertainty, hwork.sup]
  have hform : t.depth.get d = s.atEnvelope.depth.get d := by rw [h.depth]; exact s.keeps_atProof.track d trivial
  rw [hform, hpay, ← hwork.sideData, ← hwork.hasTable, ← hunc, ← htrack, ← hrope]
  exact s.sampleDrums.sampleDepth_formed d

/-- The limit state of a side at the end of a sample. -/
theorem SampleEnd.limit {s t : State} (h : SampleEnd s.atProof t) (d : Side) : t.env.limit.get d =
    if s.hasTable then limitState (s.sideData d) (t.depth.get d).D else .inside := by
  have hwork : Work s s.atEnvelope := work_atEnvelope s
  have htrack : t.depth.get d = s.atEnvelope.depth.get d := by rw [h.depth]; exact s.keeps_atProof.track d trivial
  rw [htrack, ← hwork.sideData, ← hwork.hasTable, h.env]
  cases htable : s.atEnvelope.hasTable with
  | true =>
    obtain ⟨-, -, hlimit⟩ := State.atProof_env htable
    rw [hlimit]
    generalize s.atEnvelope = e
    cases d <;> rfl
  | false =>
    obtain ⟨-, -, hlimit⟩ := State.atProof_unevaluated htable
    rw [hlimit]
    cases d <;> rfl

/-- Settles O37: the depths as the tracker forms them, then the envelope computer's judgements of the two sides and of the
wind it finds. -/
theorem drumSamplesFormTheDepths : Obligations.DrumSamplesFormTheDepths := by
  refine fun s => State.answers_drumSample fun t ht => ⟨fun d => ?_, fun w hw htable hp hpast => ?_⟩
  · have hwork : Work s s.atEnvelope := work_atEnvelope s
    have htrack : t.depth.get d = s.atEnvelope.depth.get d := by rw [ht.depth]; exact s.keeps_atProof.track d trivial
    have hformed := ht.formed d
    obtain ⟨hD0, hrest⟩ := Prod.mk.inj hformed
    obtain ⟨hD, hrest⟩ := Prod.mk.inj hrest
    obtain ⟨hu, hlock⟩ := Prod.mk.inj hrest
    have hlimit : s.hasTable = true → t.env.limit.get d = limitState (s.sideData d) (t.depth.get d).D :=
      fun htable => (ht.limit d).trans (if_pos htable)
    have hinside (h : s.hasTable = false) : t.env.limit.get d = .inside := (ht.limit d).trans (if_neg (ne_true_of_eq_false h))
    refine ⟨hlock, ?_, fun hnone => ?_, fun a ha => ?_, fun hout hne => ?_⟩
    · rw [hu]
      cases (s.depth.get d).lock <;> rfl
    · have htable : s.hasTable = false := by unfold State.hasTable; rw [hnone]; rfl
      rw [htable] at hD0 hD
      exact ⟨hD0, hD, hinside htable⟩
    · have htable : s.hasTable = true := by unfold State.hasTable; rw [ha]; rfl
      have hdata : s.sideData d = a.eff.side.get d := by unfold State.sideData; rw [ha]
      rw [htable, if_pos rfl, hdata] at hD0 hD
      refine ⟨hD0, hD.trans (by rw [hD0]), ?_⟩
      rw [hlimit htable, hdata]
      rfl
    · cases htable : s.hasTable with
      | false => exact absurd (hinside htable) hout
      | true =>
        have hold : s.atEnvelope.env.limit = s.env.limit := by
          rw [(keeps_atEnvelope (k := { Watch.nothing with env := True }) s (fun _ => id) id id (fun _ => id) (fun _ => id)
            fun _ => ⟨fun _ => rfl, fun _ => rfl⟩).env trivial]
        rw [hlimit htable, htrack, ← hwork.sideData] at hout hne
        rw [← hold] at hne
        obtain ⟨hcause, hlatch⟩ := State.sampleEnvelope_limit (hwork.hasTable.trans htable) hne hout
        have hwind := s.keeps_windToEnd
        refine ⟨by rw [ht.causes]; exact hwind.causes hcause, ?_⟩
        rw [ht.latches]
        exact State.latches_of_latched fun j => hwind.latched (hlatch j)
  · have hwork : Work s s.atEnvelope := work_atEnvelope s
    have htrack : t.depth.get w.lead = s.atEnvelope.depth.get w.lead := by
      rw [ht.depth]; exact s.keeps_atProof.track _ trivial
    rw [htrack, ← hwork.winder] at hpast
    obtain ⟨hcause, hone, htwo⟩ := State.sampleEnvelope_overtravel (hwork.hasTable.trans htable) hw hp hpast
    have hwind := s.keeps_windToEnd
    rw [ht.causes, ht.latched]
    exact ⟨hwind.causes hcause, hwind.latched hone, hwind.latched htwo⟩

end Sys2Proof.Machine
end


section
/-! The vote of a drum at a drum sample (R23 to R25), and what work counts in the record of the open wind. -/

namespace Sys2Proof.Machine

/-! ## Counting in the open wind record (R127) -/

/-- A part of the counts of the open wind, over work that may close it. -/
structure Counted {α : Type} (part : PerSide SideCounts → α) (f : α → α) (s t : State) : Prop where
  closed : s.wind.current = none → t.wind.current = none
  counts : ∀ w v, s.wind.current = some w → t.wind.current = some v → part v.counts = f (part w.counts)

section
variable {α : Type} {part : PerSide SideCounts → α} {f g : α → α} {s t u : State}

theorem Counted.trans (h : Counted part f s t) (h' : Counted part g t u) : Counted part (g ∘ f) s u := by
  refine ⟨fun hs => h'.closed (h.closed hs), fun w v hw hv => ?_⟩
  cases ht : t.wind.current with
  | none => rw [h'.closed ht] at hv; contradiction
  | some x => rw [h'.counts x v ht hv, h.counts w x hw ht]; rfl

theorem KeepsBase.counted {k : Watch} (h : KeepsBase k s t) (hpart : ∀ n m, k.count n = k.count m → part n = part m) :
    Counted part id s t :=
  ⟨h.closed, fun w v hw hv => hpart _ _ (h.count w v hw hv)⟩

theorem counted_countSide (s : State) (d : Side) {h : SideCounts → SideCounts}
    (hf : ∀ n, part (n.set d (h (n.get d))) = f (part n)) : Counted part f s (s.countSide d h) := by
  unfold State.countSide
  split
  next hnone => exact ⟨id, fun w v hw _ => by rw [hnone] at hw; contradiction⟩
  next w hw =>
    refine ⟨fun hs => by rw [hs] at hw; contradiction, fun x v hx hv => ?_⟩
    cases hw.symm.trans hx
    cases hv
    exact hf _

/-- The record of a wind that runs on, over work that closes it only by a latch. -/
theorem Keeps.windRuns {k : Watch} (h : Keeps k s t) (hc : Counted part f s t) :
    s.WindRuns t fun w v => part v.counts = f (part w.counts) :=
  fun w hw => ⟨fun heq => Option.isSome_iff_ne_none.mpr (h.runs heq (by rw [hw]; nofun)), fun v hv => hc.counts w v hw hv⟩

end

/-! ## The vote (R24, R25) -/

/-- A drum's track of its disagreement after the vote of a sample. -/
def Drum.voted (x : Drum) (diverge agree : Int) : Drum :=
  if x.state = .dual then
    if diverge < mag x.delta then x.enter .diverged
    else if agree < mag x.delta then { x with agreeing := 0, disagree := true }
    else { x with
      agreeing := satSucc 50 x.agreeing, disagree := x.disagree && !decide (satSucc 50 x.agreeing = 50) }
  else x

/-- Whether a drum disagrees at a sample without diverging. -/
def Drum.disagrees (x : Drum) (diverge agree : Int) : Bool :=
  decide (x.state = .dual ∧ mag x.delta ≤ diverge ∧ agree < mag x.delta)

/-- The disagreeing samples of one side in the record. -/
def disagreementsOf (d : Side) (n : PerSide SideCounts) : Nat := (n.get d).disagreements

section
variable {s : State} {d : Side} {x : Drum} (hx : s.drums.drum.get d = x)
include hx

theorem State.voteDual_diverges (hdual : x.state = .dual) (h : s.sup.diverge < mag x.delta) : s.voteDual d =
    (s.setDrum d (x.enter .diverged)).announceDrum d x .diverged (decide (x.state = .dual) && s.inPlay d) s.playSpeed := by
  unfold State.voteDual
  dsimp only
  rw [hx, if_pos h, State.changeDrum_of_ne (by rw [hx, hdual]; decide), hx]

theorem State.voteDual_disagrees (h : mag x.delta ≤ s.sup.diverge) (h' : s.sup.agree < mag x.delta) : s.voteDual d =
    (if x.disagree then s.setDrum d { x with agreeing := 0, disagree := true }
      else (s.setDrum d { x with agreeing := 0, disagree := true }).setAdvisory (.encoderDisagreement d)).countSide d
        addDisagreement := by
  unfold State.voteDual
  dsimp only
  rw [hx, if_neg (by omega), if_pos h']
  rfl

theorem State.voteDual_agrees (h : mag x.delta ≤ s.sup.diverge) (h' : mag x.delta ≤ s.sup.agree) : s.voteDual d =
    if x.disagree = true ∧ satSucc 50 x.agreeing = 50 then
      (s.setDrum d { x with agreeing := satSucc 50 x.agreeing, disagree := false }).clearAdvisory (.encoderDisagreement d)
    else s.setDrum d { x with agreeing := satSucc 50 x.agreeing } := by
  unfold State.voteDual
  dsimp only
  rw [hx, if_neg (by omega), if_neg (by omega)]

end

/-- A watch of the drums and the marks, of one advisory and of the counts. -/
def voteWatch (d : Side) : Watch :=
  { Watch.nothing with drum := fun _ => True, hold := True, entry := (· = .encoderDisagreement d), count := fun n => n.get d }

/-- A drum that enters DIVERGED: its cause, the end of its advisory and its report (R25). -/
theorem State.announceDrum_diverged (s : State) (d : Side) (x : Drum) (b : Bool) (v : Int) :
    10 ∈ (s.announceDrum d x .diverged b v).trip.causes ∧ (s.announceDrum d x .diverged b v).latched .s1 = true ∧
      (s.announceDrum d x .diverged b v).Holds
        (s.stamped (.drum d x.state .diverged x.enc.a.failed x.enc.b.failed x.theta)) ∧
      (x.disagree = true → .encoderDisagreement d ∉ (s.announceDrum d x .diverged b v).trip.active ∧
        (s.announceDrum d x .diverged b v).Holds (s.stamped (.alarm (.encoderDisagreement d) false))) := by
  obtain ⟨y, hy⟩ : ∃ y, y = s.raiseCause (.encoderDivergence d) := ⟨_, rfl⟩
  obtain ⟨z, hz⟩ : ∃ z, z = if x.disagree then y.clearAdvisory (.encoderDisagreement d) else y := ⟨_, rfl⟩
  have hend : s.announceDrum d x .diverged b v =
      if b then (z.report (.drum d x.state .diverged x.enc.a.failed x.enc.b.failed x.theta)).startDegrade v
      else z.report (.drum d x.state .diverged x.enc.a.failed x.enc.b.failed x.theta) := by rw [hz, hy]; rfl
  have hworky : Work s y := hy ▸ work_raiseCause s _
  have hworkz : Work s z := hz ▸ hworky.trans (.onlyIf (work_clearAdvisory _ _))
  have hyz : Keeps .nothing y z := hz ▸ .onlyIf (keeps_clearAdvisory y _ rfl id)
  have hlast (r : ReportBody) : Keeps (voteWatch d) (z.report r) (if b then (z.report r).startDegrade v else z.report r) :=
    .onlyIf (keeps_startDegrade _ _ id)
  obtain ⟨hcause, hlatch⟩ := s.raiseCause_raised (.encoderDivergence d)
  rw [← hy] at hcause hlatch
  rw [hend]
  refine ⟨(hlast _).causes ((keeps_report (k := .nothing) z _).causes (hyz.causes hcause)),
    (hlast _).latched ((keeps_report (k := .nothing) z _).latched (hyz.latched (hlatch .s1 rfl))), ?_, fun hdis => ?_⟩
  · rw [← hworkz.stamped]
    exact (hlast _).holds _ (z.report_holds _).1
  · rw [if_pos hdis] at hz
    obtain ⟨hgone, hheld⟩ := y.clearAdvisory_clears (.encoderDisagreement d)
    rw [← hz, hworky.stamped] at hheld
    rw [← hz] at hgone
    refine ⟨fun hmem => hgone ?_, (hlast _).holds _ ((z.report_holds _).2 _ hheld)⟩
    have hmem := ((hlast _).entry _ rfl rfl).mp hmem
    rwa [State.report_trip] at hmem

/-- What the vote of a sample makes of a drum `x` in DUAL. -/
structure VoteOutcome (d : Side) (x : Drum) (s t : State) : Prop where
  own : t.drums.drum.get d = { x.voted s.sup.diverge s.sup.agree with
    restDue := (t.drums.drum.get d).restDue, sampledState := (t.drums.drum.get d).sampledState }
  diverges : x.state = .dual → s.sup.diverge < mag x.delta → 10 ∈ t.trip.causes ∧ t.latched .s1 = true ∧
    t.Holds (s.stamped (.drum d .dual .diverged x.enc.a.failed x.enc.b.failed x.theta))
  sets : x.disagree = false → (x.voted s.sup.diverge s.sup.agree).disagree = true →
    32 ∈ t.trip.causes ∧ .encoderDisagreement d ∈ t.trip.active ∧ t.Holds (s.stamped (.alarm (.encoderDisagreement d) true))
  clears : x.disagree = true → (x.voted s.sup.diverge s.sup.agree).disagree = false →
    .encoderDisagreement d ∉ t.trip.active ∧ t.Holds (s.stamped (.alarm (.encoderDisagreement d) false))
  counts : Counted (disagreementsOf d)
    (fun n => if x.disagrees s.sup.diverge s.sup.agree then satSucc Config.max16 n else n) s t

theorem State.voteDual_outcome {s : State} {d : Side} {x : Drum} (hx : s.drums.drum.get d = x) (hdual : x.state = .dual) :
    VoteOutcome d x s (s.voteDual d) := by
  have hset (y : Drum) : Counted (disagreementsOf d) id s (s.setDrum d y) :=
    (keeps_setDrum (k := { voteWatch d with drum := fun _ => False }) s d y id).counted fun _ _ h =>
      congrArg SideCounts.disagreements h
  by_cases hdiv : s.sup.diverge < mag x.delta
  · have hvoted : x.voted s.sup.diverge s.sup.agree = x.enter .diverged := by
      unfold Drum.voted; rw [if_pos hdual, if_pos hdiv]
    have hno : x.disagrees s.sup.diverge s.sup.agree = false := decide_eq_false fun hand => by omega
    have hkeeps := keeps_announceDrum (k := { voteWatch d with entry := fun _ => False }) (s.setDrum d (x.enter .diverged)) d x
      .diverged (decide (x.state = .dual) && s.inPlay d) s.playSpeed id id
    obtain ⟨hcause, hlatch, hheld, hcleared⟩ := (s.setDrum d (x.enter .diverged)).announceDrum_diverged d x
      (decide (x.state = .dual) && s.inPlay d) s.playSpeed
    rw [State.voteDual_diverges hx hdual hdiv]
    refine ⟨?_, fun _ _ => ⟨hcause, hlatch, hdual ▸ hheld⟩, fun _ h => ?_, fun h _ => hcleared h, ?_⟩
    · rw [hvoted, hkeeps.drum d trivial, State.setDrum_get]
    · rw [hvoted] at h
      exact nomatch (show false = true from h)
    · rw [hno]
      exact (hset _).trans (hkeeps.counted fun _ _ h => congrArg SideCounts.disagreements h)
  · by_cases hagree : s.sup.agree < mag x.delta
    · have hvoted : x.voted s.sup.diverge s.sup.agree = { x with agreeing := 0, disagree := true } := by
        unfold Drum.voted; rw [if_pos hdual, if_neg hdiv, if_pos hagree]
      have hyes : x.disagrees s.sup.diverge s.sup.agree = true := decide_eq_true ⟨hdual, by omega, hagree⟩
      have hcount (y : State) : Counted (disagreementsOf d) (satSucc Config.max16) y (y.countSide d addDisagreement) :=
        counted_countSide y d fun n => by unfold disagreementsOf; rw [PerSide.get_set_self]; rfl
      rw [State.voteDual_disagrees hx (by omega) hagree]
      have hdrums (y : State) (c : Cause) : (y.setAdvisory c).drums = y.drums := by rw [State.setAdvisory_eq]
      refine ⟨?_, fun _ h => absurd h hdiv, fun hdis _ => ?_, fun _ h => ?_, ?_⟩
      · rw [hvoted, State.countSide_drums]
        split
        · rw [State.setDrum_get]
        · rw [hdrums, State.setDrum_get]
      · obtain ⟨hcause, hentry, -, hlink⟩ := (s.setDrum d { x with agreeing := 0, disagree := true }).setAdvisory_sets
          (.encoderDisagreement d) rfl
        rw [hdis, if_neg nofun, State.countSide_trip]
        refine ⟨hcause, hentry, State.holds_congr ?_ _ (s.report_holds _).1⟩
        rw [State.countSide_link, hlink, State.report_link]
        rfl
      · rw [hvoted] at h
        exact nomatch (show true = false from h)
      · rw [hyes]
        refine (hset { x with agreeing := 0, disagree := true }).trans (g := satSucc Config.max16) (.trans (f := id) ?_ (hcount _))
        split
        · exact (KeepsBase.rfl (k := voteWatch d)).counted fun _ _ h => congrArg SideCounts.disagreements h
        · exact (keeps_setAdvisory (k := { voteWatch d with entry := fun _ => False }) _ _ id).counted
            fun _ _ h => congrArg SideCounts.disagreements h
    · have hvoted : x.voted s.sup.diverge s.sup.agree = { x with
          agreeing := satSucc 50 x.agreeing, disagree := x.disagree && !decide (satSucc 50 x.agreeing = 50) } := by
        unfold Drum.voted; rw [if_pos hdual, if_neg hdiv, if_neg hagree]
      have hno : x.disagrees s.sup.diverge s.sup.agree = false := decide_eq_false fun hand => hagree hand.2.2
      have hdrums (y : State) (c : Cause) : (y.clearAdvisory c).drums = y.drums := by rw [State.clearAdvisory_eq]
      rw [State.voteDual_agrees hx (by omega) (by omega)]
      refine ⟨?_, fun _ h => absurd h hdiv, fun hdis h => ?_, fun hdis h => ?_, ?_⟩
      · rw [hvoted]
        split
        next h => rw [hdrums, State.setDrum_get]; simp [h.1, h.2]
        next h =>
          rw [State.setDrum_get]
          cases hdis : x.disagree with
          | false => simp
          | true => simp [show satSucc 50 x.agreeing ≠ 50 from fun heq => h ⟨hdis, heq⟩]
      · rw [hvoted] at h
        simp [hdis] at h
      · rw [hvoted] at h
        obtain ⟨hgone, hheld⟩ := State.clearAdvisory_clears (s.setDrum d { x with
          agreeing := satSucc 50 x.agreeing, disagree := false }) (.encoderDisagreement d)
        rw [if_pos ⟨hdis, by simpa [hdis] using h⟩]
        exact ⟨hgone, hheld⟩
      · simp only [hno, Bool.false_eq_true, if_false]
        split
        · exact (hset _).trans ((keeps_clearAdvisory (k := { voteWatch d with entry := fun _ => False }) _
            (.encoderDisagreement d) rfl id).counted
            fun _ _ h => congrArg SideCounts.disagreements h)
        · exact hset _

/-- A drum that is not in DUAL is not voted. -/
theorem voteOutcome_of_unvoted {s : State} {d : Side} {x : Drum} (hx : s.drums.drum.get d = x) (h : x.state ≠ .dual) :
    VoteOutcome d x s s := by
  have hvoted : x.voted s.sup.diverge s.sup.agree = x := if_neg h
  refine ⟨by rw [hvoted, hx], fun hdual => absurd hdual h, fun hno hyes => ?_, fun hyes hno => ?_, ⟨id, fun w v hw hv => ?_⟩⟩
  · rw [hvoted, hno] at hyes; contradiction
  · rw [hvoted, hyes] at hno; contradiction
  · cases hw.symm.trans hv
    exact (if_neg (ne_true_of_eq_false (decide_eq_false fun hand => h hand.1))).symm

/-- The vote writes the angle before it and the state of the sample after it. -/
theorem VoteOutcome.of_setDrum {s z : State} {d : Side} {x y : Drum} (h : VoteOutcome d x (s.setDrum d y) z) (l : DrumState) :
    VoteOutcome d x s (z.setDrum d { z.drums.drum.get d with sampledState := l }) := by
  refine ⟨?_, h.diverges, h.sets, h.clears, ⟨h.counts.closed, h.counts.counts⟩⟩
  rw [State.setDrum_get, h.own]
  rfl

/-- A vote over the angle that the drum's state forms (R23). -/
theorem State.vote_outcome {s : State} {d : Side} {x : Drum} (hx : s.drums.drum.get d = x) :
    VoteOutcome d { x with theta := x.formTheta } s (s.vote d) := by
  have hangle : (s.setDrum d { x with theta := x.formTheta }).drums.drum.get d = { x with theta := x.formTheta } :=
    State.setDrum_get ..
  unfold State.vote
  dsimp only
  rw [hx]
  by_cases hdual : x.state = .dual
  · rw [if_pos hdual]
    exact (State.voteDual_outcome hangle hdual).of_setDrum _
  · rw [if_neg hdual]
    exact (voteOutcome_of_unvoted hangle hdual).of_setDrum _

/-! ## The measures of a sample (R29 to R32, R36) -/

/-- A drum measured at a payout (R29 to R32, R36). -/
def Drum.measured (x : Drum) (p : Int) (takeRest : Bool) : Drum := { x with
  payoutUm := p
  payoutMm := toMm p
  v := if x.state = .lost then 0 else speedOf (x.history.take 8) p x.v
  history := if x.state = .lost then [] else p :: x.history.take 8
  rest := if takeRest then toMm p else x.rest }

theorem Work.payoutOf {s t : State} (h : Work s t) (d : Side) (theta : Int) : t.payoutOf d theta = s.payoutOf d theta := by
  have hsegments : t.segments d = s.segments d := by unfold State.segments; rw [h.active]
  unfold State.payoutOf
  rw [h.hasTable, h.winder, hsegments]

theorem State.measure_own (s : State) (d : Side) (take : Bool) : (s.measure d take).drums.drum.get d =
    (s.drums.drum.get d).measured (s.payoutOf d (s.drums.drum.get d).theta) take := State.setDrum_get ..

/-- A watch of one drum's record with its advisory and its counts, the marks and the envelope's record. -/
def drumSide (d : Side) : Watch := { Watch.nothing with
  drum := (· = d), hold := True, entry := (· = .encoderDisagreement d), count := fun n => { n.get d with missed := 0 } }

/-- The two votes and the two measures of a sample, seen from one drum. -/
theorem State.sampleDrums_split (s : State) (d : Side) : ∃ a b, Work s a ∧ Keeps (drumSide d) s a ∧
    Work (a.vote d) b ∧ Keeps (drumSide d) (a.vote d) b ∧
    Keeps { drumSide d with drum := fun _ => False, hold := False } b s.sampleDrums ∧
    Keeps { drumSide d with hold := False } (b.measure d (s.drums.drum.get d).restDue) s.sampleDrums := by
  have hclear : Work s s.clearRestMarks := work_setDrums s _ (fun d => by cases d <;> exact ⟨rfl, rfl⟩) id
  have hlast {k : Watch} (h : ¬k.hold) (x : State) :
      Keeps k x (x.takeHold.setDrums { x.takeHold.drums with sampled := true }) :=
    (keeps_takeHold x h).trans (keeps_setSampled _ h)
  have hvote (x : State) (e : Side) (h : e ≠ d) : Keeps (drumSide d) x (x.vote e) := by
    refine keeps_vote x e h id (fun heq => h (Cause.encoderDisagreement.inj heq)) fun n => ?_
    show ({ (n.set e _).get d with missed := 0 } : SideCounts) = _
    rw [PerSide.get_set_ne _ _ _ _ h.symm]
    rfl
  have hmeasure (x : State) (e : Side) (take : Bool) (h : e ≠ d) :
      Keeps (drumSide d) x (x.measure e take) ∧ Keeps { drumSide d with hold := False } x (x.measure e take) :=
    ⟨keeps_measure x e take h, keeps_measure x e take h⟩
  have hown (x : State) (e : Side) (take : Bool) : Keeps { drumSide d with drum := fun _ => False, hold := False } x
      (x.measure e take) := keeps_measure x e take id
  cases d with
  | one =>
    refine ⟨s.clearRestMarks, (s.clearRestMarks.vote .one).vote .two, hclear, keeps_clearRestMarks s,
      work_vote _ .two, hvote _ .two (by decide), ?_, ?_⟩
    · exact ((hown _ .one _).trans (hown _ .two _)).trans (hlast id _)
    · exact (hmeasure _ .two _ (by decide)).2.trans (hlast id _)
  | two =>
    refine ⟨s.clearRestMarks.vote .one, ((s.clearRestMarks.vote .one).vote .two).measure .one s.drums.drum.one.restDue,
      hclear.trans (work_vote _ .one), (keeps_clearRestMarks s).trans (hvote _ .one (by decide)), work_measure _ .one _,
      (hmeasure _ .one _ (by decide)).1, ?_, ?_⟩
    · exact (hown _ .two _).trans (hlast id _)
    · exact hlast id _

end Sys2Proof.Machine
end


section
/-! The drum unit at a drum sample (R23 to R26, R28 to R32, R36, R38). -/

namespace Sys2Proof.Machine

theorem satSucc_eq_min (top n : Nat) : satSucc top n = min top (n + 1) := by
  unfold satSucc
  split <;> omega

/-- Work that keeps a watch keeps it without the drums and the marks. -/
theorem Keeps.without_drums {k : Watch} {s t : State} (h : Keeps k s t) :
    Keeps { k with drum := fun _ => False, hold := False } s t where
  toKeepsBase := { h.toKeepsBase with drum := fun _ hd => hd.elim, hold := fun hh => hh.elim }
  runs := h.runs
  trips := h.trips

theorem Work.sends {s a t : State} (h : Work s a) {b : ReportBody} (hs : a.Sends t b) : s.Sends t b := by
  unfold State.Sends at *
  rwa [← h.stamped]

theorem drumSide_part (d : Side) (n m : PerSide SideCounts) (h : (drumSide d).count n = (drumSide d).count m) :
    disagreementsOf d n = disagreementsOf d m := by
  have hpart := congrArg SideCounts.disagreements h
  exact hpart

/-- From a drum's vote to the end of the sample. -/
theorem keeps_fromVote (s : State) (d : Side) : Keeps (drumSide d) s.sampleDrums s.atProof := by
  refine (keeps_sampleDepth s.sampleDrums (fun _ => id) 
    (fun e (h : Cause.referenceSearch e = .encoderDisagreement d) => nomatch h) fun e n => ?_).trans
    ((keeps_sampleEnvelope _ id id).trans (keeps_sampleWind _ id))
  cases d <;> cases e <;> rfl

/-- What a vote keeps of a drum (R24, R25). -/
theorem Drum.voted_keeps (x : Drum) (diverge agree : Int) : (x.voted diverge agree).enc = x.enc ∧
    (x.voted diverge agree).theta = x.theta ∧ (x.voted diverge agree).v = x.v ∧
    (x.voted diverge agree).rest = x.rest ∧ (x.voted diverge agree).history = x.history ∧
    (x.voted diverge agree).state = if x.state = .dual ∧ diverge < mag x.delta then .diverged else x.state := by
  unfold Drum.voted
  by_cases hdual : x.state = .dual
  · by_cases hdiv : diverge < mag x.delta
    · simp [hdual, hdiv, Drum.enter, sameSource]
    · by_cases hagree : agree < mag x.delta <;> simp [hdual, hdiv, hagree]
  · simp [hdual]

/-- A drum after a sample: its vote over the angle that its state forms, and its measures at that angle. -/
def State.drumSampled (s : State) (d : Side) (x : Drum) : Drum :=
  let v := ({ x with theta := x.formTheta } : Drum).voted s.sup.diverge s.sup.agree
  v.measured (s.payoutOf d v.theta) x.restDue

/-- A drum with other marks: the rest payout to be taken, and the state of the sample. -/
def Drum.remarked (x : Drum) (r : Bool) (l : DrumState) : Drum := { x with restDue := r, sampledState := l }

/-- Neither the vote nor the measures read the marks. -/
theorem Drum.voted_remarked (x : Drum) (r : Bool) (l : DrumState) (diverge agree : Int) :
    (x.remarked r l).voted diverge agree = (x.voted diverge agree).remarked r l := by
  show (if x.state = .dual then if diverge < mag x.delta then (x.enter .diverged).remarked r l
    else if agree < mag x.delta then ({ x with agreeing := 0, disagree := true } : Drum).remarked r l
    else ({ x with agreeing := satSucc 50 x.agreeing, disagree := x.disagree && !decide (satSucc 50 x.agreeing = 50) } :
      Drum).remarked r l else x.remarked r l) = _
  unfold Drum.voted
  (repeat' split) <;> rfl

theorem State.drumSampled_own {s b : State} {d : Side} {x y z : Drum} {r q : Bool} {l : DrumState} (hwork : Work s b)
    (hy : y = (({ x with theta := x.formTheta } : Drum).remarked r x.sampledState |>.voted s.sup.diverge s.sup.agree).remarked
      q l) (hz : z = (y.measured (b.payoutOf d y.theta) x.restDue).remarked z.restDue l) :
    z = (s.drumSampled d x).remarked z.restDue l := by
  rw [hwork.payoutOf] at hz
  rw [Drum.voted_remarked] at hy
  rw [hz, hy]
  rfl

/-- What a drum sample makes of one drum and of what its vote hands on. -/
structure DrumOutcome (s t : State) (d : Side) (x : Drum) : Prop where
  own : ∃ r l, t.drums.drum.get d = (s.drumSampled d x).remarked r l
  diverges : x.state = .dual → s.sup.diverge < mag x.delta → 10 ∈ t.trip.causes ∧ t.latched .s1 = true ∧
    s.Sends t (.drum d .dual .diverged x.enc.a.failed x.enc.b.failed x.formTheta)
  sets : x.disagree = false → (s.drumSampled d x).disagree = true →
    32 ∈ t.trip.causes ∧ .encoderDisagreement d ∈ t.trip.active ∧ s.Sends t (.alarm (.encoderDisagreement d) true)
  clears : x.disagree = true → (s.drumSampled d x).disagree = false →
    .encoderDisagreement d ∉ t.trip.active ∧ s.Sends t (.alarm (.encoderDisagreement d) false)
  counts : s.WindRuns t fun w v => (v.counts.get d).disagreements =
    if x.disagrees s.sup.diverge s.sup.agree then satSucc Config.max16 (w.counts.get d).disagreements
    else (w.counts.get d).disagreements

theorem SampleEnd.windRuns {s u t : State} (h : SampleEnd u t) {P : OpenWind → OpenWind → Prop} (hu : s.WindRuns u P) :
    s.WindRuns t P := by
  unfold State.WindRuns
  rw [h.latches, h.wind]
  exact hu

theorem State.drumOutcome {s t : State} (ht : SampleEnd s.atProof t) (d : Side) :
    DrumOutcome s t d (s.drums.drum.get d) := by
  obtain ⟨a, b, hworka, hbefore, hworkb, hafter, hlast, hmeasured⟩ := s.sampleDrums_split d
  obtain ⟨x, hx⟩ : ∃ x, x = s.drums.drum.get d := ⟨_, rfl⟩
  have ha : a.drums.drum.get d = { x with restDue := (a.drums.drum.get d).restDue } := by
    rw [hx]; exact hbefore.drum d rfl
  obtain ⟨hown, hdiverges, hsets, hclears, hcounts⟩ := State.vote_outcome ha
  have hfrom := keeps_fromVote s d
  have hrest : Keeps { drumSide d with drum := fun _ => False, hold := False } (a.vote d) s.atProof :=
    (hafter.without_drums.trans hlast).trans hfrom.without_drums
  have hsup := hworka.sup
  rw [hsup] at hown hsets hclears hcounts hdiverges
  rw [← hx] at hmeasured ⊢
  have hvisible : (.encoderDisagreement d ∈ t.trip.active ↔ .encoderDisagreement d ∈ (a.vote d).trip.active) :=
    (ht.entry _ rfl).trans (hrest.entry _ rfl rfl)
  have hsends {r : ReportBody} (h : (a.vote d).Holds (a.stamped r)) : s.Sends t r :=
    hworka.sends (ht.sends a r (hrest.holds _ h))
  have hz : t.drums.drum.get d = ((b.drums.drum.get d).measured (b.payoutOf d (b.drums.drum.get d).theta) x.restDue).remarked
      (t.drums.drum.get d).restDue (b.drums.drum.get d).sampledState := by
    rw [ht.drums, hfrom.drum d rfl, hmeasured.drum d rfl, State.measure_own]
    rfl
  have hy : b.drums.drum.get d = ((({ x with theta := x.formTheta } : Drum).remarked (a.drums.drum.get d).restDue
      x.sampledState).voted s.sup.diverge s.sup.agree).remarked (b.drums.drum.get d).restDue
        ((a.vote d).drums.drum.get d).sampledState := by
    rw [hafter.drum d rfl, hown]
    rfl
  have hl : (b.drums.drum.get d).sampledState = ((a.vote d).drums.drum.get d).sampledState := by rw [hafter.drum d rfl]
  rw [hl] at hz
  have hdisagree : (({ x with theta := x.formTheta } : Drum).remarked (a.drums.drum.get d).restDue x.sampledState
      |>.voted s.sup.diverge s.sup.agree).disagree = (s.drumSampled d x).disagree := by rw [Drum.voted_remarked]; rfl
  have hcounted := (hbefore.counted (drumSide_part d)).trans (hcounts.trans (hrest.counted (drumSide_part d)))
  have hwhole : Keeps .nothing s s.atProof := (keeps_sampleDrums s (fun _ => id) id id (fun _ => id) fun _ _ => rfl).trans
    ((keeps_sampleDepth _ (fun _ => id) (fun _ => id) fun _ _ => rfl).trans
      ((keeps_sampleEnvelope _ id id).trans (keeps_sampleWind _ id)))
  refine ⟨⟨_, _, State.drumSampled_own (hworka.trans ((work_vote a d).trans hworkb)) hy hz⟩, fun hdual hdiv => ?_,
    fun hno hyes => ?_, fun hyes hno => ?_, ht.windRuns (hwhole.windRuns hcounted)⟩
  · obtain ⟨hcause, hlatch, hheld⟩ := hdiverges hdual hdiv
    rw [ht.causes, ht.latched]
    exact ⟨hrest.causes hcause, hrest.latched hlatch, hsends hheld⟩
  · obtain ⟨hcause, hentry, hheld⟩ := hsets hno (hdisagree.trans hyes)
    rw [ht.causes]
    exact ⟨hrest.causes hcause, hvisible.mpr hentry, hsends hheld⟩
  · obtain ⟨hentry, hheld⟩ := hclears hyes (hdisagree.trans hno)
    exact ⟨fun hmem => hentry (hvisible.mp hmem), hsends hheld⟩

/-- The marks of the drum unit after a sample (R38). -/
theorem SampleEnd.marks {s t : State} (ht : SampleEnd s.atProof t) : t.drums.sampled = true ∧
    t.drums.hold = if s.drums.holdDue then some t.drums.drum.two.payoutMm else s.drums.hold := by
  have hfrom := s.keeps_fromDrums
  obtain ⟨x, hkeeps, hx⟩ : ∃ x, Keeps { Watch.nothing with hold := True } s x ∧
      s.sampleDrums = x.takeHold.setDrums { x.takeHold.drums with sampled := true } := by
    refine ⟨_, ?_, rfl⟩
    exact ((((keeps_clearRestMarks s).trans (keeps_vote _ .one id id id fun _ => rfl)).trans
      (keeps_vote _ .two id id id fun _ => rfl)).trans (keeps_measure _ .one _ id)).trans (keeps_measure _ .two _ id)
  obtain ⟨hhold, hdue, -⟩ := hkeeps.hold trivial
  generalize s.atProof = u at *
  generalize s.sampleDrums = y at *
  have hpay : t.drums.drum.two.payoutMm = y.drums.drum.two.payoutMm := by
    rw [ht.drums]
    exact hfrom.toKeepsBase.payout (d := .two) trivial
  obtain ⟨hholdEnd, -, hsampled⟩ := hfrom.hold trivial
  rw [hpay, ht.drums, hsampled, hholdEnd, hx, ← hhold, ← hdue]
  unfold State.takeHold
  refine ⟨rfl, ?_⟩
  split <;> rfl

/-- Settles O36: each drum by its own vote and its own measures. -/
theorem drumSamplesMeasureBothDrums : Obligations.DrumSamplesMeasureBothDrums := by
  refine fun s => State.answers_drumSample fun t ht => ⟨ht.marks.1, ht.marks.2, fun d => ?_⟩
  obtain ⟨⟨r, l, hown⟩, hdiverges, hsets, hclears, hcounts⟩ := State.drumOutcome ht d
  intro x y gap
  have hy : y = (s.drumSampled d x).remarked r l := hown
  clear_value y
  subst hy
  obtain ⟨henc, htheta, hv, hrest, hhistory, hstate⟩ :=
    ({ x with theta := x.formTheta } : Drum).voted_keeps s.sup.diverge s.sup.agree
  obtain ⟨v, hvoted⟩ : ∃ v, v = ({ x with theta := x.formTheta } : Drum).voted s.sup.diverge s.sup.agree := ⟨_, rfl⟩
  have hsampled : s.drumSampled d x = v.measured (s.payoutOf d v.theta) x.restDue := by rw [hvoted]; rfl
  rw [← hvoted] at henc htheta hv hrest hhistory hstate
  have hgap : mag ({ x with theta := x.formTheta } : Drum).delta = gap := rfl
  rw [hgap] at hstate
  have hlost : v.state = .lost ↔ x.state = .lost := by
    rw [hstate]
    split
    next h => exact ⟨nofun, fun hl => nomatch hl.symm.trans h.1⟩
    next => exact Iff.rfl
  have hdisagrees : x.disagrees s.sup.diverge s.sup.agree =
      decide (x.state = .dual ∧ gap ≤ s.sup.diverge ∧ s.sup.agree < gap) := rfl
  rw [hsampled] at hsets hclears ⊢
  refine ⟨?_, ?_, henc, rfl, rfl, fun hl => ⟨if_pos (hlost.mpr hl), if_pos (hlost.mpr hl)⟩, fun hl => ⟨?_, ?_⟩, ?_,
    fun hdual hdiv => ?_, hsets, hclears, ?_, fun hdual hle hlt => ?_, fun hdual hle hle' hcount => ?_⟩
  · refine htheta.trans ?_
    show x.formTheta = _
    unfold Drum.formTheta meanCount
    cases x.state <;> rfl
  · exact hstate
  · refine (if_neg (mt hlost.mp hl)).trans ?_
    rw [hhistory]
    rfl
  · refine (if_neg (mt hlost.mp hl)).trans ?_
    rw [hhistory, hv]
    rfl
  · show (if x.restDue then _ else v.rest) = _
    rw [hrest]
    rfl
  · obtain ⟨hcause, hlatch, hsent⟩ := hdiverges hdual hdiv
    have henter : v = ({ x with theta := x.formTheta } : Drum).enter .diverged := by
      rw [hvoted, Drum.voted]
      exact (if_pos hdual).trans (if_pos hdiv)
    refine ⟨by rw [henter]; rfl, by rw [henter]; rfl, hcause, hlatch, ?_⟩
    show s.Sends t (.drum d .dual .diverged x.enc.a.failed x.enc.b.failed v.theta)
    rw [htheta]
    exact hsent
  · intro w hw
    obtain ⟨hopen, hcount⟩ := hcounts w hw
    refine ⟨hopen, fun u hu => (hcount u hu).trans ?_⟩
    rw [satSucc_eq_min, hdisagrees]
    exact ite_congr (by rw [decide_eq_true_iff]) (fun _ => rfl) fun _ => rfl
  · have hstays : v = { ({ x with theta := x.formTheta } : Drum) with agreeing := 0, disagree := true } := by
      rw [hvoted, Drum.voted]
      exact (if_pos hdual).trans ((if_neg (by omega)).trans (if_pos hlt))
    exact ⟨by rw [hstays]; rfl, by rw [hstays]; rfl⟩
  · have hagrees : v = { ({ x with theta := x.formTheta } : Drum) with
        agreeing := satSucc 50 x.agreeing, disagree := x.disagree && !decide (satSucc 50 x.agreeing = 50) } := by
      rw [hvoted, Drum.voted]
      exact (if_pos hdual).trans ((if_neg (by omega)).trans (if_neg (by omega)))
    have hbound : (!decide (satSucc 50 x.agreeing = 50)) = decide (x.agreeing + 1 < 50) := by
      rw [satSucc_eq_min, Bool.eq_iff_iff, Bool.not_eq_true', decide_eq_false_iff_not, decide_eq_true_iff]
      omega
    refine ⟨?_, ?_⟩
    · rw [hagrees, ← satSucc_eq_min]
      rfl
    · rw [hagrees, ← hbound]
      rfl

end Sys2Proof.Machine
end


section
/-! What a drum sample watches beside the wind (R123, R124, R126). -/

namespace Sys2Proof.Machine

/-! ## The flags and the recovery over a raise -/

/-- The flags, the recovery and the rest marks stand, and the wind is open where it was, not back in ACCEPTED. -/
structure Stays (s t : State) : Prop where
  unintended : t.wind.unintended = s.wind.unintended
  creepFlag : t.wind.creepFlag = s.wind.creepFlag
  recovery : t.wind.recovery = s.wind.recovery
  opened : t.wind.current = none ↔ s.wind.current = none
  accepted : t.phase = some .accepted → s.phase = some .accepted
  inside : t.offendersInside = s.offendersInside
  rest : ∀ d, (t.drums.drum.get d).restDue = (s.drums.drum.get d).restDue

/-- An ACCEPTED wind has closed: the unintended motion flags are clear, the rest payouts marked, and recovery may have
ended (R117, R126). -/
structure Shuts (s t : State) : Prop where
  accepted : s.phase = some .accepted
  closed : t.wind.current = none
  unintended : t.wind.unintended = ⟨false, false⟩
  creepFlag : t.wind.creepFlag = s.wind.creepFlag
  recovery : t.wind.recovery = s.wind.recovery ∨
    t.wind.recovery = none ∧ ∃ r, s.wind.recovery = some r ∧ s.offendersInside r = true
  inside : t.offendersInside = s.offendersInside
  rest : ∀ d, (t.drums.drum.get d).restDue = true

section
variable {s t u : State}

theorem Stays.rfl : Stays s s := ⟨.refl _, .refl _, .refl _, .rfl, id, .refl _, fun _ => .refl _⟩

theorem Stays.trans (h : Stays s t) (g : Stays t u) : Stays s u :=
  ⟨g.unintended.trans h.unintended, g.creepFlag.trans h.creepFlag, g.recovery.trans h.recovery, g.opened.trans h.opened,
    fun hp => h.accepted (g.accepted hp), g.inside.trans h.inside, fun d => (g.rest d).trans (h.rest d)⟩

theorem Stays.shuts (h : Stays s t) (g : Shuts t u) : Shuts s u := by
  refine ⟨h.accepted g.accepted, g.closed, g.unintended, g.creepFlag.trans h.creepFlag, ?_, g.inside.trans h.inside, g.rest⟩
  rw [← h.recovery, ← h.inside]
  exact g.recovery

theorem Shuts.stays (h : Shuts s t) (g : Stays t u) : Shuts s u := by
  refine ⟨h.accepted, g.opened.mpr h.closed, g.unintended.trans h.unintended, g.creepFlag.trans h.creepFlag, ?_,
    g.inside.trans h.inside, fun d => (g.rest d).trans (h.rest d)⟩
  rw [g.recovery]
  exact h.recovery

/-- Blocks other than the wind controller and the drum unit. -/
theorem Stays.of_wind (wind : t.wind = s.wind) (drums : t.drums = s.drums) (active : t.table.active = s.table.active)
    (depth : t.depth = s.depth) : Stays s t := by
  refine ⟨by rw [wind], by rw [wind], by rw [wind], by rw [wind], fun h => ?_, State.offendersInside_congr active depth,
    fun _ => by rw [drums]⟩
  unfold State.phase at *
  rwa [wind] at h

theorem Shuts.phase_ne (h : Shuts s t) : t.phase ≠ some .accepted := by
  unfold State.phase
  rw [h.closed]
  nofun

end

theorem stays_setCurrent {s : State} {w : OpenWind} (hw : s.wind.current = some w) (v : OpenWind)
    (h : v.phase = .accepted → w.phase = .accepted) : Stays s (s.setCurrent v) := by
  refine ⟨rfl, rfl, rfl, ⟨nofun, fun hnone => by rw [hw] at hnone; contradiction⟩, fun hp => ?_, rfl, fun _ => rfl⟩
  unfold State.phase at *
  rw [hw]
  exact congrArg some (h (Option.some.inj hp))

theorem stays_report (s : State) (b : ReportBody) : Stays s (s.report b) := by
  refine .of_wind ?_ ?_ ?_ ?_ <;> simp

theorem stays_setEnv (s : State) (x : Envelope) : Stays s (s.setEnv x) := .of_wind rfl rfl rfl rfl

theorem stays_raiseRecord (s : State) (c : Cause) : Stays s (s.raiseRecord c) := by
  refine .of_wind ?_ ?_ ?_ ?_ <;> simp

theorem stays_enterStopping {s : State} {w : OpenWind} (hw : s.wind.current = some w) (v : OpenWind) (why : StopCause) :
    Stays s (s.enterStopping v why) := by
  rw [State.enterStopping_eq]
  refine ⟨rfl, rfl, rfl, ⟨nofun, fun hnone => by rw [hw] at hnone; contradiction⟩, fun hp => ?_, rfl, fun _ => rfl⟩
  exact nomatch (Option.some.inj hp : Phase.stopping = .accepted)

theorem shuts_closeWind {s : State} {w : OpenWind} (hw : s.wind.current = some w) (hacc : w.phase = .accepted)
    (o : WindOutcome) : Shuts s (s.closeWind o) := by
  obtain ⟨-, -, -, ⟨hwind, hdrums, -, -⟩, -, hframe⟩ := State.closeWind_closes hw o
  have hwork := work_closeWind s o
  refine ⟨?_, by rw [hwind], by rw [hwind], by rw [hwind], ?_, State.offendersInside_congr hwork.active (by rw [hframe]), fun d => ?_⟩
  · unfold State.phase
    rw [hw, ← hacc]
    rfl
  · rw [hwind]
    dsimp only
    split
    next h =>
      rw [Bool.and_eq_true] at h
      cases hr : s.wind.recovery with
      | none => exact .inl rfl
      | some r =>
        rw [hr] at h
        exact .inr ⟨rfl, r, rfl, h.2⟩
    next => exact .inl rfl
  · rw [hdrums]
    cases d <;> rfl

/-- A raise leaves the flags and the recovery, or closes an ACCEPTED wind. -/
theorem State.raiseCause_stays (s : State) (c : Cause) :
    Stays s (s.raiseCause c) ∨ Shuts s (s.raiseCause c) := by
  have hrecord := stays_raiseRecord s c
  by_cases hfresh : s.newlyLatched c = []
  · rw [State.raiseCause_of_latched hfresh]
    exact .inl hrecord
  · rw [State.raiseCause_of_fresh hfresh]
    cases hw : (s.raiseRecord c).wind.current with
    | none =>
      rw [State.handLatch_of_none hw]
      exact .inl hrecord
    | some w =>
      cases hp : w.phase with
      | accepted =>
        rw [State.handLatch_of_accepted hw c hp]
        exact .inr ((hrecord.trans (stays_setCurrent hw _ fun _ => hp)).shuts (shuts_closeWind (w := w.tripped c) rfl hp _))
      | running =>
        rw [State.handLatch_of_underWay hw c (.inl hp)]
        exact .inl (hrecord.trans (stays_enterStopping hw _ _))
      | creep =>
        rw [State.handLatch_of_underWay hw c (.inr hp)]
        exact .inl (hrecord.trans (stays_enterStopping hw _ _))
      | stopping =>
        rw [State.handLatch_of_stopping hw c hp]
        exact .inl (hrecord.trans (stays_setCurrent hw _ id))

/-- A raise over no wind in ACCEPTED leaves the flags and the recovery. -/
theorem State.raiseCause_stays_of_ne {s : State} (h : s.phase ≠ some .accepted) (c : Cause) : Stays s (s.raiseCause c) :=
  (s.raiseCause_stays c).resolve_right fun hshuts => h hshuts.accepted

theorem stays_judgeLoadLost (s : State) : Stays s s.judgeLoadLost := by
  by_cases h : s.losesLoad
  · obtain ⟨sides, hsides⟩ : ∃ sides, s.loadFault = some sides := ⟨_, State.loadFault_of_faulty h.2.1⟩
    obtain ⟨w, hw, -, hp⟩ := State.manUnderWay_iff.mp h.1
    rw [State.judgeLoadLost_of_losing h hsides]
    refine .trans (t := s.setRope { s.rope with loadLost := true }) (.of_wind rfl rfl rfl rfl)
      (State.raiseCause_stays_of_ne (fun hacc => ?_) _)
    unfold State.phase at hacc
    rw [State.setRope_wind, hw] at hacc
    rcases hp with hp | hp <;> exact nomatch hp.symm.trans (Option.some.inj hacc)
  · rw [State.judgeLoadLost_of_not_losing h]
    exact .of_wind rfl rfl rfl rfl

/-! ## The wind's own mechanisms -/

theorem stays_watchStart (s : State) : Stays s s.watchStart := by
  unfold State.watchStart
  split
  next => exact .rfl
  next w hw =>
    have hadvance : Stays s (s.setCurrent (w.advance (s.payout w.lead))) :=
      stays_setCurrent hw _ (by rw [w.advance_eq]; exact id)
    dsimp only
    split
    next hp =>
      split
      next =>
        exact (((stays_setCurrent hw _ fun _ => hp).trans (stays_report _ _)).trans (stays_setEnv _ _)).trans
          (stays_judgeLoadLost _)
      next => exact hadvance
    next => exact hadvance
    next => exact .rfl
    next => exact .rfl

theorem stays_watchDirection (s : State) :
    Stays s s.watchDirection ∨ Shuts s s.watchDirection ∧ 6 ∈ s.watchDirection.trip.causes := by
  unfold State.watchDirection
  split
  next => exact .inl .rfl
  next w hw =>
    split
    next => exact (s.raiseCause_stays _).imp id fun h => ⟨h, (s.raiseCause_raised (.wrongDirection w.lead)).1⟩
    next => exact .inl .rfl

theorem stays_watchCreep (s : State) : Stays s s.watchCreep := by
  unfold State.watchCreep
  split
  next => exact .rfl
  next w hw =>
    split
    next =>
      refine .trans (stays_setCurrent hw _ ?_) (stays_report _ _)
      exact nofun
    next => exact .rfl

theorem stays_watchDwell (s : State) : Stays s s.watchDwell := by
  unfold State.watchDwell
  split
  next => exact .rfl
  next w hw =>
    split
    next => exact .rfl
    next =>
      split
      next =>
        split
        next => exact stays_setCurrent hw _ id
        next => exact .rfl
      next => exact stays_setCurrent hw _ id

theorem stays_watchPeaks (s : State) : Stays s s.watchPeaks := by
  unfold State.watchPeaks
  split
  next => exact .rfl
  next w hw => exact stays_setCurrent hw _ id

/-- The wind controller's work on the open wind itself (R112, R113, R115, R116, R127). -/
def State.watchWind (s : State) : State := s.watchStart.watchDirection.watchCreep.watchDwell.watchPeaks

theorem State.sampleWind_split (s : State) : s.sampleWind =
    ((((s.watchWind.watchRest .one).watchRest .two).watchCreep2).watchRecovery .one).watchRecovery .two := rfl

theorem stays_watchWind (s : State) : Stays s s.watchWind ∨ Shuts s s.watchWind ∧ 6 ∈ s.watchWind.trip.causes := by
  have htail := (stays_watchCreep s.watchStart.watchDirection).trans ((stays_watchDwell _).trans (stays_watchPeaks _))
  have hkeeps := ((keeps_watchCreep (k := .nothing) s.watchStart.watchDirection).trans (keeps_watchDwell _)).trans
    (keeps_watchPeaks _)
  rcases stays_watchDirection s.watchStart with h | ⟨h, hcause⟩
  · exact .inl (((stays_watchStart s).trans h).trans htail)
  · exact .inr ⟨((stays_watchStart s).shuts h).stays htail, hkeeps.causes hcause⟩

end Sys2Proof.Machine
end


section
/-! The three watches beside the wind: unintended motion, drum 2 creep and recovery motion (R123, R124, R126). -/

namespace Sys2Proof.Machine

theorem PerSide.set_self {α : Type} (p : PerSide α) (d : Side) (x : α) (h : p.get d = x) : p.set d x = p := by
  subst h
  cases d <;> rfl

/-! ## Unintended motion (R123) -/

/-- Whether a drum lies further than the creep allowance from its rest payout, which is not waiting to be taken. -/
def State.strays (s : State) (d : Side) : Bool :=
  !(s.drums.drum.get d).restDue && decide (s.winder.creepAllowance < mag (s.payout d - (s.drums.drum.get d).rest))

/-- The state with the flags of unintended motion that a sample sets. -/
def State.restFlagged (s : State) (d : Side) : State := s.setWind { s.wind with
  unintended := s.wind.unintended.set d (s.wind.unintended.get d || (!s.windOpen && s.strays d)) }

theorem State.watchRest_flags (s : State) (d : Side) : Stays (s.restFlagged d) (s.watchRest d) ∧
    (s.windOpen = false → s.wind.unintended.get d = false → s.strays d = true →
      7 ∈ (s.watchRest d).trip.causes ∧ (s.watchRest d).latched .s1 = true ∧ (s.watchRest d).latched .s2 = true) := by
  by_cases h : s.windOpen = false ∧ s.wind.unintended.get d = false ∧ s.strays d = true
  · obtain ⟨hopen, hflag, hstray⟩ := h
    obtain ⟨hdue, hfar⟩ : (s.drums.drum.get d).restDue = false ∧
        s.winder.creepAllowance < mag (s.payout d - (s.drums.drum.get d).rest) := by
      unfold State.strays at hstray
      rwa [Bool.and_eq_true, Bool.not_eq_true', decide_eq_true_iff] at hstray
    have hset : s.restFlagged d = s.setWind { s.wind with unintended := s.wind.unintended.set d true } := by
      unfold State.restFlagged
      rw [hopen, hstray, Bool.not_false, Bool.and_self, Bool.or_true]
    have hraise : s.watchRest d = (s.restFlagged d).raiseCause (.unintendedMotion d) := by
      rw [hset]
      unfold State.watchRest
      dsimp only
      rw [hopen, hdue, hflag]
      exact if_pos ⟨rfl, rfl, rfl, hfar⟩
    obtain ⟨hcause, hlatch⟩ := (s.restFlagged d).raiseCause_raised (.unintendedMotion d)
    rw [hraise]
    refine ⟨State.raiseCause_stays_of_ne (fun hacc => ?_) _, fun _ _ _ => ⟨hcause, hlatch .s1 rfl, hlatch .s2 rfl⟩⟩
    have hnone : s.wind.current = none := by
      unfold State.windOpen at hopen
      exact Option.isSome_eq_false_iff.mp hopen |> Option.isNone_iff_eq_none.mp
    unfold State.phase State.restFlagged at hacc
    rw [State.setWind_wind, hnone] at hacc
    contradiction
  · have hsame : s.restFlagged d = s := by
      unfold State.restFlagged
      rw [PerSide.set_self _ _ _ (Eq.symm _)]
      · rfl
      · cases ho : s.windOpen <;> cases hu : s.wind.unintended.get d <;> cases hs : s.strays d <;> simp_all
    have hskip : s.watchRest d = s := by
      refine if_neg fun hand => h ?_
      obtain ⟨hopen, hdue, hflag, hfar⟩ := hand
      rw [Bool.not_eq_true'] at hopen hdue hflag
      refine ⟨hopen, hflag, ?_⟩
      unfold State.strays
      rw [hdue]
      exact decide_eq_true hfar
    rw [hsame, hskip]
    exact ⟨.rfl, fun ho hu hs => absurd ⟨ho, hu, hs⟩ h⟩

/-! ## Drum 2 creep (R124) -/

/-- Whether drum 2 lies further than the creep allowance from its hold payout, the clutch disengaged. -/
def State.slips (s : State) : Bool :=
  !s.inputs.clutch && s.drums.hold.any fun h => decide (s.winder.creepAllowance < mag (s.payout .two - h))

/-- The state with the creep flag that a sample sets. -/
def State.creepFlagged (s : State) : State := s.setWind { s.wind with creepFlag := s.wind.creepFlag || s.slips }

theorem State.watchCreep2_flags (s : State) : (Stays s.creepFlagged s.watchCreep2 ∨
      Shuts s.creepFlagged s.watchCreep2 ∧ 8 ∈ s.watchCreep2.trip.causes) ∧
    (s.slips = true → s.wind.creepFlag = false → 8 ∈ s.watchCreep2.trip.causes ∧ ∀ j, s.watchCreep2.latched j = true) := by
  by_cases h : s.slips = true ∧ s.wind.creepFlag = false
  · obtain ⟨hslips, hflag⟩ := h
    have hraise : s.watchCreep2 = s.creepFlagged.raiseCause .drum2Creep := by
      have hset : s.creepFlagged = s.setWind { s.wind with creepFlag := true } := by
        unfold State.creepFlagged
        rw [hslips, Bool.or_true]
      unfold State.slips at hslips
      rw [Bool.and_eq_true, Bool.not_eq_true', Option.any_eq_true] at hslips
      obtain ⟨hclutch, x, hx, hfar⟩ := hslips
      rw [hset]
      unfold State.watchCreep2
      rw [hx, hclutch, hflag]
      exact if_pos ⟨rfl, rfl, of_decide_eq_true hfar⟩
    obtain ⟨hcause, hlatch⟩ := s.creepFlagged.raiseCause_raised .drum2Creep
    rw [hraise]
    exact ⟨(s.creepFlagged.raiseCause_stays _).imp id fun hshut => ⟨hshut, hcause⟩,
      fun _ _ => ⟨hcause, fun j => hlatch j (by cases j <;> rfl)⟩⟩
  · have hsame : s.creepFlagged = s := by
      have hflag : (s.wind.creepFlag || s.slips) = s.wind.creepFlag := by
        cases hc : s.wind.creepFlag <;> cases hs : s.slips <;> simp_all
      unfold State.creepFlagged
      rw [hflag]
      rfl
    have hskip : s.watchCreep2 = s := by
      unfold State.watchCreep2
      split
      next => rfl
      next x hx =>
        refine if_neg fun hand => h ?_
        obtain ⟨hclutch, hflag, hfar⟩ := hand
        rw [Bool.not_eq_true'] at hclutch hflag
        refine ⟨?_, hflag⟩
        unfold State.slips
        rw [hclutch, hx, Option.any_some, decide_eq_true hfar]
        rfl
    rw [hsame, hskip]
    exact ⟨.inl .rfl, fun hs hf => absurd ⟨hs, hf⟩ h⟩

/-! ## Recovery motion (R126) -/

/-- The recovery points after a sample of one side. -/
def State.followed (s : State) (r : PerSide (Option Offence)) (d : Side) : PerSide (Option Offence) :=
  r.set d ((r.get d).map fun o => o.follow (s.payout d))

/-- The state with the recovery points of a sample. -/
def State.recoveryFollowed (s : State) (d : Side) : State :=
  s.setWind { s.wind with recovery := s.wind.recovery.map fun r => s.followed r d }

theorem State.watchRecovery_flags (s : State) (d : Side) : (Stays (s.recoveryFollowed d) (s.watchRecovery d) ∨
      Shuts (s.recoveryFollowed d) (s.watchRecovery d) ∧
        18 ∈ (s.watchRecovery d).trip.causes ∧ ∀ j, (s.watchRecovery d).latched j = true) ∧
    ∀ r o, s.wind.recovery = some r → r.get d = some o → (o.follow (s.payout d)).exceeded (s.payout d) = true →
      18 ∈ (s.watchRecovery d).trip.causes ∧ ∀ j, (s.watchRecovery d).latched j = true := by
  have hself (x : WindUnit) (h : x = s.wind) : s.setWind x = s := by subst h; rfl
  cases hr : s.wind.recovery with
  | none =>
    have hsame : s.recoveryFollowed d = s := hself _ (by rw [hr, Option.map_none, ← hr])
    have hskip : s.watchRecovery d = s := by unfold State.watchRecovery; rw [hr]
    rw [hsame, hskip]
    exact ⟨.inl .rfl, nofun⟩
  | some r =>
    cases ho : r.get d with
    | none =>
      have hfollowed : s.followed r d = r := PerSide.set_self _ _ _ (by rw [ho]; rfl)
      have hsame : s.recoveryFollowed d = s := hself _ (by rw [hr, Option.map_some, hfollowed, ← hr])
      have hskip : s.watchRecovery d = s := by unfold State.watchRecovery; rw [hr]; dsimp only; rw [ho]
      rw [hsame, hskip]
      refine ⟨.inl .rfl, fun q o hq ho' => ?_⟩
      cases hq
      rw [ho] at ho'
      contradiction
    | some o =>
      have hset : s.recoveryFollowed d =
          s.setWind { s.wind with recovery := some (r.set d (some (o.follow (s.payout d)))) } := by
        unfold State.recoveryFollowed State.followed
        rw [hr, Option.map_some, ho, Option.map_some]
      have hwatch : s.watchRecovery d = if (o.follow (s.payout d)).exceeded (s.payout d) then
          (s.recoveryFollowed d).raiseCause (.recoveryMotion d) else s.recoveryFollowed d := by
        unfold State.watchRecovery
        rw [hset, hr]
        dsimp only
        rw [ho]
      obtain ⟨hcause, hlatch⟩ := (s.recoveryFollowed d).raiseCause_raised (.recoveryMotion d)
      rw [hwatch]
      split
      next h =>
        have hall (j : Stage) := hlatch j (by cases j <;> rfl)
        exact ⟨((s.recoveryFollowed d).raiseCause_stays _).imp id fun hshut => ⟨hshut, hcause, hall⟩,
          fun _ _ _ _ _ => ⟨hcause, hall⟩⟩
      next h =>
        refine ⟨.inl .rfl, fun q p hq hp hexc => ?_⟩
        cases hq
        rw [ho] at hp
        cases hp
        exact absurd hexc h

end Sys2Proof.Machine
end


section
/-! The watches of a drum sample taken together (R123, R124, R126). -/

namespace Sys2Proof.Machine

/-- A watch of the drums and marks, which the wind controller reads at a sample. -/
def watchDrums : Watch := { Watch.nothing with drum := fun _ => True, hold := True }

section
variable {m x : State} (hk : KeepsBase watchDrums m x) (hw : Work m x)
include hk hw

theorem State.strays_congr {d : Side} (hrest : (x.drums.drum.get d).restDue = (m.drums.drum.get d).restDue) :
    x.strays d = m.strays d := by
  have hpoint : (x.drums.drum.get d).rest = (m.drums.drum.get d).rest := by rw [hk.drum d trivial]
  unfold State.strays
  rw [hrest, hpoint, hk.payout trivial, hw.winder]

theorem State.slips_congr : x.slips = m.slips := by
  unfold State.slips
  rw [hw.inputs, (hk.hold trivial).1, hk.payout trivial, hw.winder]

omit hw in
theorem State.followed_congr : x.followed = m.followed := by
  funext r d
  unfold State.followed
  rw [hk.payout trivial]

end

/-! ## Unintended motion (R123) -/

/-- Work that sets no flag of unintended motion, and clears them only with the closure of a wind. -/
structure Subsides (s t : State) : Prop where
  closed : s.wind.current = none → t.wind.current = none ∧ t.wind.unintended = s.wind.unintended
  clears : ∀ d, t.wind.unintended.get d = true → s.wind.unintended.get d = true

theorem Subsides.trans {s t u : State} (h : Subsides s t) (g : Subsides t u) : Subsides s u :=
  ⟨fun hs => ⟨(g.closed (h.closed hs).1).1, (g.closed (h.closed hs).1).2.trans (h.closed hs).2⟩,
    fun d hd => h.clears d (g.clears d hd)⟩

theorem Subsides.of_stays {x y t : State} (h : Stays y t ∨ Shuts y t) (hu : y.wind.unintended = x.wind.unintended)
    (hc : y.wind.current = x.wind.current) : Subsides x t := by
  rcases h with h | h
  · exact ⟨fun hx => ⟨h.opened.mpr (hc.trans hx), h.unintended.trans hu⟩, fun d hd => by rw [h.unintended, hu] at hd; exact hd⟩
  · refine ⟨fun hx => ?_, fun d hd => by rw [h.unintended] at hd; cases d <;> contradiction⟩
    have hacc := h.accepted
    unfold State.phase at hacc
    rw [hc, hx] at hacc
    contradiction

/-- Drum 2 creep and recovery motion leave the flags of unintended motion. -/
theorem subsides_afterRest (s : State) : Subsides s ((s.watchCreep2.watchRecovery .one).watchRecovery .two) := by
  have hcreep : Subsides s s.watchCreep2 := .of_stays (s.watchCreep2_flags.1.imp id And.left) rfl rfl
  have hrecovery (x : State) (d : Side) : Subsides x (x.watchRecovery d) :=
    .of_stays ((x.watchRecovery_flags d).1.imp id And.left) rfl rfl
  exact (hcreep.trans (hrecovery _ .one)).trans (hrecovery _ .two)

/-- The two drums watched one after the other. -/
theorem State.restWatched (s : State) : ∃ p : PerSide Bool,
    (∀ d, p.get d = (s.wind.unintended.get d || (!s.windOpen && s.strays d))) ∧
    Stays (s.setWind { s.wind with unintended := p }) ((s.watchRest .one).watchRest .two) ∧
    ∀ d, s.windOpen = false → s.wind.unintended.get d = false → s.strays d = true →
      7 ∈ ((s.watchRest .one).watchRest .two).trip.causes ∧ ((s.watchRest .one).watchRest .two).latched .s1 = true ∧
        ((s.watchRest .one).watchRest .two).latched .s2 = true := by
  obtain ⟨hone, hraise1⟩ := s.watchRest_flags .one
  obtain ⟨htwo, hraise2⟩ := (s.watchRest .one).watchRest_flags .two
  have hkeeps := keeps_watchRest (k := watchDrums) s .one
  have hlater := keeps_watchRest (k := watchDrums) (s.watchRest .one) .two
  have hstrays : (s.watchRest .one).strays .two = s.strays .two :=
    State.strays_congr hkeeps.toKeepsBase (work_watchRest s .one) ((hone.rest .two).trans rfl)
  have hopen : (s.watchRest .one).windOpen = s.windOpen := by
    unfold State.windOpen
    rw [Bool.eq_iff_iff, Option.isSome_iff_ne_none, Option.isSome_iff_ne_none]
    exact not_congr hone.opened
  have hflag : (s.watchRest .one).wind.unintended.get .two = s.wind.unintended.get .two := by
    rw [hone.unintended]; rfl
  refine ⟨((s.watchRest .one).restFlagged .two).wind.unintended, fun d => ?_, ?_, fun d => ?_⟩
  · unfold State.restFlagged
    rw [State.setWind_wind, hone.unintended, hstrays, hopen]
    cases d with
    | one => rfl
    | two => rfl
  · refine .trans (t := (s.watchRest .one).restFlagged .two) ⟨rfl, ?_, ?_, ?_, fun hp => ?_, ?_, fun d => ?_⟩ htwo
    · exact hone.creepFlag
    · exact hone.recovery
    · exact hone.opened
    · exact hone.accepted hp
    · exact hone.inside
    · exact hone.rest d
  · cases d with
    | one =>
      intro ho hu hs
      obtain ⟨hcause, hs1, hs2⟩ := hraise1 ho hu hs
      exact ⟨hlater.causes hcause, hlater.latched hs1, hlater.latched hs2⟩
    | two => exact fun ho hu hs => hraise2 (hopen.trans ho) (hflag.trans hu) (hstrays.trans hs)

theorem keeps_watchWind (s : State) : Keeps watchDrums s s.watchWind :=
  ((((keeps_watchStart s id).trans (keeps_watchDirection _)).trans (keeps_watchCreep _)).trans (keeps_watchDwell _)).trans
    (keeps_watchPeaks _)

theorem work_watchWind (s : State) : Work s s.watchWind :=
  ((((work_watchStart s).trans (work_watchDirection _)).trans (work_watchCreep _)).trans (work_watchDwell _)).trans
    (work_watchPeaks _)

theorem keeps_watchRests (s : State) : Keeps watchDrums s ((s.watchRest .one).watchRest .two) :=
  (keeps_watchRest s .one).trans (keeps_watchRest _ .two)

theorem work_watchRests (s : State) : Work s ((s.watchRest .one).watchRest .two) :=
  (work_watchRest s .one).trans (work_watchRest _ .two)

theorem keeps_afterRests (s : State) : Keeps watchDrums s ((s.watchCreep2.watchRecovery .one).watchRecovery .two) :=
  ((keeps_watchCreep2 s).trans (keeps_watchRecovery _ .one)).trans (keeps_watchRecovery _ .two)

theorem State.windOpen_of_none {s : State} (h : s.wind.current = none) : s.windOpen = false :=
  eq_false_of_ne_true fun hopen => State.windOpen_iff.mp hopen h

/-- Unintended motion at a sample, in IDLE and with a wind open. -/
theorem State.sampleWind_unintended (s : State) (d : Side) :
    (s.wind.current = none → s.sampleWind.wind.unintended.get d = (s.wind.unintended.get d || s.strays d) ∧
      (s.wind.unintended.get d = false → s.strays d = true → 7 ∈ s.sampleWind.trip.causes ∧
        s.sampleWind.latched .s1 = true ∧ s.sampleWind.latched .s2 = true)) ∧
    (s.wind.current ≠ none → s.sampleWind.wind.unintended.get d = true → s.wind.unintended.get d = true) := by
  rw [State.sampleWind_split]
  have hwind := stays_watchWind s
  have hkeeps := keeps_watchWind s
  have hwork := work_watchWind s
  generalize s.watchWind = a at *
  obtain ⟨p, hp, hstays, hraise⟩ := a.restWatched
  have hlater := keeps_afterRests ((a.watchRest .one).watchRest .two)
  have hend := subsides_afterRest ((a.watchRest .one).watchRest .two)
  generalize (a.watchRest .one).watchRest .two = b at *
  generalize (b.watchCreep2.watchRecovery .one).watchRecovery .two = u at *
  constructor
  · intro hnone
    have ha : Stays s a := hwind.resolve_right fun hshut => by
      have hacc := hshut.1.accepted
      unfold State.phase at hacc
      rw [hnone] at hacc
      contradiction
    have hclosed : a.windOpen = false := State.windOpen_of_none (ha.opened.mpr hnone)
    have hstrays : a.strays d = s.strays d := State.strays_congr hkeeps.toKeepsBase hwork (ha.rest d)
    have hflag : a.wind.unintended.get d = s.wind.unintended.get d := by rw [ha.unintended]
    have hb : b.wind.current = none := hstays.opened.mpr (ha.opened.mpr hnone)
    refine ⟨?_, fun hu hs => ?_⟩
    · have hbp : b.wind.unintended = p := hstays.unintended
      rw [(hend.closed hb).2, hbp, hp, hclosed, hstrays, hflag]
      rfl
    · obtain ⟨hcause, hs1, hs2⟩ := hraise d hclosed (hflag.trans hu) (hstrays.trans hs)
      exact ⟨hlater.causes hcause, hlater.latched hs1, hlater.latched hs2⟩
  · intro hopen hu
    have hbp : b.wind.unintended = p := hstays.unintended
    have hpa : a.wind.unintended.get d = true := by
      have hpd := hend.clears d hu
      rw [hbp, hp] at hpd
      rcases hwind with ha | ⟨ha, -⟩
      · have hopened : a.windOpen = true := State.windOpen_iff.mpr fun hno => hopen (ha.opened.mp hno)
        rwa [hopened, Bool.not_true, Bool.false_and, Bool.or_false] at hpd
      · have hstill : a.strays d = false := by unfold State.strays; rw [ha.rest d]; rfl
        rwa [hstill, Bool.and_false, Bool.or_false] at hpd
    rcases hwind with ha | ⟨ha, -⟩
    · rwa [ha.unintended] at hpa
    · rw [ha.unintended] at hpa
      cases d <;> contradiction

/-! ## Drum 2 creep (R124) -/

theorem Stays.creepFlag_of {s t : State} (h : Stays s t ∨ Shuts s t) : t.wind.creepFlag = s.wind.creepFlag :=
  h.elim Stays.creepFlag Shuts.creepFlag

/-- The creep flag at a sample, whatever the wind. -/
theorem State.sampleWind_creepFlag (s : State) : s.sampleWind.wind.creepFlag = (s.wind.creepFlag || s.slips) ∧
    (s.slips = true → s.wind.creepFlag = false → 8 ∈ s.sampleWind.trip.causes ∧ ∀ j, s.sampleWind.latched j = true) := by
  rw [State.sampleWind_split]
  have hwind := Stays.creepFlag_of ((stays_watchWind s).imp id And.left)
  obtain ⟨p, -, hstays, -⟩ := s.watchWind.restWatched
  have hkeeps := (keeps_watchWind s).trans (keeps_watchRests s.watchWind)
  have hwork := (work_watchWind s).trans (work_watchRests s.watchWind)
  generalize s.watchWind = a at *
  generalize (a.watchRest .one).watchRest .two = b at *
  have hflag : b.wind.creepFlag = s.wind.creepFlag := hstays.creepFlag.trans hwind
  have hslips : b.slips = s.slips := State.slips_congr hkeeps.toKeepsBase hwork
  obtain ⟨hcreep, hraise⟩ := b.watchCreep2_flags
  have hset : b.creepFlagged.wind.creepFlag = (s.wind.creepFlag || s.slips) := by
    unfold State.creepFlagged
    rw [State.setWind_wind, hflag, hslips]
  have hrecovery (x : State) (d : Side) : (x.watchRecovery d).wind.creepFlag = x.wind.creepFlag := by
    have hstays := Stays.creepFlag_of ((x.watchRecovery_flags d).1.imp id And.left)
    exact hstays
  have hlater := (keeps_watchRecovery (k := .nothing) b.watchCreep2 .one).trans (keeps_watchRecovery _ .two)
  rw [hrecovery, hrecovery, Stays.creepFlag_of (hcreep.imp id And.left), hset]
  refine ⟨rfl, fun hs hf => ?_⟩
  obtain ⟨hcause, hlatch⟩ := hraise (hslips.trans hs) (hflag.trans hf)
  exact ⟨hlater.causes hcause, fun j => hlater.latched (hlatch j)⟩

/-! ## Recovery motion (R126) -/

theorem Offence.follow_eq (o : Offence) (p : Int) : o.follow p = { o with point := (o.follow p).point } ∧
    (o.outward = .descending → (o.follow p).point = min o.point p) ∧
      (o.outward = .ascending → (o.follow p).point = max o.point p) := by
  unfold Offence.follow
  cases ho : o.outward with
  | descending =>
    dsimp only
    split
    next h => exact ⟨rfl, fun _ => (Int.min_eq_right (Int.le_of_lt h)).symm, nofun⟩
    next h => exact ⟨by rw [← ho], fun _ => (Int.min_eq_left (Int.not_lt.mp h)).symm, nofun⟩
  | ascending =>
    dsimp only
    split
    next h => exact ⟨rfl, nofun, fun _ => (Int.max_eq_right (Int.le_of_lt h)).symm⟩
    next h => exact ⟨by rw [← ho], nofun, fun _ => (Int.max_eq_left (Int.not_lt.mp h)).symm⟩

/-- The points of recovery do not matter to whether the offending sides stand inside. -/
theorem State.offendersInside_followed (s x : State) (r : PerSide (Option Offence)) (d : Side) :
    s.offendersInside (x.followed r d) = s.offendersInside r := by
  have hone (e : Side) (o : Offence) (p : Int) : s.insideBy500 e (o.follow p) = s.insideBy500 e o := by
    rw [(o.follow_eq p).1]
    rfl
  unfold State.offendersInside State.followed
  cases d with
  | one => cases hr : r.one <;> simp [PerSide.set, PerSide.get, hr, hone]
  | two => cases hr : r.two <;> simp [PerSide.set, PerSide.get, hr, hone]

/-- One side's watch of recovery. -/
theorem State.watchRecovery_recovery (s : State) (d : Side) :
    (s.wind.recovery = none → (s.watchRecovery d).wind.recovery = none) ∧
    ((s.watchRecovery d).phase = some .accepted → s.phase = some .accepted) ∧
    (s.watchRecovery d).offendersInside = s.offendersInside ∧
    ∀ r, s.wind.recovery = some r → (s.watchRecovery d).wind.recovery = some (s.followed r d) ∨
      (s.watchRecovery d).wind.recovery = none ∧ s.phase = some .accepted ∧ s.offendersInside r = true ∧
        18 ∈ (s.watchRecovery d).trip.causes ∧ ∀ j, (s.watchRecovery d).latched j = true := by
  have hphase : (s.recoveryFollowed d).phase = s.phase := rfl
  have hinside : (s.recoveryFollowed d).offendersInside = s.offendersInside := rfl
  have hset : (s.recoveryFollowed d).wind.recovery = s.wind.recovery.map fun r => s.followed r d := rfl
  rcases (s.watchRecovery_flags d).1 with h | ⟨h, hcause, hlatch⟩
  · refine ⟨fun hnone => ?_, fun hp => hphase ▸ h.accepted hp, h.inside.trans hinside, fun r hr => .inl ?_⟩
    · rw [h.recovery, hset, hnone]; rfl
    · rw [h.recovery, hset, hr]; rfl
  · refine ⟨fun hnone => ?_, fun hp => absurd hp h.phase_ne, h.inside.trans hinside, fun r hr => ?_⟩
    · rcases h.recovery with hsame | hended
      · rw [hsame, hset, hnone]; rfl
      · exact hended.1
    · rcases h.recovery with hsame | ⟨hended, q, hq, hin⟩
      · exact .inl (by rw [hsame, hset, hr]; rfl)
      · rw [hset, hr, Option.map_some, Option.some.injEq] at hq
        rw [hinside, ← hq, State.offendersInside_followed] at hin
        exact .inr ⟨hended, hphase ▸ h.accepted, hin, hcause, hlatch⟩

/-- Work before the watches of recovery: recovery stands, or a raise of WRONG DIRECTION or of DRUM 2 CREEP has closed an
ACCEPTED wind and ended it. -/
structure Lapses (s t : State) : Prop where
  recovery : t.wind.recovery = s.wind.recovery ∨ t.wind.recovery = none ∧ s.phase = some .accepted ∧
    (∃ r, s.wind.recovery = some r ∧ s.offendersInside r = true) ∧ (6 ∈ t.trip.causes ∨ 8 ∈ t.trip.causes)
  accepted : t.phase = some .accepted → s.phase = some .accepted
  inside : t.offendersInside = s.offendersInside
  causes : s.trip.causes ⊆ t.trip.causes

theorem Lapses.trans {s t u : State} (h : Lapses s t) (g : Lapses t u) : Lapses s u := by
  refine ⟨?_, fun hp => h.accepted (g.accepted hp), g.inside.trans h.inside, fun _ hx => g.causes (h.causes hx)⟩
  rcases h.recovery with hs | ⟨hnone, hacc, hin, hcode⟩
  · rcases g.recovery with ht | ⟨hnone, hacc, ⟨r, hr, hin⟩, hcode⟩
    · exact .inl (ht.trans hs)
    · exact .inr ⟨hnone, h.accepted hacc, ⟨r, hs ▸ hr, h.inside ▸ hin⟩, hcode⟩
  · refine .inr ⟨?_, hacc, hin, hcode.imp (fun h6 => g.causes h6) fun h8 => g.causes h8⟩
    rcases g.recovery with ht | ⟨ht, -⟩
    · exact ht.trans hnone
    · exact ht

theorem Lapses.of_stays {x y t : State} (hc : x.trip.causes ⊆ t.trip.causes)
    (h : Stays y t ∨ Shuts y t ∧ (6 ∈ t.trip.causes ∨ 8 ∈ t.trip.causes)) (hr : y.wind.recovery = x.wind.recovery)
    (hp : y.phase = x.phase) (hi : y.offendersInside = x.offendersInside) : Lapses x t := by
  rcases h with h | ⟨h, hcode⟩
  · exact ⟨.inl (h.recovery.trans hr), fun ht => hp ▸ h.accepted ht, h.inside.trans hi, hc⟩
  · refine ⟨?_, fun ht => absurd ht h.phase_ne, h.inside.trans hi, hc⟩
    rw [← hr, ← hi, ← hp]
    exact h.recovery.imp id fun ⟨hnone, hin⟩ => ⟨hnone, h.accepted, hin, hcode⟩

/-- The sample up to the watches of recovery. -/
def State.beforeRecovery (s : State) : State := ((s.watchWind.watchRest .one).watchRest .two).watchCreep2

theorem lapses_beforeRecovery (s : State) : Lapses s s.beforeRecovery := by
  have hwind : Lapses s s.watchWind := .of_stays (keeps_watchWind s).causes
    ((stays_watchWind s).imp id fun ⟨h, hc⟩ => ⟨h, .inl hc⟩) rfl rfl rfl
  obtain ⟨p, -, hstays, -⟩ := s.watchWind.restWatched
  have hrests : Lapses s.watchWind ((s.watchWind.watchRest .one).watchRest .two) :=
    .of_stays (keeps_watchRests _).causes (.inl hstays) rfl rfl rfl
  exact (hwind.trans hrests).trans (.of_stays (keeps_watchCreep2 (k := .nothing) _).causes
    ((State.watchCreep2_flags _).1.imp id fun ⟨h, hc⟩ => ⟨h, .inr hc⟩) rfl rfl rfl)

theorem keeps_beforeRecovery (s : State) : Keeps watchDrums s s.beforeRecovery :=
  ((keeps_watchWind s).trans (keeps_watchRests _)).trans (keeps_watchCreep2 _)

end Sys2Proof.Machine
end


section
/-! Resting drums, a disengaged drum 2 and recovery at a drum sample (R123, R124, R126). -/

namespace Sys2Proof.Machine

/-- Recovery at a sample: the points follow, and what ends it or raises RECOVERY MOTION. -/
theorem State.sampleWind_recovery (s : State) : (s.wind.recovery = none → s.sampleWind.wind.recovery = none) ∧
    ∀ r, s.wind.recovery = some r → ∀ d o, r.get d = some o →
      (∀ q, s.sampleWind.wind.recovery = some q → q.get d = some (o.follow (s.payout d))) ∧
      (s.phase ≠ some .accepted ∨ s.offendersInside r = false → s.sampleWind.wind.recovery.isSome = true) ∧
      (s.phase ≠ some .accepted ∨ s.offendersInside r = false ∨
          6 ∉ s.sampleWind.trip.causes ∧ 8 ∉ s.sampleWind.trip.causes →
        (o.follow (s.payout d)).exceeded (s.payout d) = true →
          18 ∈ s.sampleWind.trip.causes ∧ ∀ j, s.sampleWind.latched j = true) := by
  have hsplit : s.sampleWind = (s.beforeRecovery.watchRecovery .one).watchRecovery .two := rfl
  rw [hsplit]
  obtain ⟨hlapse, hacc, hinside, hcauses⟩ := lapses_beforeRecovery s
  have hkeeps := keeps_beforeRecovery s
  generalize s.beforeRecovery = c at *
  have hfollowc : c.followed = s.followed := State.followed_congr hkeeps.toKeepsBase
  obtain ⟨hnone1, hacc1, hin1, hsome1⟩ := c.watchRecovery_recovery .one
  have hraise1 := (c.watchRecovery_flags .one).2
  have hkeeps1 := keeps_watchRecovery (k := watchDrums) c .one
  generalize c.watchRecovery .one = e at *
  have hfollowe : e.followed = s.followed := (State.followed_congr hkeeps1.toKeepsBase).trans hfollowc
  obtain ⟨hnone2, hacc2, hin2, hsome2⟩ := e.watchRecovery_recovery .two
  have hraise2 := (e.watchRecovery_flags .two).2
  have hkeeps2 := keeps_watchRecovery (k := watchDrums) e .two
  generalize e.watchRecovery .two = u at *
  rw [hfollowc] at hsome1
  rw [hfollowe] at hsome2
  have hpay1 (d : Side) : c.payout d = s.payout d := hkeeps.toKeepsBase.payout trivial
  have hpay2 (d : Side) : e.payout d = s.payout d := (hkeeps1.toKeepsBase.payout trivial).trans (hpay1 d)
  refine ⟨fun hnone => hnone2 (hnone1 ?_), fun r hr d o ho => ?_⟩
  · exact hlapse.elim (fun hsame => hsame.trans hnone) And.left
  have htwo : (s.followed r .one).get .two = r.get .two := rfl
  have hlast : u.wind.recovery = some (s.followed (s.followed r .one) .two) ∨ u.wind.recovery = none := by
    rcases hlapse with hsame | ⟨hno, -⟩
    · rcases hsome1 r (hsame.trans hr) with he | ⟨he, -⟩
      · exact (hsome2 _ he).imp id And.left
      · exact .inr (hnone2 he)
    · exact .inr (hnone2 (hnone1 hno))
  have hruns (h : s.phase ≠ some .accepted ∨ s.offendersInside r = false) {x : State}
      (hx : x.phase = some .accepted → s.phase = some .accepted) (hi : x.offendersInside = s.offendersInside)
      {q : PerSide (Option Offence)} (hq : s.offendersInside q = s.offendersInside r) :
      ¬(x.phase = some .accepted ∧ x.offendersInside q = true) := by
    rintro ⟨hp, hin⟩
    rcases h with h | h
    · exact h (hx hp)
    · rw [hi, hq, h] at hin
      contradiction
  have hcr (h : s.phase ≠ some .accepted ∨ s.offendersInside r = false ∨ 6 ∉ u.trip.causes ∧ 8 ∉ u.trip.causes) :
      c.wind.recovery = some r := by
    rcases hlapse with hsame | ⟨-, hp, ⟨q, hq, hin⟩, hcode⟩
    · exact hsame.trans hr
    · exfalso
      cases hq.symm.trans hr
      rcases h with h | h | ⟨h6, h8⟩
      · exact h hp
      · rw [h] at hin; contradiction
      · exact hcode.elim (fun hc => h6 (hkeeps2.causes (hkeeps1.causes hc))) fun hc => h8 (hkeeps2.causes (hkeeps1.causes hc))
  refine ⟨fun q hq => ?_, fun h => ?_, fun h hexc => ?_⟩
  · rcases hlast with hu | hu
    · rw [hu] at hq
      cases hq
      cases d with
      | one => exact congrArg (Option.map _) ho
      | two => exact congrArg (Option.map _) ho
    · rw [hu] at hq
      contradiction
  · have hc := hcr (h.imp id .inl)
    have he : e.wind.recovery = some (s.followed r .one) := (hsome1 r hc).resolve_right fun ⟨_, hp, hin, _⟩ =>
      hruns h hacc hinside rfl ⟨hp, hin⟩
    have hu : u.wind.recovery = some (s.followed (s.followed r .one) .two) := (hsome2 _ he).resolve_right
      fun ⟨_, hp, hin, _⟩ => hruns h (fun hx => hacc (hacc1 hx)) (hin1.trans hinside)
        (State.offendersInside_followed s s r .one) ⟨hp, hin⟩
    rw [hu]
    rfl
  · have hc := hcr h
    cases d with
    | one =>
      obtain ⟨hcause, hlatch⟩ := hraise1 r o hc ho (by rw [hpay1]; exact hexc)
      exact ⟨hkeeps2.causes hcause, fun j => hkeeps2.latched (hlatch j)⟩
    | two =>
      rcases hsome1 r hc with he | ⟨-, -, -, hcause, hlatch⟩
      · exact hraise2 _ o he (htwo.trans ho) (by rw [hpay2]; exact hexc)
      · exact ⟨hkeeps2.causes hcause, fun j => hkeeps2.latched (hlatch j)⟩

/-- The wind controller's part of a sample. -/
theorem State.atProof_eq (s : State) : s.atProof = s.atWind.sampleWind := rfl

/-- Settles O43: the three watches, over the state that the wind controller finds. -/
theorem restingDrumsAreWatched : Obligations.RestingDrumsAreWatched := by
  refine fun s => State.answers_drumSample fun t ht => ?_
  have hwork : Work s s.atWind := (work_atEnvelope s).trans (work_sampleEnvelope _)
  have hkeeps := (keeps_sampleWind (k := { fullWatch with counters := False }) s.atWind id).toKeepsBase
  rw [State.atProof_eq] at ht
  intro m p allowance strays slips
  have hm : m = s.atWind := rfl
  rw [← hm] at hwork hkeeps ht
  clear_value m
  have hp (d : Side) : p d = m.payout d := by
    show (t.drums.drum.get d).payoutMm = _
    rw [ht.drums]
    exact hkeeps.payout trivial
  have hallow : allowance = m.winder.creepAllowance := by rw [hwork.winder]
  have hstrays (d : Side) : strays d ↔ m.strays d = true := by
    unfold State.strays
    rw [Bool.and_eq_true, Bool.not_eq_true', decide_eq_true_iff, ← hp, ← hallow]
  have hslips : slips ↔ m.slips = true := by
    unfold State.slips
    rw [Bool.and_eq_true, Bool.not_eq_true', Option.any_eq_true, ← hp, ← hallow, hwork.inputs]
    simp only [decide_eq_true_eq]
    rfl
  have hunintended (d : Side) := m.sampleWind_unintended d
  obtain ⟨hflag, hcreep⟩ := m.sampleWind_creepFlag
  obtain ⟨hended, hrecovery⟩ := m.sampleWind_recovery
  have htrips := (keeps_sampleWind (k := .nothing) m id).trips .s1
  rw [ht.latches, ht.wind, ht.causes, ht.latched, ht.phase]
  generalize m.sampleWind = u at *
  refine ⟨fun d hnone => ⟨?_, fun hf hs => ((hunintended d).1 hnone).2 hf ((hstrays d).mp hs)⟩, fun d => (hunintended d).2,
    fun hs => ⟨?_, fun hf => ?_⟩, fun hs => ?_, hended, fun r hr d o ho => ?_⟩
  · rw [((hunintended d).1 hnone).1]
    refine congrArg (_ || ·) ?_
    rw [Bool.eq_iff_iff, decide_eq_true_iff]
    exact (hstrays d).symm
  · rw [hflag, hslips.mp hs, Bool.or_true]
  · obtain ⟨hcause, hlatch⟩ := hcreep (hslips.mp hs) hf
    exact ⟨hcause, State.latches_of_latched hlatch⟩
  · rw [hflag, eq_false_of_ne_true fun hyes => hs (hslips.mpr hyes), Bool.or_false]
  · intro point
    obtain ⟨hfollow, hdown, hup⟩ := o.follow_eq (m.payout d)
    have hpoint : point = (o.follow (m.payout d)).point := by
      cases ho : o.outward with
      | descending => rw [hdown ho]; simp only [point, ho, hp]
      | ascending => rw [hup ho]; simp only [point, ho, hp]
    obtain ⟨hpoints, hstands, hraises⟩ := hrecovery r hr d o ho
    refine ⟨fun q hq => ?_, hstands, fun h hfar => ?_⟩
    · rw [hpoints q hq, hfollow, ← hpoint]
    · have hexc : (o.follow (m.payout d)).exceeded (m.payout d) = true := by
        unfold Offence.exceeded
        rw [hfollow, ← hpoint, ← hp]
        exact decide_eq_true hfar
      obtain ⟨hcause, hlatch⟩ := hraises h hexc
      exact ⟨hcause, State.latches_of_latched hlatch, fun hclear => htrips hclear (hlatch .s1)⟩

end Sys2Proof.Machine
end


section
/-! The open wind at a drum sample that latches no stage (R112, R113, R115, R116, R127). -/

namespace Sys2Proof.Machine

/-! ## Raises that latch nothing -/

/-- Work over an open wind `w` that leaves it as `v` and creates these reports. -/
structure Leads (w v : OpenWind) (bodies : List ReportBody) (s t : State) : Prop where
  current : s.wind.current = some w → t.wind.current = some v
  link : t.link = s.link.pushAll (bodies.map s.stamped)
  clock : t.clock = s.clock

section
variable {w v u : OpenWind} {l k : List ReportBody} {s t r : State}

theorem Leads.rfl : Leads w w [] s s := ⟨id, .refl _, .refl _⟩

theorem Leads.trans (h : Leads w v l s t) (g : Leads v u k t r) : Leads w u (l ++ k) s r := by
  refine ⟨fun hs => g.current (h.current hs), ?_, g.clock.trans h.clock⟩
  rw [g.link, h.link, State.stamped_congr h.clock, List.map_append, LinkPort.pushAll_append]

theorem leads_setCurrent (s : State) (w v : OpenWind) : Leads w v [] s (s.setCurrent v) :=
  ⟨fun _ => .refl _, .refl _, .refl _⟩

theorem leads_report (s : State) (w : OpenWind) (b : ReportBody) : Leads w w [b] s (s.report b) :=
  ⟨fun h => by rw [State.report_wind]; exact h, s.report_link b, by simp⟩

theorem Leads.of_wind (wind : t.wind.current = s.wind.current) (link : t.link = s.link) (clock : t.clock = s.clock) :
    Leads w w [] s t := ⟨fun h => wind.trans h, link, clock⟩

/-- A stage newly latched changes the latches. -/
theorem State.newlyLatched_of_latches {c : Cause} (h : (s.raiseCause c).latches = s.latches) : s.newlyLatched c = [] := by
  rw [List.eq_nil_iff_forall_not_mem]
  intro j hj
  obtain ⟨hreach, hclear⟩ := State.mem_newlyLatched.mp hj
  have hlatched := (s.raiseCause_raised c).2 j hreach
  have hone (x : State) : x.latches.get j = x.latched j := by cases j <;> rfl
  rw [← hone, h, hone, hclear] at hlatched
  contradiction

theorem leads_raiseCause {c : Cause} (h : (s.raiseCause c).latches = s.latches) : Leads w w [] s (s.raiseCause c) := by
  have hfresh := State.newlyLatched_of_latches h
  rw [State.raiseCause_of_latched hfresh]
  refine .of_wind (by rw [State.raiseRecord_wind]) ?_ (by simp)
  rw [State.raiseRecord_link, hfresh]
  rfl

theorem leads_judgeLoadLost (h : s.judgeLoadLost.latches = s.latches) : Leads w w [] s s.judgeLoadLost := by
  by_cases hloses : s.losesLoad
  · obtain ⟨sides, hsides⟩ : ∃ sides, s.loadFault = some sides := ⟨_, State.loadFault_of_faulty hloses.2.1⟩
    rw [State.judgeLoadLost_of_losing hloses hsides] at h ⊢
    exact Leads.trans (l := []) (t := s.setRope { s.rope with loadLost := true }) (.of_wind rfl rfl rfl) (leads_raiseCause h)
  · rw [State.judgeLoadLost_of_not_losing hloses]
    exact .of_wind rfl rfl rfl

end

/-! ## The mechanisms of R109 on the open wind -/

/-- Whether an ACCEPTED wind starts (R112). -/
@[reducible] def OpenWind.starts (w : OpenWind) (p : Int) : Prop :=
  w.phase = .accepted ∧ 100 ≤ (p - w.startPayout) * w.dir.sign

/-- The wind as the start of motion leaves it (R112). -/
def OpenWind.started (w : OpenWind) (p : Int) : OpenWind :=
  if w.starts p then { w.advance p with phase := .running, start := none }
  else if w.phase = .accepted ∨ w.phase = .running then w.advance p else w

theorem State.latches_congr {s t : State} (h : t.trip.latch = s.trip.latch) : t.latches = s.latches := by
  unfold State.latches
  rw [State.latched_congr h]

section
variable {s : State} {w : OpenWind} (hw : s.wind.current = some w)
include hw

theorem State.watchStart_of_start (h : w.starts (s.payout w.lead)) :
    s.watchStart = s.enterRunning (w.advance (s.payout w.lead)) := by
  unfold State.watchStart
  rw [hw]
  dsimp only
  rw [h.1]
  exact if_pos h.2

theorem State.watchStart_of_no_start (h : ¬(w.starts (s.payout w.lead))) :
    s.watchStart = if w.phase = .accepted ∨ w.phase = .running then s.setCurrent (w.advance (s.payout w.lead)) else s := by
  unfold State.watchStart
  rw [hw]
  dsimp only
  cases hp : w.phase with
  | accepted => exact if_neg fun hfar => h ⟨hp, hfar⟩
  | running => rfl
  | creep => rfl
  | stopping => rfl

theorem leads_watchStart (h : s.watchStart.latches = s.latches) :
    Leads w (w.started (s.payout w.lead))
      (if w.starts (s.payout w.lead) then
        [.wind w.number (some .running) none w.destination] else []) s s.watchStart := by
  by_cases hstart : w.starts (s.payout w.lead)
  · rw [State.watchStart_of_start hw hstart] at h ⊢
    unfold OpenWind.started
    rw [if_pos hstart, if_pos hstart]
    have hreport : (State.report (s.setCurrent { w.advance (s.payout w.lead) with phase := .running, start := none })
        (.wind (w.advance (s.payout w.lead)).number (some .running) none (w.advance (s.payout w.lead)).destination)) =
        (s.setCurrent { w.advance (s.payout w.lead) with phase := .running, start := none }).report
          (.wind w.number (some .running) none w.destination) := by rw [w.advance_eq]
    unfold State.enterRunning at h ⊢
    dsimp only at h ⊢
    rw [hreport] at h ⊢
    refine Leads.trans (l := [_]) (Leads.trans (l := []) (leads_setCurrent s w _) (leads_report _ _ _))
      (k := []) (.trans (l := []) (.of_wind ?_ ?_ ?_) (leads_judgeLoadLost ?_))
    · rfl
    · rfl
    · rfl
    · refine h.trans (State.latches_congr ?_).symm
      rw [State.setEnv_trip, State.report_trip]
      rfl
  · rw [State.watchStart_of_no_start hw hstart]
    unfold OpenWind.started
    rw [if_neg hstart, if_neg hstart]
    split
    next => exact leads_setCurrent s w _
    next => exact .rfl

end

/-- Whether a wind in RUNNING enters CREEP at a sample (R115). -/
@[reducible] def State.creeps (s : State) (w : OpenWind) : Prop :=
  w.phase = .running ∧ s.targetDistance w ≤ (s.mode w.mode).dCreep

/-- The wind after the judgement of creep, of the dwell timer and of the peaks (R115, R116, R127). -/
def State.dwelt (s : State) (w : OpenWind) : OpenWind :=
  if w.phase = .accepted then w
  else { w with dwell := if s.playStationary then w.dwell.or (some Config.dwellMs) else none }

def State.peaked (s : State) (w : OpenWind) : OpenWind := { w with
  peakSpeed := max w.peakSpeed (mag (s.speed w.lead))
  peakUsage := max w.peakUsage (if w.phase = .running ∨ w.phase = .creep then
    min Config.max16 (usage (s.speed w.lead) s.env.vp) else 0) }

/-- Work that leads an open wind so while it latches nothing. -/
structure LeadsBy (w v : OpenWind) (l : List ReportBody) (s t : State) : Prop where
  keeps : KeepsBase .nothing s t
  leads : s.wind.current = some w → t.latches = s.latches → Leads w v l s t

section
variable {w v u : OpenWind} {l k : List ReportBody} {s t r : State}

theorem LeadsBy.trans (h : LeadsBy w v l s t) (g : LeadsBy v u k t r) : LeadsBy w u (l ++ k) s r := by
  refine ⟨h.keeps.trans g.keeps, fun hw heq => ?_⟩
  obtain ⟨hst, htr⟩ := h.keeps.latches_between g.keeps heq
  have hlead := h.leads hw hst
  exact hlead.trans (g.leads (hlead.current hw) htr)

/-- A raise, or a flag set and then a raise. -/
theorem leadsBy_flagged (x : WindUnit) (c : Cause) (hx : x.current = s.wind.current) (hc : c.kind ≠ .advisory) :
    LeadsBy w w [] s ((s.setWind x).raiseCause c) :=
  ⟨(keeps_flagged s x c hx hc).toKeepsBase, fun _ h => Leads.trans (l := []) (t := s.setWind x) (.of_wind hx rfl rfl)
    (leads_raiseCause h)⟩

theorem LeadsBy.rfl : LeadsBy w w [] s s := ⟨.rfl, fun _ _ => .rfl⟩

theorem leadsBy_watchStart : LeadsBy w (w.started (s.payout w.lead))
    (if w.starts (s.payout w.lead) then [.wind w.number (some .running) none w.destination] else []) s s.watchStart :=
  ⟨(keeps_watchStart s id).toKeepsBase, fun hw h => leads_watchStart hw h⟩

theorem leadsBy_watchDirection : LeadsBy w w [] s s.watchDirection := by
  refine ⟨(keeps_watchDirection s).toKeepsBase, fun hw h => ?_⟩
  unfold State.watchDirection at h ⊢
  rw [hw] at h ⊢
  dsimp only at h ⊢
  split at h
  next hd => rw [if_pos hd]; exact leads_raiseCause h
  next hd => rw [if_neg hd]; exact .rfl

theorem leadsBy_watchCreep : LeadsBy w (if s.creeps w then { w with phase := .creep } else w)
    (if s.creeps w then [.wind w.number (some .creep) none w.destination] else []) s s.watchCreep := by
  refine ⟨(keeps_watchCreep s).toKeepsBase, fun hw _ => ?_⟩
  unfold State.watchCreep
  rw [hw]
  dsimp only
  split
  next => exact Leads.trans (l := []) (leads_setCurrent s w _) (leads_report _ _ _)
  next => exact .rfl

theorem leadsBy_watchDwell : LeadsBy w (s.dwelt w) [] s s.watchDwell := by
  refine ⟨(keeps_watchDwell s).toKeepsBase, fun hw _ => ?_⟩
  unfold State.watchDwell State.dwelt
  rw [hw]
  dsimp only
  split
  next => exact .rfl
  next =>
    split
    next hrest =>
      cases hd : w.dwell with
      | none => exact leads_setCurrent s w _
      | some n =>
        refine ⟨fun hs => hs.trans (congrArg some ?_), rfl, rfl⟩
        rw [Option.some_or, ← hd]
    next => exact leads_setCurrent s w _

theorem leadsBy_watchPeaks : LeadsBy w (s.peaked w) [] s s.watchPeaks := by
  refine ⟨(keeps_watchPeaks s).toKeepsBase, fun hw _ => ?_⟩
  unfold State.watchPeaks
  rw [hw]
  exact leads_setCurrent s w _

theorem leadsBy_watchRest (d : Side) : LeadsBy w w [] s (s.watchRest d) := by
  unfold State.watchRest
  dsimp only
  split
  next => exact leadsBy_flagged _ (.unintendedMotion d) rfl (nomatch ·)
  next => exact .rfl

theorem leadsBy_watchCreep2 : LeadsBy w w [] s s.watchCreep2 := by
  unfold State.watchCreep2
  split
  next => exact .rfl
  next =>
    split
    next => exact leadsBy_flagged _ .drum2Creep rfl (nomatch ·)
    next => exact .rfl

theorem leadsBy_watchRecovery (d : Side) : LeadsBy w w [] s (s.watchRecovery d) := by
  unfold State.watchRecovery
  split
  next => exact .rfl
  next =>
    split
    next => exact .rfl
    next =>
      dsimp only
      split
      next => exact leadsBy_flagged _ (.recoveryMotion d) rfl (nomatch ·)
      next =>
        refine ⟨(keeps_setWind s _ ?_).toKeepsBase, fun _ _ => .of_wind ?_ ?_ ?_⟩
        all_goals rfl

end

/-! ## What the wind controller reads stands through its own work -/

/-- A watch of what the wind controller reads: the drums, the tracks and the envelope's record. -/
def windWatch : Watch := { fullWatch with counters := False, degrade := False }

section
variable {s x : State} (hk : KeepsBase windWatch s x) (hw : Work s x)
include hk hw

theorem State.creeps_congr (w : OpenWind) : x.creeps w ↔ s.creeps w := by
  unfold State.creeps State.targetDistance
  rw [hk.track w.lead trivial, hw.mode]

theorem State.dwelt_congr : x.dwelt = s.dwelt := by
  funext w
  unfold State.dwelt State.playStationary
  rw [hk.stationary (d := .one) trivial, hk.stationary (d := .two) trivial, hw.inPlay]

omit hw in
theorem State.peaked_congr : x.peaked = s.peaked := by
  funext w
  unfold State.peaked
  rw [hk.speed (d := w.lead) trivial, hk.env trivial]

end

/-- The open wind after the wind controller's work at a sample. -/
def State.windLed (s : State) (w : OpenWind) : OpenWind :=
  let v := w.started (s.payout w.lead)
  s.peaked (s.dwelt (if s.creeps v then { v with phase := .creep } else v))

/-- The WIND reports of a sample. -/
def State.windReports (s : State) (w : OpenWind) : List ReportBody :=
  (if w.starts (s.payout w.lead) then [.wind w.number (some .running) none w.destination] else []) ++
    if s.creeps (w.started (s.payout w.lead)) then [.wind w.number (some .creep) none w.destination] else []

theorem OpenWind.started_names (w : OpenWind) (p : Int) : (w.started p).number = w.number ∧
    (w.started p).destination = w.destination ∧ (w.started p).lead = w.lead := by
  unfold OpenWind.started
  rw [w.advance_eq]
  split
  · exact ⟨rfl, rfl, rfl⟩
  · split <;> exact ⟨rfl, rfl, rfl⟩

theorem leadsBy_sampleWind (s : State) (w : OpenWind) : LeadsBy w (s.windLed w) (s.windReports w) s s.sampleWind := by
  obtain ⟨hnumber, hdest, -⟩ := w.started_names (s.payout w.lead)
  have hk1 := (keeps_watchStart (k := windWatch) s id).trans (keeps_watchDirection _)
  have hw1 := (work_watchStart s).trans (work_watchDirection _)
  have hk2 := hk1.trans (keeps_watchCreep _)
  have hw2 := hw1.trans (work_watchCreep _)
  have hk3 := hk2.trans (keeps_watchDwell _)
  have hcreep := (leadsBy_watchStart (s := s) (w := w)).trans (leadsBy_watchDirection.trans leadsBy_watchCreep)
  have hpeaks := hcreep.trans (leadsBy_watchDwell.trans leadsBy_watchPeaks)
  have hrests := hpeaks.trans ((leadsBy_watchRest .one).trans (leadsBy_watchRest .two))
  have hwhole := hrests.trans (leadsBy_watchCreep2.trans ((leadsBy_watchRecovery .one).trans (leadsBy_watchRecovery .two)))
  simpa only [State.sampleWind_split, State.watchWind, State.windLed, State.windReports, List.nil_append,
    List.append_nil, State.creeps_congr hk1.toKeepsBase hw1, State.dwelt_congr hk2.toKeepsBase hw2,
    State.peaked_congr hk3.toKeepsBase, hnumber, hdest] using hwhole

end Sys2Proof.Machine
end


section
/-! A wind follows its lead drum at a drum sample (R57, R112, R113, R115, R116, R127). -/

namespace Sys2Proof.Machine

theorem ite_of_iff {α : Type} {p q : Prop} [Decidable p] [Decidable q] {x y : α} (h : p ↔ q) :
    (if p then x else y) = if q then x else y := ite_congr (propext h) (fun _ => rfl) fun _ => rfl

/-! ## A load lost at the start of motion (R57, R112) -/

theorem State.watchStart_loses {s : State} {w : OpenWind} (hw : s.wind.current = some w)
    (hstart : w.starts (s.payout w.lead)) (hman : w.mode = .man) (hlost : s.rope.loadLost = false)
    (hfault : s.faulty .one = true ∨ s.faulty .two = true) : 15 ∈ s.watchStart.trip.causes ∧
      s.watchStart.latched .s1 = true ∧ (s.latched .s1 = false → s.watchStart.phase = some .stopping) := by
  obtain ⟨z, hz, hcurrent, hside, hinputs, hlostz, hlatch⟩ : ∃ z : State, s.watchStart = z.judgeLoadLost ∧
      z.wind.current = some { w.advance (s.payout w.lead) with phase := .running, start := none } ∧
      z.rope.side = s.rope.side ∧ z.inputs = s.inputs ∧ z.rope.loadLost = s.rope.loadLost ∧ z.trip.latch = s.trip.latch := by
    rw [State.watchStart_of_start hw hstart]
    refine ⟨_, rfl, ?_, ?_, ?_, ?_, ?_⟩
    · rw [State.setEnv_wind, State.report_wind]; rfl
    · rw [State.setEnv_rope, State.report_rope]; rfl
    · rw [State.setEnv_inputs, State.report_inputs]; rfl
    · rw [State.setEnv_rope, State.report_rope]; rfl
    · rw [State.setEnv_trip, State.report_trip]; rfl
  have hfaulty (d : Side) : z.faulty d = s.faulty d := by
    unfold State.faulty State.inPlay
    rw [hside, hinputs]
  have hloses : z.losesLoad := by
    refine ⟨State.manUnderWay_iff.mpr ⟨_, hcurrent, ?_, .inl rfl⟩, by rwa [hfaulty, hfaulty], hlostz.trans hlost⟩
    rw [w.advance_eq]
    exact hman
  obtain ⟨hcause, hone, hstops⟩ := State.judgeLoadLost_loses hloses
  rw [hz]
  refine ⟨hcause, hone, fun hclear => (hstops ?_).1⟩
  rw [State.latched_congr hlatch]
  exact hclear

/-! ## Wrong direction (R113) -/

theorem State.watchDirection_raises {s : State} {w : OpenWind} (hw : s.wind.current = some w)
    (hearly : w.phase = .accepted ∨ w.phase = .running) (hback : 300 ≤ (w.furthest - s.payout w.lead) * w.dir.sign) :
    6 ∈ s.watchDirection.trip.causes ∧ s.watchDirection.latched .s1 = true ∧
      (s.latched .s1 = false → s.watchDirection.phase = if w.phase = .accepted then none else some .stopping) := by
  have hraise : s.watchDirection = s.raiseCause (.wrongDirection w.lead) := by
    unfold State.watchDirection
    rw [hw]
    exact if_pos ⟨hearly, hback⟩
  obtain ⟨hcause, hlatch⟩ := s.raiseCause_raised (.wrongDirection w.lead)
  rw [hraise]
  refine ⟨hcause, hlatch .s1 rfl, fun hclear => ?_⟩
  rcases hearly with hp | hp
  · have hfresh : s.newlyLatched (.wrongDirection w.lead) ≠ [] :=
      List.ne_nil_of_mem (State.mem_newlyLatched.mpr ⟨rfl, hclear⟩ : Stage.s1 ∈ _)
    have hrecord : (s.raiseRecord (.wrongDirection w.lead)).wind.current = some w := by rw [State.raiseRecord_wind]; exact hw
    rw [State.raiseCause_of_fresh hfresh, State.handLatch_of_accepted hrecord _ hp, hp, if_pos rfl]
    unfold State.phase
    rw [(shuts_closeWind (w := w.tripped (.wrongDirection w.lead)) (Eq.refl _) hp .tripped).closed]
    rfl
  · rw [(State.raiseCause_stops hw (.inl hp) rfl hclear).1, hp, if_neg (by decide)]

/-- A wind that moves 300 mm against its direction has not started at the same sample. -/
theorem OpenWind.not_starts_of_back {w : OpenWind} {p : Int}
    (hfit : w.phase = .accepted → (w.furthest - w.startPayout) * w.dir.sign < 100)
    (hback : 300 ≤ ((w.advance p).furthest - p) * w.dir.sign) : ¬w.starts p := by
  rintro ⟨hacc, hfar⟩
  rcases w.advance_furthest p with ⟨-, hold | hnew⟩
  · rw [hold] at hback
    have hsum : (w.furthest - w.startPayout) * w.dir.sign =
        (w.furthest - p) * w.dir.sign + (p - w.startPayout) * w.dir.sign := by
      rw [← Int.add_mul]
      exact congrArg (· * w.dir.sign) (by omega)
    have := hfit hacc
    omega
  · rw [hnew, Int.sub_self, Int.zero_mul] at hback
    omega

/-- Wrong direction at a sample, to its end (R113). -/
theorem State.sampleWind_turns {s : State} {w : OpenWind} (hw : s.wind.current = some w)
    (hearly : w.phase = .accepted ∨ w.phase = .running) (hstart : ¬w.starts (s.payout w.lead))
    (hback : 300 ≤ ((w.advance (s.payout w.lead)).furthest - s.payout w.lead) * w.dir.sign) :
    6 ∈ s.sampleWind.trip.causes ∧ s.sampleWind.latched .s1 = true ∧
      (s.latched .s1 = false → s.sampleWind.phase = if w.phase = .accepted then none else some .stopping) := by
  have hset : s.watchStart = s.setCurrent (w.advance (s.payout w.lead)) := by
    rw [State.watchStart_of_no_start hw hstart, if_pos hearly]
  have hphase : (w.advance (s.payout w.lead)).phase = w.phase := by rw [w.advance_eq]
  have hlead : (w.advance (s.payout w.lead)).lead = w.lead := by rw [w.advance_eq]
  have hdir : (w.advance (s.payout w.lead)).dir = w.dir := by rw [w.advance_eq]
  obtain ⟨hcause, hone, hcloses⟩ := State.watchDirection_raises (s := s.watchStart) (w := w.advance (s.payout w.lead))
    (by rw [hset]; rfl) (by rwa [hphase]) (by
      rw [hlead, hdir, hset]
      exact hback)
  rw [hphase] at hcloses
  have hlater : Keeps .nothing s.watchStart.watchDirection s.sampleWind :=
    ((((((keeps_watchCreep _).trans (keeps_watchDwell _)).trans (keeps_watchPeaks _)).trans (keeps_watchRest _ .one)).trans
      (keeps_watchRest _ .two)).trans ((keeps_watchCreep2 _).trans (keeps_watchRecovery _ .one))).trans
        (keeps_watchRecovery _ .two)
  refine ⟨hlater.causes hcause, hlater.latched hone, fun hclear => ?_⟩
  have hend := hcloses (by rw [hset]; exact hclear)
  split
  next hp => exact hlater.toKeepsBase.phase_none (hend.trans (if_pos hp))
  next hp => exact hlater.stopping (hend.trans (if_neg hp))

/-! ## The wind at the end of the sample -/

/-- The proof unit has no part in a sample while no proof runs. -/
theorem State.sampleProof_of_unproving {s : State} (h : s.isProving = false) : s.sampleProof = s := by
  unfold State.sampleProof
  split
  next step hr =>
    have hyes : s.isProving = true := by unfold State.isProving; rw [hr]
    rw [h] at hyes
    contradiction
  next => rfl

/-- A claim about a drum sample and, with no proof running, about its reports. -/
theorem State.answers_drumSample_told {s : State} {P : State → Prop} (h : ∀ t, SampleEnd s.atProof t →
    (s.isProving = false → ∀ (m : State) bodies, s.atProof.link = m.link.pushAll (bodies.map m.stamped) → m.Told t bodies) →
    P t) : Answers .drumSample s P := by
  refine ⟨_, exec_drumSample s, h _ s.atProof.sampleEnd fun hidle m bodies hl => ?_⟩
  rw [State.sampleProof_of_unproving ((State.isProving_congr (work_atProof s).proof).trans hidle)]
  exact State.told_of_link hl

/-- What a sample leaves of the rope records for the wind controller. -/
theorem State.atWind_rope (s : State) (d : Side) : s.atWind.rope.side.get d = s.rope.side.get d := by
  have hbefore := keeps_atEnvelope (k := { Watch.nothing with rope := fun _ => True }) s (fun _ => id) id id (fun _ => id)
    (fun _ => id) fun _ => ⟨fun _ => rfl, fun _ => rfl⟩
  have hkeeps : Keeps { Watch.nothing with rope := fun _ => True } s s.atWind :=
    hbefore.trans (keeps_sampleEnvelope s.atEnvelope id id)
  exact hkeeps.rope d trivial

/-- Settles O42: the mechanisms one after the other while no stage latches, and the two raises of the wind's own motion. -/
theorem windsFollowTheirLeadDrum : Obligations.WindsFollowTheirLeadDrum := by
  refine fun s w hw => State.answers_drumSample_told fun t ht htold => ?_
  have hwork : Work s s.atWind := (work_atEnvelope s).trans (work_sampleEnvelope _)
  have hkeeps := (keeps_sampleWind (k := windWatch) s.atWind id).toKeepsBase
  have hropes := s.atWind_rope
  rw [State.atProof_eq] at ht htold
  intro m
  have hm : m = s.atWind := rfl
  rw [← hm] at hwork hkeeps ht htold hropes hw
  clear_value m
  intro p early furthest starts creeps phase resting v usage
  have hp : p = m.payout w.lead := by
    show (t.drums.drum.get w.lead).payoutMm = _
    rw [ht.drums]
    exact hkeeps.payout trivial
  have hspeed (d : Side) : t.speed d = m.speed d := (ht.speed d).trans (hkeeps.speed trivial)
  have hD (d : Side) : t.depth.get d = m.depth.get d := by rw [ht.depth]; exact hkeeps.track d trivial
  have hvp : t.env.vp = m.env.vp := by rw [ht.env, hkeeps.env trivial]
  have hfurthest : furthest = if early then (w.advance (m.payout w.lead)).furthest else w.furthest := by
    unfold OpenWind.advance
    simp only [furthest, hp]
    by_cases he : early
    · simp only [he, true_and, if_true]
      split <;> rfl
    · simp only [he, false_and, if_false]
  have hstarts : starts ↔ w.starts (m.payout w.lead) := by rw [← hp]
  have hstarted : w.started (m.payout w.lead) = { w with
      phase := if starts then .running else w.phase, furthest := furthest, start := if starts then none else w.start } := by
    unfold OpenWind.started
    rw [hfurthest, w.advance_eq]
    by_cases hs : starts
    · rw [if_pos (hstarts.mp hs), if_pos hs, if_pos hs, if_pos (.inl hs.1)]
    · rw [if_neg (mt hstarts.mpr hs), if_neg hs, if_neg hs]
      by_cases he : early
      · rw [if_pos he, if_pos he]
      · rw [if_neg he, if_neg he]
  have hcreeps : creeps ↔ m.creeps (w.started (m.payout w.lead)) := by
    rw [hstarted]
    unfold State.creeps State.targetDistance
    rw [← hD, hwork.mode]
    refine and_congr ?_ Iff.rfl
    dsimp only
    split
    next hs => exact ⟨fun _ => rfl, fun _ => .inl hs⟩
    next hs => exact or_iff_right hs
  have hled : m.windLed w = { w with
      phase := phase
      furthest := furthest
      start := if starts then none else w.start
      dwell := if phase = .accepted then w.dwell else if resting then w.dwell.or (some 2000) else none
      peakSpeed := max w.peakSpeed v
      peakUsage := max w.peakUsage usage } := by
    have hrest : m.playStationary = true ↔ resting := by
      unfold State.playStationary
      rw [Bool.and_eq_true, Bool.or_eq_true, Bool.not_eq_true', State.stationary_iff, State.stationary_iff, ← hspeed,
        ← hspeed]
      refine and_congr Iff.rfl ?_
      rw [show m.inPlay .two = s.inputs.clutch by rw [hwork.inPlay]; rfl]
      cases s.inputs.clutch <;> simp
    have hmoved : (if m.creeps (w.started (m.payout w.lead)) then { w.started (m.payout w.lead) with phase := .creep }
        else w.started (m.payout w.lead)) = { w with
          phase := phase, furthest := furthest, start := if starts then none else w.start } := by
      rw [ite_of_iff hcreeps.symm, hstarted]
      by_cases hc : creeps
      · rw [if_pos hc, show phase = .creep from if_pos hc]
      · rw [if_neg hc, show phase = if starts then .running else w.phase from if_neg hc]
    unfold State.windLed
    dsimp only
    rw [hmoved]
    have hdwelt (x : OpenWind) : m.dwelt x = { x with
        dwell := if x.phase = .accepted then x.dwell else if resting then x.dwell.or (some 2000) else none } := by
      unfold State.dwelt
      rw [ite_of_iff hrest]
      split <;> rfl
    rw [hdwelt]
    unfold State.peaked
    dsimp only
    rw [← hspeed, ← hvp]
    rfl
  have hleads := leadsBy_sampleWind m w
  refine ⟨fun hl => ?_, fun hl hidle => ?_, fun hs hman hlost hfault => ?_, fun hfit hearly hback => ?_⟩
  · rw [ht.wind, ← hled]
    exact (hleads.leads hw (ht.latches.symm.trans hl)).current hw
  · refine htold hidle m _ ((hleads.leads hw (ht.latches.symm.trans hl)).link.trans ?_)
    unfold State.windReports
    rw [ite_of_iff hstarts.symm, ite_of_iff hcreeps.symm]
  · have hfaulty (d : Side) : m.faulty d = ((s.rope.side.get d).bothBad && s.inPlay d) := by
      unfold State.faulty
      rw [hropes, hwork.inPlay]
    obtain ⟨hcause, hone, hstops⟩ := State.watchStart_loses hw (hstarts.mp hs) hman hlost (by
      rw [hfaulty, hfaulty, Bool.and_eq_true, Bool.and_eq_true]
      exact hfault.imp (fun h1 => ⟨h1, rfl⟩) fun h2 => ⟨h2.2, h2.1⟩)
    have hlater := keeps_afterStart (k := .nothing) m
    rw [ht.causes, ht.latched, ht.phase]
    exact ⟨hlater.causes hcause, hlater.latched hone, fun hclear => hlater.stopping (hstops hclear)⟩
  · rw [hfurthest, if_pos hearly, hp] at hback
    have hno := OpenWind.not_starts_of_back hfit hback
    obtain ⟨hcause, hone, hcloses⟩ := State.sampleWind_turns hw hearly hno hback
    rw [ht.causes, ht.latched, ht.phase]
    refine ⟨hcause, hone, fun hclear => (hcloses hclear).trans (ite_congr (propext ?_) (fun _ => rfl) fun _ => rfl)⟩
    exact ⟨fun hacc => ⟨hacc, mt hstarts.mp hno⟩, And.left⟩

end Sys2Proof.Machine
end


section
/-! The missed markers of a drum sample (R72, R73, R75, R76, R127). -/

namespace Sys2Proof.Machine

theorem repeat_charged_succ (k : Nat) (x : Lock × Nat) :
    Nat.repeat charged (k + 1) x = Nat.repeat charged k (charged x) := by
  induction k with
  | zero => rfl
  | succ k ih => exact congrArg charged ih

/-- Several counts, one by one, reach the sum or the bound. -/
theorem repeat_satSucc (top k n : Nat) (hk : k ≠ 0) : Nat.repeat (satSucc top) k n = min top (n + k) := by
  induction k with
  | zero => contradiction
  | succ k ih =>
    show satSucc top (Nat.repeat (satSucc top) k n) = _
    rw [satSucc_eq_min]
    cases k with
    | zero => rfl
    | succ k =>
      rw [ih (by omega)]
      omega

theorem repeat_satSucc_comp (top k : Nat) :
    Nat.repeat (satSucc top) k ∘ satSucc top = Nat.repeat (satSucc top) (k + 1) := by
  funext n
  induction k with
  | zero => rfl
  | succ k ih => exact congrArg (satSucc top) ih

theorem Track.rejected_charged (t : Track) : (t.rejected.lock, t.rejected.rejects) = charged (t.lock, t.rejects) := by
  show _ = if t.lock = .suspect ∧ 2 ≤ t.rejects then (Lock.lost, 0) else (Lock.suspect, t.rejects + 1)
  unfold Track.rejected
  by_cases h : t.lock = .suspect ∧ 2 ≤ t.rejects
  · rw [if_pos ⟨h.1, by omega⟩, if_pos h]
    rfl
  · rw [if_neg fun hand => h ⟨hand.1, by omega⟩, if_neg h]

/-- The missed markers of one side in the record. -/
def missedOf (d : Side) (n : PerSide SideCounts) : Nat := (n.get d).missed

/-- The markers that a side has passed at a depth, at most `n`, in the direction of its last motion (R76). -/
def State.passedAt (s : State) (d : Side) (n : Nat) (dir : Option Dir) (D : Int) (next : Option Nat) : List Marker :=
  (dir.map fun r => s.passedFrom d r D n next).getD []

/-- The marker expected after one has been passed. -/
def State.beyondOf (s : State) (d : Side) (dir : Option Dir) (e : Marker) : Option Nat :=
  dir.bind fun r => s.expectBeyond d r (e.depth r)

/-- `k` of the passed markers have been charged to a side, one after the other (R76). -/
structure Misses (d : Side) (passed : List Marker) (s t : State) (k : Nat) : Prop where
  le : k ≤ passed.length
  before : ∀ j, j < k → (Nat.repeat charged j ((s.depth.get d).lock, (s.depth.get d).rejects)).1 ≠ .lost
  stops : k < passed.length → (Nat.repeat charged k ((s.depth.get d).lock, (s.depth.get d).rejects)).1 = .lost
  count : ((t.depth.get d).lock, (t.depth.get d).rejects) =
    Nat.repeat charged k ((s.depth.get d).lock, (s.depth.get d).rejects)
  next : (t.depth.get d).next = if (t.depth.get d).lock = .lost then none else
    (passed.take k).foldl (fun _ e => s.beyondOf d (s.depth.get d).lastDir e) (s.depth.get d).next
  lastDir : (t.depth.get d).lastDir = if (t.depth.get d).lock = .lost then none else (s.depth.get d).lastDir
  raises : (t.depth.get d).lock = .lost → 12 ∈ t.trip.causes ∧ t.latched .s1 = true
  missed : Counted (missedOf d) (Nat.repeat (satSucc Config.max16) k) s t

theorem Counted.rfl {α : Type} {part : PerSide SideCounts → α} {s : State} : Counted part id s s :=
  ⟨id, fun w v hw hv => by cases hw.symm.trans hv; exact .refl _⟩

/-- With nothing passed there is nothing to charge. -/
theorem Misses.none {d : Side} {s : State} (h : (s.depth.get d).lock ≠ .lost) : Misses d [] s s 0 :=
  ⟨Nat.le_refl _, nofun, nofun, .refl _, (if_neg h).symm, (if_neg h).symm, fun hl => absurd hl h, .rfl⟩

theorem State.judgeMisses_of_unreferenced {s : State} {d : Side} (h : (s.depth.get d).lock.referenced = false) (n : Nat) :
    s.judgeMisses d n = s := by
  cases n with
  | zero => rfl
  | succ n =>
    unfold State.judgeMisses
    dsimp only
    split
    next => exact if_neg (by rw [h, Bool.false_and]; exact Bool.false_ne_true)
    next => rfl

/-- One marker missed: the next one is expected, and it counts as a rejection. -/
def State.missed (s : State) (d : Side) (e : Marker) (r : Dir) : State :=
  ((s.setTrack d { s.depth.get d with next := s.expectBeyond d r (e.depth r) }).countSide d addMissed).countReject d
    (some e.id)

section
variable (s : State) (d : Side) (e : Marker) (r : Dir)

theorem State.missed_own : (s.missed d e r).depth.get d =
    ({ s.depth.get d with next := s.expectBeyond d r (e.depth r) } : Track).rejected := by
  unfold State.missed
  rw [State.countReject_own, State.countSide_depth, State.setTrack_own]

theorem work_missed (h : (s.depth.get d).lock.referenced = true) : Work s (s.missed d e r) :=
  ((work_setNext s d _ h).trans (work_countSide _ d _)).trans (work_countReject _ d _)

theorem State.missed_counted : Counted (missedOf d) (satSucc Config.max16) s (s.missed d e r) := by
  have hset : Counted (missedOf d) id s
      (s.setTrack d { s.depth.get d with next := s.expectBeyond d r (e.depth r) }) := ⟨id, fun w v hw hv => by
        cases hw.symm.trans hv; rfl⟩
  have hcount (y : State) : Counted (missedOf d) (satSucc Config.max16) y (y.countSide d addMissed) :=
    counted_countSide y d fun n => by unfold missedOf; rw [PerSide.get_set_self]; rfl
  have hreject (y : State) : Counted (missedOf d) id y (y.countReject d (some e.id)) :=
    (keeps_countReject (k := { Watch.nothing with count := fun n => n.get d }) y d (some e.id) id).counted
      fun _ _ h => congrArg SideCounts.missed h
  exact (hset.trans (hcount _)).trans (hreject _)

theorem State.missed_raises (h : ((s.missed d e r).depth.get d).lock = .lost) :
    12 ∈ (s.missed d e r).trip.causes ∧ (s.missed d e r).latched .s1 = true := by
  have hown : ((s.setTrack d { s.depth.get d with next := s.expectBeyond d r (e.depth r) }).countSide d addMissed).depth.get d =
      { s.depth.get d with next := s.expectBeyond d r (e.depth r) } := by rw [State.countSide_depth, State.setTrack_own]
  refine State.countReject_raises _ d _ ?_
  rw [hown]
  rw [State.missed_own] at h
  refine Classical.byContradiction fun hno => ?_
  unfold Track.rejected at h
  rw [if_neg hno] at h
  contradiction

end

/-- What follows a miss of the first marker passed. -/
theorem Misses.cons {d : Side} {e : Marker} {r : Dir} {passed : List Marker} {s t : State} {k : Nat}
    (hlock : (s.depth.get d).lock ≠ .lost) (hdir : (s.depth.get d).lastDir = some r) (hwork : Work s (s.missed d e r))
    (hlive : ((s.missed d e r).depth.get d).lock ≠ .lost) (h : Misses d passed (s.missed d e r) t k) :
    Misses d (e :: passed) s t (k + 1) := by
  have hown := s.missed_own d e r
  have hcharged : (((s.missed d e r).depth.get d).lock, ((s.missed d e r).depth.get d).rejects) =
      charged ((s.depth.get d).lock, (s.depth.get d).rejects) := by rw [hown]; exact Track.rejected_charged _
  have hrejected : ({ s.depth.get d with next := s.expectBeyond d r (e.depth r) } : Track).rejected.lock ≠ .lost := hown ▸ hlive
  have hkept : ((s.missed d e r).depth.get d).next = s.expectBeyond d r (e.depth r) ∧
      ((s.missed d e r).depth.get d).lastDir = some r := by
    rw [hown]
    unfold Track.rejected at hrejected ⊢
    split at hrejected
    next => exact absurd rfl hrejected
    next hno => rw [if_neg hno]; exact ⟨rfl, hdir⟩
  have hbeyond (x : Marker) : (s.missed d e r).beyondOf d ((s.missed d e r).depth.get d).lastDir x =
      s.beyondOf d (s.depth.get d).lastDir x := by
    unfold State.beyondOf State.expectBeyond
    rw [hkept.2, hdir, hwork.markersOf]
  obtain ⟨hle, hbefore, hstops, hcount, hnext, hlast, hraises, hmissed⟩ := h
  rw [hcharged] at hbefore hstops hcount
  refine ⟨Nat.succ_le_succ hle, fun j hj => ?_, fun hk => ?_, ?_, ?_, ?_, hraises, ?_⟩
  · cases j with
    | zero => exact hlock
    | succ j =>
      rw [repeat_charged_succ]
      exact hbefore j (by omega)
  · rw [repeat_charged_succ]
    exact hstops (Nat.lt_of_succ_lt_succ hk)
  · rw [repeat_charged_succ]
    exact hcount
  · rw [hnext, List.take_succ_cons, List.foldl_cons, hkept.1]
    simp only [hbeyond]
    rw [show s.beyondOf d (s.depth.get d).lastDir e = s.expectBeyond d r (e.depth r) by rw [hdir]; rfl]
  · rw [hlast, hkept.2, hdir]
  · rw [← repeat_satSucc_comp]
    exact (s.missed_counted d e r).trans hmissed

/-- A miss that takes the side LOST is the last one charged. -/
theorem Misses.last {d : Side} {e : Marker} {r : Dir} (passed : List Marker) {s : State}
    (hlock : (s.depth.get d).lock ≠ .lost) (hlost : ((s.missed d e r).depth.get d).lock = .lost) :
    Misses d (e :: passed) s (s.missed d e r) 1 := by
  have hown := s.missed_own d e r
  have hcharged : (((s.missed d e r).depth.get d).lock, ((s.missed d e r).depth.get d).rejects) =
      charged ((s.depth.get d).lock, (s.depth.get d).rejects) := by rw [hown]; exact Track.rejected_charged _
  have hgone : ((s.missed d e r).depth.get d).next = Option.none ∧
      ((s.missed d e r).depth.get d).lastDir = Option.none := by
    rw [hown] at hlost ⊢
    unfold Track.rejected at hlost ⊢
    split at hlost
    next h => rw [if_pos h]; exact ⟨rfl, rfl⟩
    next => contradiction
  refine ⟨Nat.succ_le_succ (Nat.zero_le _), fun j hj => ?_, fun _ => ?_, hcharged, ?_, ?_, fun _ => s.missed_raises d e r hlost,
    s.missed_counted d e r⟩
  · obtain rfl : j = 0 := by omega
    exact hlock
  · exact (congrArg Prod.fst hcharged).symm.trans hlost
  · rw [hgone.1, if_pos hlost]
  · rw [hgone.2, if_pos hlost]

theorem Work.passedFrom {s t : State} (h : Work s t) (d : Side) (r : Dir) (D : Int) (n : Nat) (next : Option Nat) :
    t.passedFrom d r D n next = s.passedFrom d r D n next := by
  have hpasses (e : Marker) : t.passes r D e = s.passes r D e := by unfold State.passes; rw [h.sup]
  have hbeyond (e : Marker) : t.expectBeyond d r (e.depth r) = s.expectBeyond d r (e.depth r) := by
    unfold State.expectBeyond; rw [h.markersOf]
  induction n generalizing next with
  | zero => rfl
  | succ n ih =>
    unfold State.passedFrom
    rw [h.markersOf]
    split
    next => rfl
    next => rw [hpasses, hbeyond, ih]

theorem State.hasPassed_eq (s : State) (d : Side) (r : Dir) (e : Marker) :
    s.hasPassed d r e = s.passes r (s.depth.get d).D e := by cases r <;> rfl

theorem State.passedFrom_succ {s : State} {d : Side} {e : Marker} (he : s.expected d = some e) (r : Dir) (D : Int) (n : Nat) :
    s.passedFrom d r D (n + 1) (s.depth.get d).next =
      if s.passes r D e then e :: s.passedFrom d r D n (s.expectBeyond d r (e.depth r)) else [] := by
  unfold State.expected at he
  rw [State.passedFrom, he]

theorem State.judgeMisses_succ {s : State} {d : Side} {e : Marker} {r : Dir} (he : s.expected d = some e)
    (hdir : (s.depth.get d).lastDir = some r) (href : (s.depth.get d).lock.referenced = true) (n : Nat) :
    s.judgeMisses d (n + 1) =
      if s.passes r (s.depth.get d).D e then (s.missed d e r).judgeMisses d n else s := by
  rw [State.judgeMisses]
  dsimp only
  rw [hdir, he, ← s.hasPassed_eq d]
  dsimp only
  unfold State.missed
  rw [href, Bool.true_and]
  dsimp only
  rw [hdir]

/-- A side in LOCKED or SUSPECT is charged with the markers it has passed, up to the one that takes it LOST (R76). -/
theorem State.judgeMisses_charges (d : Side) (n : Nat) (s : State) (href : (s.depth.get d).lock.referenced = true) :
    ∃ k, Misses d (s.passedAt d n (s.depth.get d).lastDir (s.depth.get d).D (s.depth.get d).next) s (s.judgeMisses d n) k := by
  have hlock : (s.depth.get d).lock ≠ .lost := fun h => by rw [h] at href; contradiction
  induction n generalizing s with
  | zero =>
    refine ⟨0, ?_⟩
    have hpassed : s.passedAt d 0 (s.depth.get d).lastDir (s.depth.get d).D (s.depth.get d).next = [] := by
      unfold State.passedAt
      cases (s.depth.get d).lastDir <;> rfl
    rw [hpassed]
    exact .none hlock
  | succ n ih =>
    cases hdir : (s.depth.get d).lastDir with
    | none =>
      refine ⟨0, ?_⟩
      have hstops : s.judgeMisses d (n + 1) = s := by rw [State.judgeMisses]; dsimp only; rw [hdir]
      rw [hstops]
      exact .none hlock
    | some r =>
      show ∃ k, Misses d (s.passedFrom d r (s.depth.get d).D (n + 1) (s.depth.get d).next) s (s.judgeMisses d (n + 1)) k
      cases he : s.expected d with
      | none =>
        refine ⟨0, ?_⟩
        have hstops : s.judgeMisses d (n + 1) = s := by rw [State.judgeMisses]; dsimp only; rw [hdir, he]
        have hpassed : s.passedFrom d r (s.depth.get d).D (n + 1) (s.depth.get d).next = [] := by
          unfold State.expected at he
          unfold State.passedFrom
          rw [he]
        rw [hstops, hpassed]
        exact .none hlock
      | some e =>
        rw [State.passedFrom_succ he, State.judgeMisses_succ he hdir href]
        split
        next =>
          by_cases hlost : ((s.missed d e r).depth.get d).lock = .lost
          · refine ⟨1, ?_⟩
            rw [State.judgeMisses_of_unreferenced (by rw [hlost]; rfl)]
            exact .last _ hlock hlost
          · have hown := s.missed_own d e r
            have hwork := work_missed s d e r href
            have hkept : ((s.missed d e r).depth.get d).lock = .suspect ∧ ((s.missed d e r).depth.get d).lastDir = some r ∧
                ((s.missed d e r).depth.get d).D = (s.depth.get d).D ∧
                ((s.missed d e r).depth.get d).next = s.expectBeyond d r (e.depth r) := by
              rw [hown] at hlost ⊢
              unfold Track.rejected at hlost ⊢
              split at hlost
              next => exact absurd rfl hlost
              next hno => rw [if_neg hno]; exact ⟨rfl, hdir, rfl, rfl⟩
            obtain ⟨hsuspect, hdir', hD, hnext⟩ := hkept
            obtain ⟨k, hk⟩ := ih (s.missed d e r) (by rw [hsuspect]; rfl) hlost
            rw [hdir', hD, hnext] at hk
            refine ⟨k + 1, .cons hlock hdir hwork hlost ?_⟩
            rw [← hwork.passedFrom]
            exact hk
        next => exact ⟨0, .none hlock⟩

end Sys2Proof.Machine
end


section
/-! The locks of the sides at a drum sample (R67, R72 to R77, R82). -/

namespace Sys2Proof.Machine

/-! ## One side's lock work in its parts -/

/-- The track of a side once its lock has moved on and its direction has followed (R67, R74, R75). -/
def State.headed (s : State) (d : Side) : Track := { s.motioned d with
  lastDir := if s.stationary d then (s.motioned d).lastDir else some (dirOfSpeed (s.speed d))
  next := if (if s.stationary d then (s.motioned d).lastDir else some (dirOfSpeed (s.speed d))) ≠ (s.motioned d).lastDir ∧
      (s.motioned d).lock.referenced = true then
    (if s.stationary d then (s.motioned d).lastDir else some (dirOfSpeed (s.speed d))).bind fun r =>
      s.expectBeyond d r (s.motioned d).D
  else (s.motioned d).next }

/-- The state of a drum sample when the misses of a side are judged. -/
def State.ahead (s : State) (d : Side) : State := (s.lockOnMotion d).followDirection d

theorem keeps_ahead (s : State) (d : Side) : Keeps { sideWatch d with track := fun _ => False } s (s.ahead d) :=
  (keeps_lockOnMotion s d id).trans (keeps_followDirection _ d id)

theorem work_ahead (s : State) (d : Side) : Work s (s.ahead d) := (work_lockOnMotion s d).trans (work_followDirection _ d)

theorem Work.expectBeyond {s t : State} (h : Work s t) (d : Side) (r : Dir) (D : Int) :
    t.expectBeyond d r D = s.expectBeyond d r D := by
  unfold State.expectBeyond; rw [h.markersOf]

theorem State.ahead_own (s : State) (d : Side) : (s.ahead d).depth.get d = s.headed d := by
  have hkeeps := (keeps_lockOnMotion (k := { sideWatch d with track := fun _ => False }) s d id).toKeepsBase
  have hwork := work_lockOnMotion s d
  unfold State.ahead
  rw [State.followDirection_own]
  unfold State.nextNow State.dirNow
  rw [State.lockOnMotion_own, hkeeps.stationary trivial, hkeeps.speed trivial]
  simp only [hwork.expectBeyond]
  rfl

/-- A track after the search distance of a sample, over its payout (R77). -/
def Track.searched (x : Track) (p dist : Int) : Track :=
  if x.lock = .searching ∨ x.lock = .aligning then { x with
    travelled := (x.travelled + mag (p - x.lastPayout)) % dist
    searches := (x.searches + ((x.travelled + mag (p - x.lastPayout)) / dist).toNat) % 64
    lastPayout := p
    searchFlag := x.searchFlag || decide (0 < (x.travelled + mag (p - x.lastPayout)) / dist) }
  else { x with lastPayout := p }

theorem Track.searched_keeps (x : Track) (p dist : Int) : (x.searched p dist).lock = x.lock ∧
    (x.searched p dist).next = x.next ∧ (x.searched p dist).lastDir = x.lastDir ∧
    (x.searched p dist).rejects = x.rejects ∧ (x.searched p dist).K = x.K ∧ (x.searched p dist).D = x.D := by
  unfold Track.searched
  split <;> exact ⟨rfl, rfl, rfl, rfl, rfl, rfl⟩

/-- The lock's work of a side that is not in LOCKED or SUSPECT when its misses are judged. -/
theorem State.sampleLock_of_unreferenced {s : State} {d : Side} (h : (s.headed d).lock.referenced = false) :
    s.sampleLock d = (s.ahead d).search d := by
  show ((s.ahead d).judgeMisses d _).search d = _
  rw [State.judgeMisses_of_unreferenced (by rw [State.ahead_own]; exact h)]

theorem State.sampleLock_own_of_unreferenced {s : State} {d : Side} (h : (s.headed d).lock.referenced = false) :
    (s.sampleLock d).depth.get d = (s.headed d).searched (s.payout d) s.sup.searchDistance := by
  rw [State.sampleLock_of_unreferenced h, State.search_own]
  unfold State.far
  have hpay : ((s.ahead d).drums.drum.get d).payoutMm = s.payout d := (keeps_ahead s d).toKeepsBase.payout trivial
  rw [hpay, (work_ahead s d).sup, State.ahead_own]
  rfl

/-- Of a side in LOCKED or SUSPECT some of the passed markers are charged. -/
theorem State.sampleLock_charges {s : State} {d : Side} (h : (s.headed d).lock.referenced = true) : ∃ k m,
    Misses d ((s.ahead d).passedAt d ((s.markersOf d).length + 1) (s.headed d).lastDir (s.headed d).D (s.headed d).next)
      (s.ahead d) m k ∧ s.sampleLock d = m.search d := by
  have hmisses := (s.ahead d).judgeMisses_charges d ((s.markersOf d).length + 1) (by rw [State.ahead_own]; exact h)
  rw [State.ahead_own] at hmisses
  obtain ⟨k, hk⟩ := hmisses
  exact ⟨k, _, hk, rfl⟩

/-- What the search distance of a side leaves. -/
theorem keeps_searchOwn (s : State) (d : Side) :
    Keeps { sideWatch d with track := fun _ => False, entry := fun _ => False } s (s.search d) :=
  keeps_search s d id id

/-- A search distance travelled sets REFERENCE SEARCH (R77). -/
theorem State.search_sets {s : State} {d : Side} (hlock : (s.depth.get d).lock = .searching ∨ (s.depth.get d).lock = .aligning)
    (hlap : 0 < s.far d / s.sup.searchDistance) (hflag : (s.depth.get d).searchFlag = false) :
    36 ∈ (s.search d).trip.causes ∧ .referenceSearch d ∈ (s.search d).trip.active := by
  obtain ⟨x, hx⟩ : ∃ x, s.search d = State.setAdvisory x (.referenceSearch d) := by
    unfold State.search
    dsimp only
    rw [if_pos hlock, if_pos ⟨hlap, by rw [hflag]; rfl⟩]
    exact ⟨_, rfl⟩
  obtain ⟨hcause, hentry, -, -⟩ := x.setAdvisory_sets (.referenceSearch d) rfl
  rw [hx]
  exact ⟨hcause, hentry⟩

/-! ## A side's lock work within the sample -/

/-- A watch of what a side has missed. -/
def missedWatch (d : Side) : Watch := { Watch.nothing with count := fun n => { n.get d with disagreements := 0 } }

/-- A track whose depths and hand-over a sample has formed. -/
def Track.formedAs (x : Track) (D0 D u : Int) (l : Lock) : Track := { x with D0 := D0, D := D, u := u, sampledLock := l }

/-- The state `x` in which the lock work of a side begins, from `s` on, and what of that work stands at the end `t` of the
sample. -/
structure LockWork (s t : State) (d : Side) (x : State) : Prop where
  work : Work s x
  own : x.depth.get d = (s.depth.get d).formedAs (x.depth.get d).D0 (t.depth.get d).D (x.depth.get d).u
    (x.depth.get d).sampledLock
  latched : s.latched .s1 = true → x.latched .s1 = true
  counted : Counted (missedOf d) id s x
  speed : x.speed d = t.speed d
  drum : x.payout d = (t.drums.drum.get d).payoutMm ∧ (x.drums.drum.get d).state = (t.drums.drum.get d).state
  still : (t.drums.drum.get d).state = .lost → x.stationary d = true
  after : t.depth.get d = (x.sampleLock d).depth.get d
  causes : (x.sampleLock d).trip.causes ⊆ t.trip.causes
  latches : (x.sampleLock d).latched .s1 = true → t.latched .s1 = true
  entry : .referenceSearch d ∈ (x.sampleLock d).trip.active → .referenceSearch d ∈ t.trip.active
  runs : ∀ f, Counted (missedOf d) f x (x.sampleLock d) →
    s.WindRuns t fun w v => missedOf d v.counts = f (missedOf d w.counts)

/-- A drum has no speed in LOST (R29). -/
theorem SampleEnd.still {s t : State} (ht : SampleEnd s.atProof t) {d : Side} (h : (t.drums.drum.get d).state = .lost) :
    t.stationary d = true := by
  obtain ⟨r, l, hown⟩ := (State.drumOutcome ht d).own
  have hv : t.speed d = 0 := by
    unfold State.speed
    rw [hown] at h ⊢
    exact if_pos h
  unfold State.stationary
  rw [hv]
  rfl

theorem SampleEnd.lockWork {s t : State} (ht : SampleEnd s.atProof t) (d : Side) : ∃ x, LockWork s t d x := by
  obtain ⟨x, hwork, hbefore, hown, hlock⟩ := s.sampleDrums.sampleDepth_split d
  have hstill := fun h => ht.still (d := d) h
  have hafter : Keeps { sideWatch d with env := False, counters := False } (x.sampleLock d) s.atProof := by
    refine Keeps.trans ?_ ((keeps_sampleEnvelope s.sampleDrums.sampleDepth id id).trans (keeps_sampleWind _ id))
    exact ⟨{ hlock.toKeepsBase with env := fun h => h.elim, counters := fun h => h.elim }, hlock.runs, hlock.trips⟩
  have hdrums : Keeps (missedWatch d) s s.sampleDrums := by
    refine keeps_sampleDrums s (fun _ => id) id id (fun _ => id) fun e n => ?_
    cases d <;> cases e <;> rfl
  have hfrom := s.keeps_fromDrums
  have hpart {n m : PerSide SideCounts} (h : n.get d = m.get d) : missedOf d n = missedOf d m := congrArg SideCounts.missed h
  have hcounted : Counted (missedOf d) id s x :=
    (hdrums.counted fun n m h => by have := congrArg SideCounts.missed h; exact this).trans
      (hbefore.counted fun _ _ h => hpart h)
  have hwhole : Keeps .nothing s s.atProof := (keeps_sampleDrums s (fun _ => id) id id (fun _ => id) fun _ _ => rfl).trans
    ((keeps_sampleDepth _ (fun _ => id) (fun _ => id) fun _ _ => rfl).trans
      ((keeps_sampleEnvelope _ id id).trans (keeps_sampleWind _ id)))
  have htrack := hafter.track d rfl
  obtain ⟨hside, -, -⟩ := s.sampleDrums_side d
  generalize s.atProof = u at *
  have hformed : (t.depth.get d).D = (x.depth.get d).D := by
    rw [ht.depth, htrack]
    have hfour := x.sampleLock_formed d
    exact congrArg (fun q => q.2.1) hfour
  have hdrum : u.drums.drum.get d = { x.drums.drum.get d with restDue := (u.drums.drum.get d).restDue } := by
    rw [hfrom.drum d trivial, hbefore.drum d trivial]
  refine ⟨x, (work_sampleDrums s).trans hwork, ?_, fun h => hbefore.latched (hdrums.latched h), hcounted, ?_, ?_, fun h => ?_,
    ?_, ?_, ?_, fun h => ?_, fun f hf => ?_⟩
  · rw [hformed, hown]
    unfold State.depthFormed
    rw [hside]
    rfl
  · rw [ht.speed]
    unfold State.speed
    rw [hdrum]
  · rw [ht.drums, hdrum]
    exact ⟨rfl, rfl⟩
  · rw [← hstill h]
    unfold State.stationary State.speed
    rw [ht.drums, hdrum]
  · rw [ht.depth, htrack]
  · rw [ht.causes]
    exact hafter.causes
  · rw [ht.latched]
    exact hafter.latched
  · exact (ht.entry _ rfl).mpr ((hafter.entry _ rfl fun hc => Side.ne_other d (Cause.referenceSearch.inj hc)).mpr h)
  · exact ht.windRuns (hwhole.windRuns (hcounted.trans (hf.trans (hafter.counted fun _ _ h => hpart h))))

end Sys2Proof.Machine
end


section
/-! What the lock of each side makes of a drum sample (R67, R72 to R77, R82). -/

namespace Sys2Proof.Machine

/-- The direction of a side after a sample in `t`: that of its motion, or the one it had (R75). -/
def Track.turned (x : Track) (v : Int) : Option Dir :=
  if 50 ≤ mag v then some (dirOfSpeed v) else x.lastDir

theorem keeps_afterMotion (s : State) (d : Side) : Keeps .nothing (s.lockOnMotion d) (s.sampleLock d) :=
  ((keeps_followDirection _ d id).trans (keeps_judgeMisses _ d _ id fun _ => rfl)).trans (keeps_search _ d id id)

section
variable {s t x : State} {d : Side} (h : LockWork s t d x)
include h

theorem LockWork.stationary : x.stationary d = decide (¬50 ≤ mag (t.speed d)) := by
  unfold State.stationary
  rw [h.speed]
  exact decide_eq_decide.mpr Int.not_le.symm

/-- A side whose drum is LOST (R74). -/
theorem LockWork.of_drumLost (hl : (t.drums.drum.get d).state = .lost) : (t.depth.get d).lock = .lost ∧
    ((s.depth.get d).lock ≠ .lost → (t.depth.get d).next = none ∧ (t.depth.get d).lastDir = none ∧
      (t.depth.get d).rejects = 0 ∧ 12 ∈ t.trip.causes ∧ t.latched .s1 = true) := by
  have hstill := h.still hl
  have hown := h.own
  have hheaded : x.headed d = x.motioned d := by
    unfold State.headed
    simp [hstill]
  have hmotioned : x.motioned d =
      if (s.depth.get d).lock = .lost then x.depth.get d else (x.depth.get d).lostNow := by
    unfold State.motioned
    rw [h.drum.2, hl, hown, hstill]
    by_cases hlock : (s.depth.get d).lock = .lost
    · rw [if_neg fun hand => hand.2 hlock, if_neg nofun, if_pos hlock]
    · rw [if_pos ⟨rfl, hlock⟩, if_neg hlock]
  have hlock : (x.headed d).lock = .lost := by
    rw [hheaded, hmotioned]
    split
    next hc => rw [hown]; exact hc
    next => rfl
  obtain ⟨hlocky, hnext, hlast, hrejects, -, -⟩ := (x.headed d).searched_keeps (x.payout d) x.sup.searchDistance
  rw [h.after, State.sampleLock_own_of_unreferenced (by rw [hlock]; rfl), hlocky, hnext, hlast, hrejects]
  refine ⟨hlock, fun hne => ?_⟩
  have hraise : x.lockOnMotion d = x.enterLost d none := by
    unfold State.lockOnMotion
    dsimp only
    rw [if_pos ⟨h.drum.2.trans hl, by rw [hown]; exact hne⟩]
  have hkeeps := keeps_afterMotion x d
  rw [hraise] at hkeeps
  obtain ⟨hcause, hlatch⟩ := x.enterLost_raises d none
  rw [hheaded, hmotioned, if_neg hne]
  exact ⟨rfl, rfl, rfl, h.causes (hkeeps.causes hcause), h.latches (hkeeps.latched hlatch)⟩

/-- Whether a side enters SEARCHING at the sample. -/
theorem LockWork.motioned (hd : (t.drums.drum.get d).state ≠ .lost) : x.motioned d =
    if 50 ≤ mag (t.speed d) ∧
      ((s.depth.get d).lock = .unreferenced ∨ (s.depth.get d).lock = .lost ∧ x.latched .s1 = false) then
      (x.depth.get d).searchingNow else x.depth.get d := by
  have hlock : (x.depth.get d).lock = (s.depth.get d).lock := by rw [h.own]; rfl
  unfold State.motioned
  rw [if_neg fun hand => hd (h.drum.2.symm.trans hand.1), h.stationary, hlock]
  simp only [decide_eq_false_iff_not, Classical.not_not]

/-- The track of a side with a drum that measures, once its direction has followed (R75). -/
theorem LockWork.headed (hd : (t.drums.drum.get d).state ≠ .lost) : x.headed d = { x.motioned d with
    lastDir := (s.depth.get d).turned (t.speed d)
    next := if (s.depth.get d).turned (t.speed d) ≠ (s.depth.get d).lastDir ∧ (x.motioned d).lock.referenced = true then
      ((s.depth.get d).turned (t.speed d)).bind fun r => s.expectBeyond d r (t.depth.get d).D
    else (s.depth.get d).next } := by
  have hkept : (x.motioned d).lastDir = (s.depth.get d).lastDir ∧ (x.motioned d).next = (s.depth.get d).next ∧
      (x.motioned d).D = (t.depth.get d).D := by
    rw [h.motioned hd, h.own]
    split <;> exact ⟨rfl, rfl, rfl⟩
  have hturned : (if x.stationary d then (s.depth.get d).lastDir else some (dirOfSpeed (x.speed d))) =
      (s.depth.get d).turned (t.speed d) := by
    unfold Track.turned
    rw [h.stationary, h.speed]
    by_cases hmoves : 50 ≤ mag (t.speed d) <;> simp [hmoves]
  unfold State.headed
  rw [hkept.1, hkept.2.1, hkept.2.2, hturned]
  simp only [h.work.expectBeyond]

/-- A side that is not in LOCKED or SUSPECT (R67, R75, R77). -/
theorem LockWork.of_unreferenced (hd : (t.drums.drum.get d).state ≠ .lost)
    (href : (s.depth.get d).lock.referenced = false) :
    ((t.depth.get d).lock = if 50 ≤ mag (t.speed d) ∧
      ((s.depth.get d).lock = .unreferenced ∨ (s.depth.get d).lock = .lost ∧ x.latched .s1 = false) then
        .searching else (s.depth.get d).lock) ∧
    (t.depth.get d).lastDir = (s.depth.get d).turned (t.speed d) ∧ (t.depth.get d).next = (s.depth.get d).next ∧
    (x.headed d).lock.referenced = false ∧
    t.depth.get d = (x.headed d).searched (x.payout d) x.sup.searchDistance := by
  have hlock : (x.headed d).lock = if 50 ≤ mag (t.speed d) ∧
      ((s.depth.get d).lock = .unreferenced ∨ (s.depth.get d).lock = .lost ∧ x.latched .s1 = false) then
        .searching else (s.depth.get d).lock := by
    rw [h.headed hd, h.motioned hd, h.own]
    split <;> rfl
  have hrefx : (x.headed d).lock.referenced = false := by
    rw [hlock]
    split
    · rfl
    · exact href
  have hsame : (x.motioned d).lock = (x.headed d).lock := by rw [h.headed hd]
  have hafter := h.after.trans (State.sampleLock_own_of_unreferenced hrefx)
  obtain ⟨hlocky, hnext, hlast, -, -, -⟩ := (x.headed d).searched_keeps (x.payout d) x.sup.searchDistance
  refine ⟨?_, ?_, ?_, hrefx, hafter⟩
  · rw [hafter, hlocky, hlock]
  · rw [hafter, hlast, h.headed hd]
  · rw [hafter, hnext, h.headed hd, if_neg fun hand => ?_]
    rw [hsame, hrefx] at hand
    exact nomatch hand.2

/-- A side in SEARCHING or ALIGNING (R77). -/
theorem LockWork.of_searching (hd : (t.drums.drum.get d).state ≠ .lost)
    (hlock : (s.depth.get d).lock = .searching ∨ (s.depth.get d).lock = .aligning) :
    let far := (s.depth.get d).travelled + mag ((t.drums.drum.get d).payoutMm - (s.depth.get d).lastPayout)
    (t.depth.get d).K = (s.depth.get d).K ∧ (t.depth.get d).travelled = far % s.sup.searchDistance ∧
      (t.depth.get d).searches = ((s.depth.get d).searches + (far / s.sup.searchDistance).toNat) % 64 ∧
      (t.depth.get d).searchFlag = ((s.depth.get d).searchFlag || decide (0 < far / s.sup.searchDistance)) ∧
      (0 < far / s.sup.searchDistance → (s.depth.get d).searchFlag = false →
        36 ∈ t.trip.causes ∧ .referenceSearch d ∈ t.trip.active) := by
  intro far
  have hno : ¬(50 ≤ mag (t.speed d) ∧
      ((s.depth.get d).lock = .unreferenced ∨ (s.depth.get d).lock = .lost ∧ x.latched .s1 = false)) := by
    rcases hlock with hl | hl <;> rw [hl] <;> simp
  have href : (s.depth.get d).lock.referenced = false := by rcases hlock with hl | hl <;> rw [hl] <;> rfl
  obtain ⟨-, -, -, hrefx, hafter⟩ := h.of_unreferenced hd href
  have hheaded : (x.headed d).lock = (s.depth.get d).lock ∧ (x.headed d).K = (s.depth.get d).K ∧
      (x.headed d).travelled = (s.depth.get d).travelled ∧ (x.headed d).searches = (s.depth.get d).searches ∧
      (x.headed d).searchFlag = (s.depth.get d).searchFlag ∧ (x.headed d).lastPayout = (s.depth.get d).lastPayout := by
    rw [h.headed hd, h.motioned hd, if_neg hno, h.own]
    exact ⟨rfl, rfl, rfl, rfl, rfl, rfl⟩
  obtain ⟨hl, hK, htravelled, hsearches, hflag, hpay⟩ := hheaded
  have hsearched : t.depth.get d = { x.headed d with
      travelled := far % s.sup.searchDistance
      searches := ((s.depth.get d).searches + (far / s.sup.searchDistance).toNat) % 64
      lastPayout := x.payout d
      searchFlag := (s.depth.get d).searchFlag || decide (0 < far / s.sup.searchDistance) } := by
    rw [hafter]
    unfold Track.searched
    rw [if_pos (by rw [hl]; exact hlock), htravelled, hsearches, hflag, hpay, h.work.sup, h.drum.1]
  rw [hsearched]
  refine ⟨hK, rfl, rfl, rfl, fun hlap hf => ?_⟩
  have hfar : (x.ahead d).far d = far := by
    unfold State.far
    rw [State.ahead_own, htravelled, hpay]
    have hpayout : ((x.ahead d).drums.drum.get d).payoutMm = x.payout d := (keeps_ahead x d).toKeepsBase.payout trivial
    rw [hpayout, h.drum.1]
  obtain ⟨hcause, hentry⟩ := State.search_sets (s := x.ahead d) (d := d) (by rw [State.ahead_own, hl]; exact hlock)
    (by rw [hfar, (work_ahead x d).sup, h.work.sup]; exact hlap) (by rw [State.ahead_own, hflag]; exact hf)
  rw [← State.sampleLock_of_unreferenced hrefx] at hcause hentry
  exact ⟨h.causes hcause, h.entry hentry⟩

/-- The marker that a side in LOCKED or SUSPECT expects when its misses are judged (R75). -/
theorem LockWork.headed_of_referenced (hd : (t.drums.drum.get d).state ≠ .lost)
    (href : (s.depth.get d).lock.referenced = true) : (x.headed d).lock = (s.depth.get d).lock ∧
      (x.headed d).rejects = (s.depth.get d).rejects ∧ (x.headed d).D = (t.depth.get d).D ∧
      (x.headed d).lastDir = (s.depth.get d).turned (t.speed d) ∧
      (x.headed d).next = if (s.depth.get d).turned (t.speed d) = (s.depth.get d).lastDir then (s.depth.get d).next else
        ((s.depth.get d).turned (t.speed d)).bind fun r => s.expectBeyond d r (t.depth.get d).D := by
  have hno : ¬(50 ≤ mag (t.speed d) ∧
      ((s.depth.get d).lock = .unreferenced ∨ (s.depth.get d).lock = .lost ∧ x.latched .s1 = false)) := by
    intro hand
    rcases hand.2 with hl | hl
    · rw [hl] at href; contradiction
    · rw [hl.1] at href; contradiction
  have hown : x.motioned d = x.depth.get d := by rw [h.motioned hd, if_neg hno]
  rw [h.headed hd, hown, h.own]
  refine ⟨rfl, rfl, rfl, rfl, ?_⟩
  by_cases hsame : (s.depth.get d).turned (t.speed d) = (s.depth.get d).lastDir
  · exact (if_neg fun hand => hand.1 hsame).trans (if_pos hsame).symm
  · exact (if_pos ⟨hsame, href⟩).trans (if_neg hsame).symm

/-- A side in LOCKED or SUSPECT: the passed markers that it is charged with (R72, R73, R76). -/
theorem LockWork.of_referenced (hd : (t.drums.drum.get d).state ≠ .lost)
    (href : (s.depth.get d).lock.referenced = true) : ∃ start,
      (start = if (s.depth.get d).turned (t.speed d) = (s.depth.get d).lastDir then (s.depth.get d).next else
        ((s.depth.get d).turned (t.speed d)).bind fun r => s.expectBeyond d r (t.depth.get d).D) ∧
      ∃ passed, (passed = s.passedAt d ((s.markersOf d).length + 1) ((s.depth.get d).turned (t.speed d)) (t.depth.get d).D start) ∧
      ∃ k, k ≤ passed.length ∧
        (∀ j, j < k → (Nat.repeat charged j ((s.depth.get d).lock, (s.depth.get d).rejects)).1 ≠ .lost) ∧
        (k < passed.length → (Nat.repeat charged k ((s.depth.get d).lock, (s.depth.get d).rejects)).1 = .lost) ∧
        ((t.depth.get d).lock, (t.depth.get d).rejects) =
          Nat.repeat charged k ((s.depth.get d).lock, (s.depth.get d).rejects) ∧
        ((t.depth.get d).next = if (t.depth.get d).lock = .lost then none else
          (passed.take k).foldl (fun _ e => s.beyondOf d ((s.depth.get d).turned (t.speed d)) e) start) ∧
        ((t.depth.get d).lastDir = if (t.depth.get d).lock = .lost then none else (s.depth.get d).turned (t.speed d)) ∧
        ((t.depth.get d).lock = .lost → 12 ∈ t.trip.causes ∧ t.latched .s1 = true) ∧
        s.WindRuns t fun w v => missedOf d v.counts = Nat.repeat (satSucc Config.max16) k (missedOf d w.counts) := by
  obtain ⟨hlock, hrejects, hD, hlast, hnext⟩ := h.headed_of_referenced hd href
  obtain ⟨k, m, hmisses, hend⟩ := State.sampleLock_charges (s := x) (d := d) (by rw [hlock]; exact href)
  have hwork : Work s (x.ahead d) := h.work.trans (work_ahead x d)
  have hpassed : (x.ahead d).passedAt d ((x.markersOf d).length + 1) (x.headed d).lastDir (x.headed d).D (x.headed d).next =
      s.passedAt d ((s.markersOf d).length + 1) ((s.depth.get d).turned (t.speed d)) (t.depth.get d).D (x.headed d).next := by
    rw [hlast, hD, h.work.markersOf]
    unfold State.passedAt
    simp only [hwork.passedFrom]
  have hbeyond (r : Option Dir) (e : Marker) : (x.ahead d).beyondOf d r e = s.beyondOf d r e := by
    unfold State.beyondOf
    simp only [hwork.expectBeyond]
  obtain ⟨hle, hbefore, hstops, hcount, hnextm, hlastm, hraises, hmissed⟩ := hmisses
  rw [hpassed] at hle hstops hnextm
  rw [State.ahead_own, hlock, hrejects] at hbefore hstops hcount
  rw [State.ahead_own, hlast] at hnextm hlastm
  simp only [hbeyond] at hnextm
  have hkeeps := keeps_searchOwn m d
  have hy : t.depth.get d = (m.depth.get d).searched (m.payout d) m.sup.searchDistance := by
    rw [h.after, hend, State.search_own]
    rfl
  obtain ⟨hly, hny, hldy, hry, -, -⟩ := (m.depth.get d).searched_keeps (m.payout d) m.sup.searchDistance
  have hsame : (t.depth.get d).lock = (m.depth.get d).lock := by rw [hy, hly]
  have hcountt : (t.depth.get d).rejects = (m.depth.get d).rejects := by rw [hy, hry]
  have hexpects : (t.depth.get d).next = (m.depth.get d).next := by rw [hy, hny]
  have hheads : (t.depth.get d).lastDir = (m.depth.get d).lastDir := by rw [hy, hldy]
  refine ⟨_, hnext, _, rfl, k, hle, hbefore, hstops, ?_, ?_, ?_, fun hl => ?_, ?_⟩
  · rw [hsame, hcountt, hcount]
  · rw [hsame, hexpects, hnextm]
  · rw [hsame, hheads, hlastm]
  · obtain ⟨hcause, hlatch⟩ := hraises (hsame ▸ hl)
    rw [← hend] at hkeeps
    exact ⟨h.causes (hkeeps.causes hcause), h.latches (hkeeps.latched hlatch)⟩
  · refine h.runs _ ?_
    rw [hend]
    have hahead : Counted (missedOf d) id x (x.ahead d) :=
      (keeps_ahead x d).counted fun _ _ hc => congrArg SideCounts.missed hc
    have hsearch : Counted (missedOf d) id m (m.search d) := hkeeps.counted fun _ _ hc => congrArg SideCounts.missed hc
    exact (hahead.trans hmissed).trans hsearch

end

/-- Settles O38: each side by the state of its drum and of its lock, the charged markers one after the other. -/
theorem locksFollowTheDrumSamples : Obligations.LocksFollowTheDrumSamples := by
  refine fun s => State.answers_drumSample fun t ht d => ?_
  obtain ⟨b, h⟩ := ht.lockWork d
  intro x y drumLost moves dir
  have hdir : dir = (s.depth.get d).turned (t.speed d) := rfl
  have hstays : ∀ hd : ¬drumLost, x.lock.referenced = false →
      y.lock = if moves ∧ (x.lock = .unreferenced ∨ x.lock = .lost ∧ b.latched .s1 = false) then .searching else x.lock :=
    fun hd href => (h.of_unreferenced hd href).1
  refine ⟨h.of_drumLost, fun hd hl => ?_, fun hd hl hwait => ?_, fun hd hl hm hclear => ?_, fun hd => ?_,
    fun hd href => (h.of_unreferenced hd href).2.2.1, fun hd href => ?_, fun hd hl hpos => ?_⟩
  · rw [hstays hd (by rw [hl]; rfl), hl]
    by_cases hm : moves
    · rw [if_pos ⟨hm, .inl rfl⟩, if_pos hm]
    · rw [if_neg fun hand => hm hand.1, if_neg hm]
  · rw [hstays hd (by rw [hl]; rfl), hl, if_neg]
    rintro ⟨hm, hun | hlost⟩
    · contradiction
    · rcases hwait with hno | hlatched
      · exact hno hm
      · rw [h.latched hlatched] at hlost
        exact nomatch hlost.2
  · have hclearx : b.latched .s1 = false := by
      refine Classical.byContradiction fun hlatched => ?_
      have hkeeps := (keeps_lockOnMotion (k := .nothing) b d id).trans (keeps_afterMotion b d)
      exact nomatch (h.latches (hkeeps.latched (eq_true_of_ne_false hlatched))).symm.trans hclear
    rw [hstays hd (by rw [hl]; rfl), if_pos ⟨hm, .inr ⟨hl, hclearx⟩⟩]
  · cases href : x.lock.referenced with
    | false =>
      have hnot : ¬(y.lock = .lost ∧ x.lock ≠ .lost) := fun hand => by
        have hlocky := hstays hd href
        rw [hand.1] at hlocky
        split at hlocky
        · contradiction
        · exact hand.2 hlocky.symm
      rw [if_neg hnot]
      exact (h.of_unreferenced hd href).2.1
    | true =>
      obtain ⟨-, -, -, -, -, -, -, -, -, -, hlast, -⟩ := h.of_referenced hd href
      have hne : x.lock ≠ .lost := fun hl => by rw [hl] at href; contradiction
      rw [hdir]
      refine hlast.trans ?_
      by_cases hl : y.lock = .lost
      · rw [if_pos hl, if_pos ⟨hl, hne⟩]
      · rw [if_neg hl, if_neg fun hand => hl hand.1]
  · obtain ⟨start, hstart, passed, hpassed, k, hle, hbefore, hstops, hcount, hnext, -, hraises, hruns⟩ := h.of_referenced hd href
    subst hpassed hstart
    refine ⟨k, hle, hbefore, hstops, hcount, hnext, hraises, fun w hw => ⟨(hruns w hw).1, fun v hv => ?_⟩⟩
    refine ((hruns w hw).2 v hv).trans ?_
    by_cases hk : k = 0
    · rw [hk]
      rfl
    · rw [repeat_satSucc _ _ _ hk, if_neg hk]
      rfl
  · have href : x.lock.referenced = false := by rcases hl with hs | hs <;> rw [hs] <;> rfl
    obtain ⟨hK, htravelled, hsearches, hflag, hsets⟩ := h.of_searching hd hl
    intro far laps
    have hlaps : 0 < laps ↔ 0 < far / s.sup.searchDistance := Int.lt_toNat
    refine ⟨?_, hK, htravelled, hsearches, ?_, fun hlap hf => hsets (hlaps.mp hlap) hf⟩
    · rw [hstays hd href, if_neg]
      rcases hl with hs | hs <;> simp [hs]
    · rw [decide_eq_decide.mpr hlaps]
      exact hflag

end Sys2Proof.Machine
end


section
/-! A marker edge that the other side claims with an arbitration of its own (R79, R121, R36). -/

namespace Sys2Proof.Machine

/-- A table of default values with one marker for each side on line 2: for side 1 at 300 mm, for side 2 at 0. -/
def twoMarkers : ActiveTable where
  records := []
  check := 0
  clamps := []
  eff := {
    winder := defaultWinder
    sup := defaultSup
    side := ⟨defaultSide, defaultSide⟩
    wraps := ⟨[], []⟩
    stations := []
    markers := [⟨1, 2, .one, 300, 300⟩, ⟨2, 2, .two, 0, 0⟩]
    zones := []
    modes := defaultModes }

/-- A drum in DIVERGED that descends at 300 mm/s, its rest payout taken, its first encoder FAILED or not. -/
def divergedDrum (failed : Bool) : Drum := { Drum.atPowerOn 0 with
  enc := ⟨⟨0, failed⟩, ⟨0, false⟩⟩, state := .diverged, v := 300, restDue := false }

/-- An ACCEPTED wind of side 1. -/
def acceptedWind : OpenWind where
  phase := .accepted
  number := 1
  mode := .rock
  lead := .one
  destination := 1
  target := 100000
  dir := .descending
  startPayout := 0
  furthest := 0
  start := some 30000
  dwell := none
  stop := none
  inRecovery := false
  origin := none
  duration := 0
  peakSpeed := 0
  peakUsage := 0
  counts := ⟨⟨0, 0, 0, 0, 0⟩, ⟨0, 0, 0, 0, 0⟩⟩
  firstTrip := none

/-- Both sides LOCKED and descending at a depth of 0, both drums in DIVERGED, every stage clear and an ACCEPTED wind open. The
marker of side 1 lies 300 mm away, beyond the capture band of 250 mm; that of side 2 lies at its depth. The first encoder of
drum 2 is FAILED already, as no step leaves it in DIVERGED (O59). -/
def tornApart : State := { State.reset with
  table := { State.reset.table with active := some twoMarkers }
  drums := { State.reset.drums with drum := ⟨divergedDrum false, divergedDrum true⟩ }
  depth := ⟨{ Track.atPowerOn 0 with lock := .locked }, { Track.atPowerOn 0 with lock := .locked }⟩
  trip := { TripUnit.atPowerOn with latch := ⟨.clear, .clear, .clear⟩ }
  wind := { WindUnit.atPowerOn with current := some acceptedWind } }

/-- What the edge leaves: the claim of side 2 fails its second encoder too, DRUM LOST closes the ACCEPTED wind, and the
closure marks the rest payouts of both drums. -/
theorem tornApart_edge : ∃ t, exec (.markerEdge 2) tornApart = .next t ∧ t.drums.drum.two.state = .lost ∧
    t.wind.current = none ∧ t.drums.drum.one.restDue = true := ⟨_, rfl, rfl, rfl, rfl⟩

/-- Drum 1 fits the health of its encoders and side 1 arbitrates; both its encoders stand 300 mm from the marker. -/
theorem tornApart_arbitrates : tornApart.arbitrates .one = true ∧ (tornApart.drums.drum.get .one).Fits ∧
    tornApart.stationary .one = false ∧ tornApart.sup.capture < mag 300 := by
  refine ⟨by decide, ?_, by decide, by decide⟩
  unfold Drum.Fits
  decide

/-- Refutes O49: its last clause lets an edge beyond the capture band, claimed by the other side, leave an arbitrating side's
drum as it was. That other side arbitrates too, and only drum `d` is said to fit its encoders: when the other drum's kept
encoder is its last healthy one to fail, its entry to LOST closes an ACCEPTED wind and marks the rest payout of drum `d`. -/
theorem not_unclaimedEdgesCountAgainstTheSide : ¬ Obligations.UnclaimedEdgesCountAgainstTheSide := by
  intro h
  obtain ⟨harbitrates, hfits, hmoves, hbeyond⟩ := tornApart_arbitrates
  obtain ⟨u, hu, -, -, hmarked⟩ := tornApart_edge
  obtain ⟨-, harbitrated⟩ := h 2 tornApart .one rfl hmoves nofun
  obtain ⟨t, ht, -, -, hclaimed⟩ :=
    harbitrated harbitrates hfits ⟨1, 2, .one, 300, 300⟩ (by decide) ⟨1, 2, .one, 300, 300⟩ (by decide)
  obtain ⟨-, hdrum⟩ := hclaimed hbeyond (by decide)
  cases ht.symm.trans hu
  have hrest : u.drums.drum.one.restDue = false := congrArg Drum.restDue hdrum
  rw [hmarked] at hrest
  contradiction

end Sys2Proof.Machine
end


section
/-! Accepted edges: what one side's settlement leaves of the rest, and its own track, counts and advisories (R68 to R71, R75,
R77, R127). -/

namespace Sys2Proof.Machine

/-! ## What the settlement of an edge keeps -/

section
variable {k : Watch} (s : State) (d : Side)

theorem keeps_handMissed (n : Nat) (hc : ∀ f, k.Ignores d f) : Keeps k s (s.handMissed d n) := by
  induction n generalizing s with
  | zero => exact .rfl
  | succ n ih => exact (keeps_countSide s d addMissed (hc _)).trans (ih _)

theorem keeps_judgeClamp (c : Bool) (h : ¬k.track d) (he : ¬k.entry (.correctionLimit d)) : Keeps k s (s.judgeClamp d c) :=
  .ite ((keeps_setTrack s d _ h).trans (keeps_setAdvisory _ _ he))
    (.onlyIf ((keeps_setTrack s d _ h).trans (keeps_clearAdvisory _ _ rfl he)))

theorem keeps_clearSearch (h : ¬k.track d) (he : ¬k.entry (.referenceSearch d)) : Keeps k s (s.clearSearch d) :=
  .onlyIf ((keeps_setTrack s d _ h).trans (keeps_clearAdvisory _ _ rfl he))

theorem keeps_acceptEdge (dir : Dir) (m : Marker) (r : Int) (h : ¬k.track d) (he : ¬k.entry (.correctionLimit d))
    (he' : ¬k.entry (.referenceSearch d)) (hc : ∀ f, k.Ignores d f) : Keeps k s (s.acceptEdge d dir m r) := by
  have hhanded := (keeps_countSide s d addAccepted (hc _)).trans
    (keeps_countSide _ d (addCorrection (s.clampK ((s.depth.get d).K + r) - (s.depth.get d).K)) (hc _))
  unfold State.acceptEdge
  dsimp only
  split
  next => exact (hhanded.trans (keeps_changeTrack _ d _ _ h)).trans (keeps_judgeClamp _ d _ h he)
  next =>
    exact ((hhanded.trans (keeps_changeTrack _ d _ _ h)).trans (keeps_judgeClamp _ d _ h he)).trans
      (keeps_clearSearch _ d h he')
  next =>
    exact ((hhanded.trans (keeps_handMissed _ d _ hc)).trans (keeps_changeTrack _ d _ _ h)).trans (keeps_judgeClamp _ d _ h he)
  next =>
    exact (((hhanded.trans (keeps_handMissed _ d _ hc)).trans (keeps_changeTrack _ d _ _ h)).trans
      (keeps_judgeClamp _ d _ h he)).trans (keeps_clearSearch _ d h he')
  next => exact .rfl
  next => exact .rfl

theorem keeps_rejectEdge (m : Marker) (h : ¬k.track d) (hc : ∀ f, k.Ignores d f) : Keeps k s (s.rejectEdge d m) := by
  have hhanded := keeps_countSide s d addRejected (hc _)
  unfold State.rejectEdge
  dsimp only
  split
  next => exact hhanded
  next => exact (hhanded.trans (keeps_countSide _ d _ (hc _))).trans (keeps_changeTrack _ d _ _ h)
  next => exact hhanded.trans (keeps_countReject _ d _ h)
  next => exact hhanded.trans (keeps_countReject _ d _ h)
  next => exact .rfl
  next => exact .rfl

theorem keeps_strayEdge (h : ¬k.track d) (hc : ∀ f, k.Ignores d f) : Keeps k s (s.strayEdge d) :=
  .onlyIf ((keeps_countSide s d _ (hc _)).trans (keeps_countReject _ d _ h))

theorem keeps_failOther (kept : Option Twin) (h : ¬k.drum d) (hd : ¬k.degrade) (he : ¬k.entry (.encoderDisagreement d)) :
    Keeps k s (s.failOther d kept) := by
  unfold State.failOther
  split
  next => exact .rfl
  next => exact keeps_failEncoders s d _ _ h hd he
  next => exact keeps_failEncoders s d _ _ h hd he

theorem keeps_failBoth (kept : Option Twin) (h : ¬k.drum d) (hd : ¬k.degrade) (he : ¬k.entry (.encoderDisagreement d)) :
    Keeps k s (s.failBoth d kept) := by
  unfold State.failBoth
  split
  next => exact .rfl
  next => exact keeps_failEncoders s d _ _ h hd he

theorem keeps_settleSide (claimed marked : Bool) (p : EdgePart) (h : ¬k.track d) (hdrum : ¬k.drum d) (hd : ¬k.degrade)
    (he : ¬k.entry (.correctionLimit d)) (he' : ¬k.entry (.referenceSearch d)) (he'' : ¬k.entry (.encoderDisagreement d))
    (hc : ∀ f, k.Ignores d f) : Keeps k s (s.settleSide d claimed marked p) := by
  unfold State.settleSide
  split
  next => exact .rfl
  next => exact .unless (keeps_strayEdge s d h hc)
  next =>
    exact .ite ((keeps_failOther s d _ hdrum hd he'').trans (keeps_acceptEdge _ d _ _ _ h he he' hc))
      (.unless ((keeps_failBoth s d _ hdrum hd he'').trans (keeps_rejectEdge _ d _ h hc)))

end

/-- A watch of one side's track, counts and advisories over a marker edge. -/
def edgeWatch (d : Side) : Watch := { Watch.nothing with
  track := (· = d), entry := fun c => c = .correctionLimit d ∨ c = .referenceSearch d, count := fun n => n.get d }

theorem edgeWatch_ignores (d : Side) (f : SideCounts → SideCounts) : (edgeWatch d).Ignores d.other f :=
  fun _ => PerSide.get_set_ne _ _ _ _ (Side.ne_other d)

/-- The settlement of the other side leaves a side alone (R66). -/
theorem keeps_settleOther (s : State) (d : Side) (claimed marked : Bool) (p : EdgePart) :
    Keeps (edgeWatch d) s (s.settleSide d.other claimed marked p) := by
  have htrack : ¬(edgeWatch d).track d.other := Side.other_ne d
  have hclamp : ¬(edgeWatch d).entry (.correctionLimit d.other) := by
    rintro (h | h)
    · exact Side.other_ne d (Cause.correctionLimit.inj h)
    · contradiction
  have hsearch : ¬(edgeWatch d).entry (.referenceSearch d.other) := by
    rintro (h | h)
    · contradiction
    · exact Side.other_ne d (Cause.referenceSearch.inj h)
  have hdisagree : ¬(edgeWatch d).entry (.encoderDisagreement d.other) := by
    rintro (h | h) <;> contradiction
  exact keeps_settleSide s _ _ _ _ htrack id id hclamp hsearch hdisagree (edgeWatch_ignores d)

/-! ## The advisories of an accepted edge (R71, R77) -/

section
variable (s : State) (d : Side)

theorem State.judgeClamp_own (c : Bool) : (s.judgeClamp d c).depth.get d = { s.depth.get d with limitFlag := c } := by
  have hset (x : State) (a : Cause) : (x.setAdvisory a).depth = x.depth := by rw [State.setAdvisory_eq]
  have hclear (x : State) (a : Cause) : (x.clearAdvisory a).depth = x.depth := by rw [State.clearAdvisory_eq]
  unfold State.judgeClamp
  dsimp only
  split
  next h => rw [hset, State.setTrack_own, (Bool.and_eq_true_iff.mp h).1]
  next h =>
    split
    next h' => rw [hclear, State.setTrack_own, (Bool.not_eq_true' c).mp (Bool.and_eq_true_iff.mp h').1]
    next h' =>
      have hsame : c = (s.depth.get d).limitFlag := by
        cases c <;> cases hflag : (s.depth.get d).limitFlag <;> simp [hflag] at h h' ⊢
      rw [hsame]

/-- CORRECTION LIMIT is set when the clamp has acted and cleared when it has not (R71). -/
theorem State.judgeClamp_advises (c : Bool) :
    (c = true → (s.depth.get d).limitFlag = false →
      35 ∈ (s.judgeClamp d c).trip.causes ∧ .correctionLimit d ∈ (s.judgeClamp d c).trip.active) ∧
    (c = false → (s.depth.get d).limitFlag = true → .correctionLimit d ∉ (s.judgeClamp d c).trip.active) := by
  constructor
  · intro hc hflag
    obtain ⟨x, hx⟩ : ∃ x, s.judgeClamp d c = State.setAdvisory x (.correctionLimit d) := by
      unfold State.judgeClamp
      dsimp only
      rw [if_pos (by rw [hc, hflag]; rfl)]
      exact ⟨_, rfl⟩
    obtain ⟨hcause, hentry, -, -⟩ := x.setAdvisory_sets (.correctionLimit d) rfl
    rw [hx]
    exact ⟨hcause, hentry⟩
  · intro hc hflag
    obtain ⟨x, hx⟩ : ∃ x, s.judgeClamp d c = State.clearAdvisory x (.correctionLimit d) := by
      unfold State.judgeClamp
      dsimp only
      rw [if_neg (by rw [hc]; exact Bool.false_ne_true), if_pos (by rw [hc, hflag]; rfl)]
      exact ⟨_, rfl⟩
    rw [hx]
    exact (x.clearAdvisory_clears (.correctionLimit d)).1

theorem State.clearSearch_own : (s.clearSearch d).depth.get d = { s.depth.get d with searchFlag := false } := by
  have hclear (x : State) (a : Cause) : (x.clearAdvisory a).depth = x.depth := by rw [State.clearAdvisory_eq]
  unfold State.clearSearch
  dsimp only
  split
  next => rw [hclear, State.setTrack_own]
  next h => rw [← eq_false_of_ne_true h]

/-- The end of a search clears REFERENCE SEARCH (R77). -/
theorem State.clearSearch_clears (h : (s.depth.get d).searchFlag = true) :
    .referenceSearch d ∉ (s.clearSearch d).trip.active ∧
      (s.clearSearch d).Holds (s.stamped (.alarm (.referenceSearch d) false)) := by
  have heq : s.clearSearch d =
      (s.setTrack d { s.depth.get d with searchFlag := false }).clearAdvisory (.referenceSearch d) := if_pos h
  obtain ⟨hgone, hheld⟩ := (s.setTrack d { s.depth.get d with searchFlag := false }).clearAdvisory_clears (.referenceSearch d)
  rw [heq]
  exact ⟨hgone, hheld⟩

end

end Sys2Proof.Machine
end


section
/-! What an accepted edge makes of its side (R68 to R71, R75, R77, R82, R127). -/

namespace Sys2Proof.Machine

/-! ## The counts of an accepted edge -/

theorem repeat_comp {α : Type} (f : α → α) (k : Nat) : Nat.repeat f k ∘ f = Nat.repeat f (k + 1) := by
  funext x
  induction k with
  | zero => rfl
  | succ k ih => exact congrArg f ih

theorem repeat_addMissed (k : Nat) (n : SideCounts) :
    Nat.repeat addMissed k n = { n with missed := Nat.repeat (satSucc Config.max16) k n.missed } := by
  induction k with
  | zero => rfl
  | succ k ih =>
    show addMissed (Nat.repeat addMissed k n) = _
    rw [ih]
    rfl

/-- The counts of one side in the record. -/
def countsOf (d : Side) (n : PerSide SideCounts) : SideCounts := n.get d

theorem counted_own (s : State) (d : Side) (f : SideCounts → SideCounts) : Counted (countsOf d) f s (s.countSide d f) :=
  counted_countSide s d fun _ => PerSide.get_set_self _ _ _

theorem counted_handMissed (s : State) (d : Side) (n : Nat) :
    Counted (countsOf d) (Nat.repeat addMissed n) s (s.handMissed d n) := by
  induction n generalizing s with
  | zero => exact .rfl
  | succ n ih =>
    rw [← repeat_comp]
    exact (counted_own s d addMissed).trans (ih _)

/-- The counts of a side after an accepted edge, with a change of K and some markers passed over (R127). -/
def SideCounts.took (change : Int) (missed : Nat) (n : SideCounts) : SideCounts := { n with
  accepted := satSucc Config.max16 n.accepted
  missed := Nat.repeat (satSucc Config.max16) missed n.missed
  correction := clamp (-Config.maxCorrection) Config.maxCorrection (n.correction + change) }

theorem SideCounts.took_eq (change : Int) (missed : Nat) (n : SideCounts) : n.took change missed = { n with
    accepted := min Config.max16 (n.accepted + 1)
    missed := if missed = 0 then n.missed else min Config.max16 (n.missed + missed)
    correction := clamp (-Config.maxCorrection) Config.maxCorrection (n.correction + change) } := by
  unfold SideCounts.took
  rw [satSucc_eq_min]
  by_cases h : missed = 0
  · rw [if_pos h, h]
    rfl
  · rw [if_neg h, repeat_satSucc _ _ _ h]

/-! ## The track of an accepted edge -/

/-- The track of a side whose K has moved at an accepted edge, its advisories apart (R69, R70, R75, R77). -/
def Track.moved (t : Track) (K : Int) (next : Option Nat) : Track :=
  if t.lock = .searching then { t with K := K, lock := .aligning }
  else if t.lock = .locked then { t with K := K, rejects := 0, next := next }
  else { t with K := K, lock := .locked, rejects := 0, travelled := 0, searches := 0, next := next }

theorem State.handMissed_frame (s : State) (d : Side) (n : Nat) : (s.handMissed d n).clock = s.clock ∧
    (s.handMissed d n).drums = s.drums ∧ (s.handMissed d n).depth = s.depth := by
  induction n generalizing s with
  | zero => exact ⟨rfl, rfl, rfl⟩
  | succ n ih =>
    obtain ⟨hclock, hdrums, hdepth⟩ := ih (s.countSide d addMissed)
    exact ⟨hclock.trans (s.countSide_clock d _), hdrums.trans (s.countSide_drums d _), hdepth.trans (s.countSide_depth d _)⟩

theorem State.changeTrack_frame (s : State) (d : Side) (t : Track) (marker : Option Nat) :
    (s.changeTrack d t marker).clock = s.clock ∧ (s.changeTrack d t marker).drums = s.drums := by
  unfold State.changeTrack
  dsimp only
  split
  next => exact ⟨rfl, rfl⟩
  next => rw [State.report_clock, State.report_drums]; exact ⟨rfl, rfl⟩

/-- Whether an accepted edge ends the search of a side. -/
@[reducible] def Track.relocks (t : Track) : Prop := t.lock = .aligning ∨ t.lock = .suspect

/-- The markers that an accepted edge counts as passed over (R75). -/
def State.overlooked (s : State) (d : Side) (dir : Dir) (m : Marker) : Nat :=
  if (s.depth.get d).lock.referenced then s.passedOver d dir m else 0

section
variable {s : State} {d : Side} {dir : Dir} {m : Marker} {r : Int}

/-- An accepted edge up to its advisories. -/
theorem State.acceptEdge_split (hun : (s.depth.get d).lock ≠ .unreferenced) (hlost : (s.depth.get d).lock ≠ .lost) :
    ∃ y, Keeps { edgeWatch d with track := fun _ => False, count := fun _ => ⟨0, 0, 0, 0, 0⟩ } s y ∧ y.clock = s.clock ∧
      y.drums = s.drums ∧
      Counted (countsOf d) (SideCounts.took (s.clampK ((s.depth.get d).K + r) - (s.depth.get d).K) (s.overlooked d dir m)) s y ∧
      y.depth.get d =
        (s.depth.get d).moved (s.clampK ((s.depth.get d).K + r)) (s.expectBeyond d dir (m.depth dir)) ∧
      s.acceptEdge d dir m r = if (s.depth.get d).relocks then
        (y.judgeClamp d (decide (s.clampK ((s.depth.get d).K + r) ≠ (s.depth.get d).K + r))).clearSearch d
      else y.judgeClamp d (decide (s.clampK ((s.depth.get d).K + r) ≠ (s.depth.get d).K + r)) := by
  obtain ⟨K, hK⟩ : ∃ K, s.clampK ((s.depth.get d).K + r) = K := ⟨_, rfl⟩
  obtain ⟨n, hn⟩ : ∃ n, s.overlooked d dir m = n := ⟨_, rfl⟩
  obtain ⟨z, hz⟩ : ∃ z, ((s.countSide d addAccepted).countSide d (addCorrection (K - (s.depth.get d).K))).handMissed d n = z :=
    ⟨_, rfl⟩
  have hframe : z.clock = s.clock ∧ z.drums = s.drums ∧ z.depth = s.depth := by
    rw [← hz, (State.handMissed_frame _ d n).1, (State.handMissed_frame _ d n).2.1, (State.handMissed_frame _ d n).2.2]
    simp
  have hkeeps : Keeps { edgeWatch d with track := fun _ => False, count := fun _ => ⟨0, 0, 0, 0, 0⟩ } s z := by
    rw [← hz]
    exact ((keeps_countSide _ d _ (fun _ => rfl)).trans (keeps_countSide _ d _ fun _ => rfl)).trans
      (keeps_handMissed _ d n fun _ _ => rfl)
  have hcounted : Counted (countsOf d) (SideCounts.took (K - (s.depth.get d).K) n) s z := by
    have hall := ((counted_own s d addAccepted).trans (counted_own _ d (addCorrection (K - (s.depth.get d).K)))).trans
      (counted_handMissed _ d n)
    rw [hz] at hall
    exact ⟨hall.closed, fun w v hw hv => (hall.counts w v hw hv).trans (repeat_addMissed _ _)⟩
  rw [hK, hn]
  obtain ⟨hclock, hdrums, hdepth⟩ := hframe
  have hchanged (t : Track) := z.changeTrack_frame d t (some m.id)
  refine ⟨z.changeTrack d _ (some m.id), hkeeps.trans (keeps_changeTrack z d _ _ id), (hchanged _).1.trans hclock,
    (hchanged _).2.trans hdrums, ?_, z.changeTrack_own d _ _, ?_⟩
  · exact hcounted.trans ((keeps_changeTrack (k := { edgeWatch d with track := fun _ => False }) z d _ _ id).counted
      fun _ _ h => h)
  · unfold State.overlooked at hn
    unfold State.acceptEdge Track.moved
    dsimp only
    rw [hK, ← hz, ← hn]
    obtain ⟨l, hlock⟩ : ∃ l, (s.depth.get d).lock = l := ⟨_, rfl⟩
    cases l with
    | unreferenced => exact absurd hlock hun
    | lost => exact absurd hlock hlost
    | searching => simp [Track.relocks, hlock, Lock.referenced, State.handMissed]
    | aligning => simp [Track.relocks, hlock, Lock.referenced, State.handMissed]
    | locked => simp [Track.relocks, hlock, Lock.referenced]
    | suspect => simp [Track.relocks, hlock, Lock.referenced]

end

/-- What an accepted edge has made of a side by the state `t`, with K moved, its clamp and the markers passed over. -/
structure Taken (s t : State) (d : Side) (K : Int) (next : Option Nat) (clamped : Bool) (missed : Nat) : Prop where
  own : t.depth.get d = { (s.depth.get d).moved K next with
    limitFlag := clamped
    searchFlag := if (s.depth.get d).relocks then false else (s.depth.get d).searchFlag }
  sets : clamped = true → (s.depth.get d).limitFlag = false → 35 ∈ t.trip.causes ∧ .correctionLimit d ∈ t.trip.active
  clears : clamped = false → (s.depth.get d).limitFlag = true → .correctionLimit d ∉ t.trip.active
  ends : (s.depth.get d).relocks → (s.depth.get d).searchFlag = true →
    .referenceSearch d ∉ t.trip.active ∧ t.Holds (s.stamped (.alarm (.referenceSearch d) false))
  counted : Counted (countsOf d) (SideCounts.took (K - (s.depth.get d).K) missed) s t

/-- Later work that leaves the side alone leaves what the edge has made of it. -/
theorem Taken.keeps {s t u : State} {d : Side} {K : Int} {next : Option Nat} {clamped : Bool} {missed : Nat}
    (h : Taken s t d K next clamped missed) (g : Keeps (edgeWatch d) t u) : Taken s u d K next clamped missed where
  own := (g.track d rfl).trans h.own
  sets hc hf := ⟨g.causes (h.sets hc hf).1, (g.entry _ rfl (.inl rfl)).mpr (h.sets hc hf).2⟩
  clears hc hf hmem := h.clears hc hf ((g.entry _ rfl (.inl rfl)).mp hmem)
  ends hr hf := ⟨fun hmem => (h.ends hr hf).1 ((g.entry _ rfl (.inr rfl)).mp hmem), g.holds _ (h.ends hr hf).2⟩
  counted := h.counted.trans (g.counted fun _ _ hn => hn)

theorem Track.moved_flags (t : Track) (K : Int) (next : Option Nat) :
    (t.moved K next).limitFlag = t.limitFlag ∧ (t.moved K next).searchFlag = t.searchFlag := by
  unfold Track.moved
  (repeat' split) <;> exact ⟨rfl, rfl⟩

section
variable {s : State} {d : Side} {dir : Dir} {m : Marker} {r : Int}

/-- The settlement of an accepted edge for its own side (R68 to R71, R75, R77). -/
theorem State.acceptEdge_taken (hun : (s.depth.get d).lock ≠ .unreferenced) (hlost : (s.depth.get d).lock ≠ .lost) :
    Taken s (s.acceptEdge d dir m r) d (s.clampK ((s.depth.get d).K + r)) (s.expectBeyond d dir (m.depth dir))
      (decide (s.clampK ((s.depth.get d).K + r) ≠ (s.depth.get d).K + r)) (s.overlooked d dir m) ∧
    (s.acceptEdge d dir m r).drums = s.drums := by
  obtain ⟨y, hkeeps, hclock, hdrums, hcounted, hown, heq⟩ := State.acceptEdge_split (dir := dir) (m := m) (r := r) hun hlost
  obtain ⟨hlimit, hsearch⟩ :=
    (s.depth.get d).moved_flags (s.clampK ((s.depth.get d).K + r)) (s.expectBeyond d dir (m.depth dir))
  generalize decide (s.clampK ((s.depth.get d).K + r) ≠ (s.depth.get d).K + r) = c at *
  rw [← hown] at hlimit hsearch
  obtain ⟨hsets, hclears⟩ := y.judgeClamp_advises d c
  rw [hlimit] at hsets hclears
  have hclampOwn := y.judgeClamp_own d c
  have hclampDrums : (y.judgeClamp d c).drums = y.drums := by
    unfold State.judgeClamp
    dsimp only
    split
    next => rw [State.setAdvisory_eq]; rfl
    next =>
      split
      next => rw [State.clearAdvisory_eq]; rfl
      next => rfl
  have hclampClock : (y.judgeClamp d c).clock = y.clock := (work_judgeClamp y d c).clock
  have hclamp : Keeps { edgeWatch d with track := fun _ => False, entry := fun c => c = .referenceSearch d } y
      (y.judgeClamp d c) := keeps_judgeClamp y d c id nofun
  by_cases hrelocks : (s.depth.get d).relocks
  · rw [if_pos hrelocks] at heq
    have hclear : Keeps { edgeWatch d with track := fun _ => False, entry := fun c => c = .correctionLimit d }
        (y.judgeClamp d c) ((y.judgeClamp d c).clearSearch d) := keeps_clearSearch _ d id nofun
    have hclearDrums : ((y.judgeClamp d c).clearSearch d).drums = (y.judgeClamp d c).drums := by
      unfold State.clearSearch
      dsimp only
      split
      next => rw [State.clearAdvisory_eq]; rfl
      next => rfl
    have hends := (y.judgeClamp d c).clearSearch_clears d
    have hclearOwn := (y.judgeClamp d c).clearSearch_own d
    rw [hclampOwn] at hends hclearOwn
    rw [heq]
    refine ⟨⟨?_, fun hc hf => ?_, fun hc hf hmem => ?_, fun _ hf => ?_, ?_⟩, ?_⟩
    · rw [hclearOwn, hown, if_pos hrelocks]
    · exact ⟨hclear.causes (hsets hc hf).1, (hclear.entry _ rfl rfl).mpr (hsets hc hf).2⟩
    · exact hclears hc hf ((hclear.entry _ rfl rfl).mp hmem)
    · obtain ⟨hgone, hheld⟩ := hends (hsearch.trans hf)
      rw [State.stamped_congr (hclampClock.trans hclock)] at hheld
      exact ⟨hgone, hheld⟩
    · exact (hcounted.trans (hclamp.counted fun _ _ hn => hn)).trans (hclear.counted fun _ _ hn => hn)
    · rw [hclearDrums, hclampDrums, hdrums]
  · rw [if_neg hrelocks] at heq
    rw [heq]
    refine ⟨⟨?_, hsets, hclears, fun hr => absurd hr hrelocks, hcounted.trans (hclamp.counted fun _ _ hn => hn)⟩, ?_⟩
    · rw [hclampOwn, hown, if_neg hrelocks, ← hsearch, hown]
    · rw [hclampDrums, hdrums]

end

end Sys2Proof.Machine
end


section
/-! A marker edge side by side (R64 to R66), and the edges that are claimed (R68 to R71). -/

namespace Sys2Proof.Machine

/-! ## What the edge does to a side before its part is formed (R64) -/

/-- The marker that a side at rest expects after an edge on a line (R64, R75). -/
def State.satisfied (s : State) (d : Side) (line : Fin 16) : Option Nat :=
  ((s.depth.get d).lastDir.bind fun dir => (s.expected d).bind fun e =>
    if e.line = line.val then some (s.expectBeyond d dir (e.depth dir)) else none).getD (s.depth.get d).next

/-- The track of a side that has met an edge (R64). -/
def State.metTrack (s : State) (d : Side) (line : Fin 16) : Track :=
  if s.stationaryAtEdge d then { s.depth.get d with next := s.satisfied d line }
  else if (s.depth.get d).lock = .unreferenced then (s.depth.get d).searchingNow else s.depth.get d

theorem State.satisfy_own (s : State) (d : Side) (line : Fin 16) :
    s.satisfy d line = s.setTrack d { s.depth.get d with next := s.satisfied d line } := by
  have hsame {n : Option Nat} (h : n = (s.depth.get d).next) : s = s.setTrack d { s.depth.get d with next := n } := by
    unfold State.setTrack
    rw [h, PerSide.set_self _ _ _ rfl]
    rfl
  unfold State.satisfy
  dsimp only
  split
  next dir e hdir he =>
    have hsat : s.satisfied d line = if e.line = line.val then s.expectBeyond d dir (e.depth dir) else (s.depth.get d).next := by
      unfold State.satisfied
      rw [hdir, Option.bind_some, he, Option.bind_some]
      split <;> rfl
    rw [hsat]
    split
    next => rfl
    next => exact hsame rfl
  next hno =>
    refine hsame ?_
    unfold State.satisfied
    cases hdir : (s.depth.get d).lastDir with
    | none => rfl
    | some dir =>
      cases he : s.expected d with
      | none => rfl
      | some e => exact absurd he (hno dir e hdir)

theorem State.meetEdge_own (s : State) (d : Side) (line : Fin 16) :
    (s.meetEdge d line).depth = s.depth.set d (s.metTrack d line) := by
  have hset : s.depth.set d (s.depth.get d) = s.depth := PerSide.set_self _ _ _ rfl
  have hchange (t : Track) : (s.changeTrack d t none).depth = s.depth.set d t := by
    unfold State.changeTrack
    dsimp only
    split
    next => rfl
    next => rw [State.report_depth]; rfl
  unfold State.meetEdge State.metTrack
  split
  next => rw [State.satisfy_own]; rfl
  next =>
    split
    next => exact hchange _
    next => exact hset.symm

/-- Meeting an edge moves the tracks, and the port for a LOCK report. -/
theorem State.meetEdge_frame (s : State) (d : Side) (line : Fin 16) : s.meetEdge d line =
    { s with link := (s.meetEdge d line).link, depth := (s.meetEdge d line).depth } := by
  unfold State.meetEdge
  split
  next => rw [State.satisfy_own]; rfl
  next =>
    split
    next =>
      unfold State.enterSearching State.changeTrack
      dsimp only
      split
      next => rfl
      next => rw [State.report_eq]; rfl
    next => rfl

theorem State.meetEdge_link {s : State} {d : Side} (h : s.stationaryAtEdge d = true) (line : Fin 16) :
    (s.meetEdge d line).link = s.link := by
  unfold State.meetEdge
  rw [if_pos h, State.satisfy_own]
  rfl

/-- The state of an edge that both sides have met. -/
def State.metEdge (s : State) (line : Fin 16) : State := (s.meetEdge .one line).meetEdge .two line

theorem work_metEdge (s : State) (line : Fin 16) : Work s (s.metEdge line) := (work_meetEdge s .one line).trans (work_meetEdge _ .two line)

theorem State.metEdge_frame (s : State) (line : Fin 16) : s.metEdge line =
    { s with link := (s.metEdge line).link, depth := (s.metEdge line).depth } := by
  unfold State.metEdge
  have hone := s.meetEdge_frame .one line
  generalize s.meetEdge .one line = a at *
  rw [a.meetEdge_frame .two line, hone]

/-- Meeting an edge moves no drum and no rope. -/
theorem State.metEdge_still (s : State) (line : Fin 16) (d : Side) :
    (s.metEdge line).stationaryAtEdge d = s.stationaryAtEdge d := by
  unfold State.stationaryAtEdge State.stationary State.speed
  rw [s.metEdge_frame line]

theorem State.metEdge_link {s : State} (hone : s.stationaryAtEdge .one = true) (htwo : s.stationaryAtEdge .two = true)
    (line : Fin 16) : (s.metEdge line).link = s.link := by
  have hframe := s.meetEdge_frame .one line
  have hlink := State.meetEdge_link hone line
  unfold State.metEdge
  generalize s.meetEdge .one line = a at *
  rw [State.meetEdge_link ?_ line, hlink]
  rw [hframe]
  exact htwo

theorem State.metTrack_congr {s t : State} {d : Side} (htrack : t.depth.get d = s.depth.get d) (hdrums : t.drums = s.drums)
    (htable : t.table = s.table) (line : Fin 16) : t.metTrack d line = s.metTrack d line := by
  unfold State.metTrack State.satisfied State.expectBeyond State.expected State.markersOf State.markers
    State.stationaryAtEdge State.stationary State.speed
  rw [htrack, hdrums, htable]

theorem State.metEdge_own (s : State) (d : Side) (line : Fin 16) : (s.metEdge line).depth.get d = s.metTrack d line := by
  have hone := s.meetEdge_own .one line
  have hframe := s.meetEdge_frame .one line
  unfold State.metEdge
  generalize s.meetEdge .one line = a at *
  rw [State.meetEdge_own, hone]
  cases d with
  | one => rfl
  | two =>
    refine State.metTrack_congr ?_ ?_ ?_ line
    · rw [hone]; rfl
    · rw [hframe]
    · rw [hframe]

/-! ## The settlement, side by side (R66) -/

theorem exec_markerEdge (line : Fin 16) (s : State) : exec (.markerEdge line) s =
    .next (if s.hasTable then ((s.setLine line true).judgeEdge line).transmit else s.setLine line true) := rfl

/-- The judgement of an edge, seen from one side: what the other side's settlement leaves of it before its own, and after. -/
theorem State.judgeEdge_split (s : State) (line : Fin 16) (d : Side) : ∃ claimed marked a, Work (s.metEdge line) a ∧
    Keeps (edgeWatch d) (s.metEdge line) a ∧
    Keeps (edgeWatch d) (a.settleSide d claimed marked ((s.metEdge line).edgePart d line)) (s.judgeEdge line) ∧
    ((s.metEdge line).edgePart d.other line = .out → a = s.metEdge line ∧
      s.judgeEdge line = a.settleSide d claimed marked ((s.metEdge line).edgePart d line)) := by
  cases d with
  | one =>
    refine ⟨_, _, s.metEdge line, .rfl, .rfl, keeps_settleOther _ .one _ _ _, fun hout => ⟨rfl, ?_⟩⟩
    have hout' : (s.metEdge line).edgePart .two line = .out := hout
    show State.settleSide _ .two _ _ ((s.metEdge line).edgePart .two line) = _
    rw [hout']
    rfl
  | two =>
    refine ⟨_, _, _, work_settleSide _ .one _ _ _, keeps_settleOther _ .two _ _ _, .rfl, fun hout => ⟨?_, rfl⟩⟩
    have hout' : (s.metEdge line).edgePart .one line = .out := hout
    show State.settleSide _ .one _ _ ((s.metEdge line).edgePart .one line) = _
    rw [hout']
    rfl

theorem keeps_fromMet (s : State) (line : Fin 16) : Keeps .nothing (s.metEdge line) (s.judgeEdge line) :=
  (keeps_settleSide _ .one _ _ _ id id id id id id fun _ _ => rfl).trans
    (keeps_settleSide _ .two _ _ _ id id id id id id fun _ _ => rfl)

/-- The part of a moving side that claims or leaves an edge, outside an arbitration (R65). -/
theorem State.edgePart_judged {s : State} {d : Side} {line : Fin 16} {m : Marker} {depth : Int}
    (hmoves : s.stationaryAtEdge d = false) (hlost : (s.depth.get d).lock ≠ .lost) (harb : s.arbitrates d = false)
    (hdepth : s.edgeDepth d (s.capturedPayout d) = depth)
    (hm : candidate (dirOfSpeed (s.speed d)) depth (s.markersOn d line) = some m) :
    s.edgePart d line = .judged (dirOfSpeed (s.speed d)) m (m.residual (dirOfSpeed (s.speed d)) depth)
      (decide (mag (m.residual (dirOfSpeed (s.speed d)) depth) ≤ s.edgeBand d)) none := by
  unfold State.edgePart State.partOf
  rw [if_neg (ne_true_of_eq_false hmoves), if_neg hlost, if_neg (ne_true_of_eq_false harb), hdepth]
  dsimp only
  rw [hm]

theorem State.edgePart_out {s : State} {d : Side} (h : s.stationaryAtEdge d = true) (line : Fin 16) :
    s.edgePart d line = .out := if_pos h

/-! ## The edges that a side claims (R68 to R71) -/

theorem Work.clampK {s t : State} (h : Work s t) (k : Int) : t.clampK k = s.clampK k := by
  unfold State.clampK State.authority
  rw [h.active]

theorem Work.overlooked {s t : State} (h : Work s t) {d : Side} (htrack : t.depth.get d = s.depth.get d) (dir : Dir) (m : Marker) :
    t.overlooked d dir m = s.overlooked d dir m := by
  unfold State.overlooked State.passedOver State.expected
  rw [htrack, h.markersOf]

/-- What the other side's settlement has left of a side before its own accepted edge. -/
theorem Taken.after {s a t : State} {d : Side} {K : Int} {next : Option Nat} {clamped : Bool} {missed : Nat}
    (hwork : Work s a) (g : Keeps (edgeWatch d) s a) (h : Taken a t d K next clamped missed) :
    Taken s t d K next clamped missed := by
  have htrack : a.depth.get d = s.depth.get d := g.track d rfl
  obtain ⟨hown, hsets, hclears, hends, hcounted⟩ := h
  rw [htrack] at hown hsets hclears hends hcounted
  rw [hwork.stamped] at hends
  exact ⟨hown, hsets, hclears, hends, (g.counted fun _ _ hn => hn).trans hcounted⟩

theorem State.stationaryAtEdge_iff (s : State) (d : Side) :
    s.stationaryAtEdge d = true ↔ s.stationary d = true ∨ (s.drums.drum.get d).state = .lost := by
  unfold State.stationaryAtEdge
  rw [Bool.or_eq_true, decide_eq_true_iff]

/-- A side that moves and claims an edge, outside an arbitration (R65, R66, R68). -/
theorem State.judgeEdge_takes {s : State} {d : Side} {line : Fin 16} {dir : Dir} {depth : Int} {m : Marker}
    (hmoves : s.stationaryAtEdge d = false) (hlost : (s.depth.get d).lock ≠ .lost) (harb : s.arbitrates d = false)
    (hdir : dirOfSpeed (s.speed d) = dir) (hdepth : s.edgeDepth d (s.capturedPayout d) = depth)
    (hm : candidate dir depth (s.markersOn d line) = some m)
    (hband : mag (m.depth dir - depth) ≤
      if (s.depth.get d).lock = .searching ∨ (s.depth.get d).lock = .unreferenced then s.sup.search else s.sup.capture) :
    Taken (s.metEdge line) (s.judgeEdge line) d (s.clampK ((s.depth.get d).K + (m.depth dir - depth)))
      (s.expectBeyond d dir (m.depth dir))
      (decide (s.clampK ((s.depth.get d).K + (m.depth dir - depth)) ≠ (s.depth.get d).K + (m.depth dir - depth)))
      (s.overlooked d dir m) ∧
    (s.stationaryAtEdge d.other = true → (s.judgeEdge line).drums = s.drums) := by
  obtain ⟨claimed, marked, a, hwork, hbefore, hafter, hout⟩ := s.judgeEdge_split line d
  have hmet := work_metEdge s line
  have hown : (s.metEdge line).depth.get d =
      if (s.depth.get d).lock = .unreferenced then (s.depth.get d).searchingNow else s.depth.get d := by
    rw [State.metEdge_own]
    exact if_neg (ne_true_of_eq_false hmoves)
  have hframe := s.metEdge_frame line
  have hstill := s.metEdge_still line
  generalize s.metEdge line = u at *
  have hdrums : u.drums = s.drums := by rw [hframe]
  have hrope : u.rope = s.rope := by rw [hframe]
  have hK : (u.depth.get d).K = (s.depth.get d).K := by rw [hown]; split <;> rfl
  have hlocks : (u.depth.get d).lock =
      if (s.depth.get d).lock = .unreferenced then .searching else (s.depth.get d).lock := by rw [hown]; split <;> rfl
  have hdepthu : u.edgeDepth d (u.capturedPayout d) = depth := by
    unfold State.edgeDepth State.capturedPayout at *
    rw [hmet.sideData, hmet.payoutOf, hdrums, hrope, hK]
    exact hdepth
  have harbu : u.arbitrates d = false := by
    unfold State.arbitrates at *
    rw [hdrums, hlocks]
    split
    next => simp
    next => exact harb
  have hspeed : dirOfSpeed (u.speed d) = dir := by unfold State.speed at *; rw [hdrums]; exact hdir
  have hmarkers : u.markersOn d line = s.markersOn d line := by unfold State.markersOn; rw [hmet.markersOf]
  have hlostu : (u.depth.get d).lock ≠ .lost := by
    rw [hlocks]
    split
    next => exact nofun
    next => exact hlost
  have hunu : (u.depth.get d).lock ≠ .unreferenced := by
    rw [hlocks]
    split
    next => exact nofun
    next h => exact h
  have hpart := State.edgePart_judged (line := line) (m := m) ((hstill d).trans hmoves) hlostu harbu hdepthu
    (by rw [hspeed, hmarkers]; exact hm)
  have hclaims : decide (mag (m.residual dir depth) ≤ u.edgeBand d) = true := by
    refine decide_eq_true (Int.le_trans hband (Int.le_of_eq ?_))
    unfold State.edgeBand
    rw [hlocks, hmet.sup]
    by_cases hun : (s.depth.get d).lock = .unreferenced <;> simp [hun]
  rw [hspeed, hclaims] at hpart
  have htrack : a.depth.get d = u.depth.get d := hbefore.track d rfl
  obtain ⟨htaken, hkept⟩ := State.acceptEdge_taken (s := a) (d := d) (dir := dir) (m := m) (r := m.residual dir depth)
    (by rw [htrack]; exact hunu) (by rw [htrack]; exact hlostu)
  have hover : a.overlooked d dir m = s.overlooked d dir m := by
    rw [hwork.overlooked htrack]
    by_cases hun : (s.depth.get d).lock = .unreferenced
    · unfold State.overlooked
      rw [hlocks, if_pos hun, hun]
      rfl
    · exact hmet.overlooked (hown.trans (if_neg hun)) dir m
  rw [hwork.clampK, hmet.clampK, hwork.expectBeyond, hmet.expectBeyond, hover, htrack, hK] at htaken
  have hsettle : a.settleSide d claimed marked (u.edgePart d line) = a.acceptEdge d dir m (m.residual dir depth) := by
    rw [hpart]
    rfl
  rw [hsettle] at hafter hout
  refine ⟨.after hwork hbefore (htaken.keeps hafter), fun hrest => ?_⟩
  obtain ⟨hsame, hend⟩ := hout (State.edgePart_out ((hstill _).trans hrest) line)
  rw [hend, hkept, hsame, hdrums]

end Sys2Proof.Machine
end


section
/-! Marker edges that correct the depth, and sides at rest (R64, R68 to R71, R75, R77). -/

namespace Sys2Proof.Machine

section
variable {s u t : State} {d : Side} {K : Int} {next : Option Nat} {clamped : Bool} {missed : Nat}

/-- What the counts of a side become over an accepted edge, in the record of the wind that is open. -/
theorem Taken.windRuns (h : Taken u t d K next clamped missed) (hwind : u.wind = s.wind) (htrip : u.trip = s.trip)
    (hkeeps : Keeps .nothing u t) :
    s.WindRuns t.transmit fun w v => v.counts.get d = (w.counts.get d).took (K - (u.depth.get d).K) missed := by
  have hruns := hkeeps.windRuns h.counted
  have hlatches (x : State) : x.transmit.latches = x.latches := by
    unfold State.latches
    rw [State.transmit_latched]
  have hsame : u.latches = s.latches := by
    unfold State.latches State.latched
    rw [htrip]
  unfold State.WindRuns at *
  rw [State.transmit_wind, hlatches, ← hwind, ← hsame]
  exact hruns

theorem Taken.track (h : Taken u t d K next clamped missed) : (t.depth.get d).K = K ∧ (t.depth.get d).limitFlag = clamped ∧
    ((u.depth.get d).lock = .searching → (t.depth.get d).lock = .aligning) := by
  rw [h.own]
  refine ⟨?_, rfl, fun hs => ?_⟩
  · show ((u.depth.get d).moved K next).K = K
    unfold Track.moved
    (repeat' split) <;> rfl
  · show ((u.depth.get d).moved K next).lock = .aligning
    unfold Track.moved
    rw [if_pos hs]

/-- The track of a side that an accepted edge leaves LOCKED (R70, R75, R77). -/
theorem Taken.locked (h : Taken u t d K next clamped missed) (hs : (u.depth.get d).lock ≠ .searching) :
    (t.depth.get d).lock = .locked ∧ (t.depth.get d).rejects = 0 ∧ (t.depth.get d).next = next ∧
    ((u.depth.get d).lock = .locked → (t.depth.get d).travelled = (u.depth.get d).travelled ∧
      (t.depth.get d).searches = (u.depth.get d).searches ∧ (t.depth.get d).searchFlag = (u.depth.get d).searchFlag) ∧
    ((u.depth.get d).lock ≠ .locked → (t.depth.get d).travelled = 0 ∧ (t.depth.get d).searches = 0) ∧
    ((u.depth.get d).relocks → (t.depth.get d).searchFlag = false) := by
  have hown := h.own
  unfold Track.moved at hown
  rw [if_neg hs] at hown
  rw [hown]
  by_cases hl : (u.depth.get d).lock = .locked
  · have hno : ¬(u.depth.get d).relocks := by
      unfold Track.relocks
      rw [hl]
      decide
    rw [if_pos hl, if_neg hno]
    exact ⟨hl, rfl, rfl, fun _ => ⟨rfl, rfl, rfl⟩, fun hne => absurd hl hne, fun hr => absurd hr hno⟩
  · rw [if_neg hl]
    exact ⟨rfl, rfl, rfl, fun heq => absurd heq hl, fun _ => ⟨rfl, rfl⟩, fun hr => if_pos hr⟩

end

/-- An edge with the side `d` at rest leaves that side the marker it expects then (R64). -/
theorem State.judgeEdge_rest {s : State} {d : Side} (h : s.stationaryAtEdge d = true) (line : Fin 16) :
    (s.judgeEdge line).depth.get d = { s.depth.get d with next := s.satisfied d line } := by
  obtain ⟨claimed, marked, a, -, hbefore, hafter, -⟩ := s.judgeEdge_split line d
  rw [State.edgePart_out ((s.metEdge_still line d).trans h)] at hafter
  rw [hafter.track d rfl]
  refine (hbefore.track d rfl).trans ?_
  rw [State.metEdge_own]
  exact if_pos h

/-- With both sides at rest an edge does no more than the sides' meeting it. -/
theorem State.judgeEdge_allRest {s : State} (hone : s.stationaryAtEdge .one = true) (htwo : s.stationaryAtEdge .two = true)
    (line : Fin 16) : s.judgeEdge line = s.metEdge line := by
  obtain ⟨claimed, marked, a, -, -, -, hout⟩ := s.judgeEdge_split line .one
  obtain ⟨ha, hend⟩ := hout (State.edgePart_out ((s.metEdge_still line .two).trans htwo) line)
  rw [hend, ha, State.edgePart_out ((s.metEdge_still line .one).trans hone)]
  rfl

/-- The marker that a side at rest expects, written out by its direction and its expected marker. -/
theorem State.satisfied_eq {s : State} {d : Side} {line : Fin 16} :
    (∀ dir e, (s.depth.get d).lastDir = some dir → s.expected d = some e →
      s.satisfied d line = if e.line = line.val then s.expectBeyond d dir (e.depth dir) else (s.depth.get d).next) ∧
    ((s.depth.get d).lastDir = none ∨ s.expected d = none → s.satisfied d line = (s.depth.get d).next) := by
  unfold State.satisfied
  refine ⟨fun dir e hdir he => ?_, fun h => ?_⟩
  · rw [hdir, Option.bind_some, he, Option.bind_some]
    split <;> rfl
  · rcases h with h | h
    · rw [h]; rfl
    · rw [h]; cases (s.depth.get d).lastDir <;> rfl

theorem Lock.suspect_of_referenced {l : Lock} : l.referenced = true → l ≠ .locked → l = .suspect := by
  cases l <;> decide

/-- Settles O48: both sides meet the edge; a side at rest has no part in it, and a side that claims it is settled by its own
acceptance, whatever the other side does before and after. -/
theorem markerEdgesCorrectTheDepth : Obligations.MarkerEdgesCorrectTheDepth := by
  intro line s pins rest beyond
  have hexec (h : s.hasTable = true) : exec (.markerEdge line) s = .next ((s.setLine line true).judgeEdge line).transmit := by
    rw [exec_markerEdge, if_pos h]
  have hrest (d : Side) : rest d ↔ (s.setLine line true).stationaryAtEdge d = true :=
    ((s.setLine line true).stationaryAtEdge_iff d).symm
  have hbeyond (d : Side) : (s.setLine line true).satisfied d line = beyond d := by
    obtain ⟨hsome, hnone⟩ := State.satisfied_eq (s := s.setLine line true) (d := d) (line := line)
    show _ = (match (s.depth.get d).lastDir, s.expected d with
      | some dir, some e => if e.line = line.val then s.expectBeyond d dir (e.depth dir) else (s.depth.get d).next
      | _, _ => (s.depth.get d).next)
    split
    next dir e hdir he => exact hsome dir e hdir he
    next hno =>
      refine hnone ?_
      cases hdir : (s.depth.get d).lastDir with
      | none => exact .inl hdir
      | some dir =>
        cases he : s.expected d with
        | none => exact .inr he
        | some e => exact absurd he (hno dir e hdir)
  refine ⟨fun h => ?_, fun h hone htwo => ⟨_, hexec h, ?_⟩, fun d h hd => ⟨_, hexec h, ?_⟩, fun d h hmoves harb => ?_⟩
  · rw [exec_markerEdge, if_neg (ne_true_of_eq_false h)]
    rfl
  · have hone' := (hrest .one).mp hone
    have htwo' := (hrest .two).mp htwo
    have hlink := State.metEdge_link hone' htwo' line
    have hframe := (s.setLine line true).metEdge_frame line
    rw [State.judgeEdge_allRest hone' htwo']
    generalize (s.setLine line true).metEdge line = u at *
    refine ⟨State.told_nothing hlink, ?_, ?_⟩
    · rw [State.transmit_pins, hframe]; rfl
    · rw [State.transmit_eq, hframe]; rfl
  · refine (congrArg (PerSide.get · d) (State.transmit_depth _)).trans ((State.judgeEdge_rest ((hrest d).mp hd) line).trans ?_)
    rw [hbeyond]
    rfl
  · intro x dir depth m hm r K clamped taken
    have hstill : (s.setLine line true).stationaryAtEdge d = false := by
      have hno := mt (hrest d).mpr hmoves
      rwa [Bool.not_eq_true] at hno
    have hmetOwn : ((s.setLine line true).metEdge line).depth.get d =
        if x.lock = .unreferenced then x.searchingNow else x := by
      rw [State.metEdge_own]
      exact if_neg (ne_true_of_eq_false hstill)
    have htakes (hlost : x.lock ≠ .lost) (hband : mag r ≤
        if x.lock = .searching ∨ x.lock = .unreferenced then s.sup.search else s.sup.capture) :=
      State.judgeEdge_takes (s := s.setLine line true) (dir := dir) (depth := depth) (m := m) hstill hlost harb rfl rfl hm hband
    have hframe := (s.setLine line true).metEdge_frame line
    have hkeeps := keeps_fromMet (s.setLine line true) line
    have hpins := (work_judgeEdge (s.setLine line true) line).pins
    generalize (s.setLine line true).metEdge line = u at *
    generalize (s.setLine line true).judgeEdge line = t at *
    have hmet : (u.depth.get d).K = x.K ∧ (u.depth.get d).limitFlag = x.limitFlag ∧
        (u.depth.get d).searchFlag = x.searchFlag ∧ (u.depth.get d).lock ≠ .unreferenced := by
      rw [hmetOwn]
      split
      next => exact ⟨rfl, rfl, rfl, nofun⟩
      next hno => exact ⟨rfl, rfl, rfl, hno⟩
    obtain ⟨hK, hlimit, hsearch, hun⟩ := hmet
    have htaken {next : Option Nat} {missed : Nat} (T : Taken u t d K next (decide clamped) missed)
        (hkept : (s.setLine line true).stationaryAtEdge d.other = true → t.drums = s.drums) : taken t.transmit missed := by
      obtain ⟨htrackK, hflag, -⟩ := T.track
      have hsets := T.sets
      have hclears := T.clears
      have hruns := T.windRuns (s := s) (by rw [hframe]; rfl) (by rw [hframe]; rfl) hkeeps
      rw [hlimit] at hsets hclears
      simp only [hK, SideCounts.took_eq] at hruns
      unfold taken
      rw [State.transmit_depth, State.transmit_pins, State.transmit_drums, State.transmit_trip]
      exact ⟨htrackK, hpins, fun hr => hkept ((hrest _).mp hr), hflag, fun hc => hsets (decide_eq_true hc),
        fun hc => hclears (decide_eq_false hc), hruns⟩
    refine ⟨fun hlock hband => ⟨_, hexec h, ?_⟩, fun hlock hband => ⟨_, hexec h, ?_⟩⟩
    · have hlost : x.lock ≠ .lost := by rcases hlock with hl | hl <;> rw [hl] <;> decide
      obtain ⟨T, hkept⟩ := htakes hlost (by rw [if_pos hlock]; exact hband)
      have hover : (s.setLine line true).overlooked d dir m = 0 := by
        refine if_neg (ne_true_of_eq_false ?_)
        show x.lock.referenced = false
        rcases hlock with hl | hl <;> rw [hl] <;> rfl
      have hsearching : (u.depth.get d).lock = .searching := by
        rw [hmetOwn]
        rcases hlock with hl | hl
        · rw [if_neg (by rw [hl]; decide)]; exact hl
        · rw [if_pos hl]; rfl
      rw [hover] at T
      refine ⟨htaken T hkept, ?_⟩
      rw [State.transmit_depth]
      exact T.track.2.2 hsearching
    · have hnot : x.lock ≠ .searching ∧ x.lock ≠ .unreferenced ∧ x.lock ≠ .lost := by
        revert hlock
        generalize x.lock = l
        cases l <;> decide
      obtain ⟨hns, hnu, hlost⟩ := hnot
      obtain ⟨T, hkept⟩ := htakes hlost (by rw [if_neg (by rintro (hl | hl) <;> contradiction)]; exact hband)
      have hover : (s.setLine line true).overlooked d dir m = if x.lock = .aligning then 0 else s.passedOver d dir m := by
        show (if x.lock.referenced then s.passedOver d dir m else 0) = _
        rcases hlock with hl | hl
        · rw [if_pos hl, hl]; rfl
        · rw [if_pos hl, if_neg fun ha => by rw [ha] at hl; contradiction]
      have hsame : u.depth.get d = x := hmetOwn.trans (if_neg hnu)
      have hstamped : u.stamped = s.stamped := State.stamped_congr (by rw [hframe]; rfl)
      rw [hover] at T
      obtain ⟨hlocked, hrejects, hnext, hkeepsSearch, hends, hflag⟩ := T.locked (by rw [hsame]; exact hns)
      have hcleared := T.ends
      rw [hsame] at hkeepsSearch hends hflag hcleared
      rw [hstamped] at hcleared
      have hrelocks (hne : x.lock ≠ .locked) : x.relocks := hlock.imp_right fun hl => Lock.suspect_of_referenced hl hne
      refine ⟨htaken T hkept, ?_⟩
      rw [State.transmit_depth, State.transmit_trip]
      exact ⟨hlocked, hrejects, hnext, hkeepsSearch, fun hne => ⟨(hends hne).1, (hends hne).2, hflag (hrelocks hne),
        fun hf => ⟨(hcleared (hrelocks hne) hf).1, (hcleared (hrelocks hne) hf).2.sends⟩⟩⟩

end Sys2Proof.Machine
end
